-- ==== Sys2Proof/Word.lean ====
section
/-! DEFINITION. The byte, and the saturating addition that the counters of the manual use (00_scope.md 0.5.4).
Bytes are bit vectors, since the manual shifts and masks them (layouts of 5.9); every other quantity of the manual
is a whole number in stated units (0.5.1) and is a `Nat` or an `Int` here. -/

namespace Sys2Proof

/-- One byte of a frame, a burst or the configuration image. -/
abbrev Byte := BitVec 8

/-- Addition that stops at an upper bound and stays there (0.5.4). -/
def satAdd (bound a b : Nat) : Nat := min bound (a + b)

/-- A count of 0..65535, saturating, one higher. -/
def inc16 (n : Nat) : Nat := satAdd 65535 n 1

end Sys2Proof
end

