-- ==== Sys2Proof/Syntax.lean ====
section
/-! DEFINITION. The commands of the part: one constructor of `Instr` for each row of spec/opcode_table.json, with what
the event carries. The table lists no operands; the operands here are read from the rule each row names (assumption 16).
-/

namespace Sys2Proof

/-- The strap pins as they stand at a start: ID4..ID0, GRP1..GRP0 and RATE (0.4, R170). -/
structure Straps where
  id : BitVec 5
  grp : BitVec 2
  rate : Bool
deriving DecidableEq, Repr

/-- The configured figures of one string (2.1, 4.1, R171). -/
structure StringSettings where
  ratedAh : Nat
  nominalV : Nat
  endVoltage : Nat
deriving DecidableEq, Repr

/-- The configuration fields of R171: as the image spells them, or as they stand after clamping. -/
structure Settings where
  rating : Nat
  stringCount : Nat
  strings : List StringSettings
  designLife : Nat
  cycleCost : Nat
  dischargeThreshold : Nat
  hotLimit : Nat
  reviewThreshold : Nat
  replaceThreshold : Nat
  replaceCapacity : Nat
  testReference : Nat
  testLimit : Nat
  testInterval : Nat
  equalizeInterval : Nat
  equalizeDuration : Nat
  reserve : Nat
  minRuntime : Nat
  transferTimeout : Nat
  staticInterval : Nat
  breakerInterval : Nat
  keyPlanned : Nat
  riseCount : Nat
  fallCount : Nat
  levels : List Nat
  alertThreshold : Nat
deriving DecidableEq, Repr

/-- The configuration image as the memory port reads it: its 64 bytes, and the fields that the vendor's tool has
written into the first 62 of them. The manual gives the fields and their ranges but no byte positions (assumption 5). -/
structure Image where
  bytes : List Byte
  fields : Settings
deriving DecidableEq, Repr

/-- The eight retained pages (11.4). -/
inductive PageId where
  | cabinet
  | string (s : Nat)
  | queue (q : Nat)
deriving DecidableEq, Repr

/-- The kind of a claim (R106). -/
inductive ClaimKind where
  | withdraw
  | test
deriving DecidableEq, Repr

/-- The kind of a MAINS frame (5.9.2). -/
inductive MainsKind where
  | lost
  | restored
deriving DecidableEq, Repr

/-- A frame as a receiver takes it from the line, between its start bit and its last end bit (R72, 5.9.1). -/
structure RxFrame where
  cls : BitVec 4
  src : BitVec 5
  dst : BitVec 5
  len : BitVec 4
  payload : List Byte
  crc : BitVec 16
  ends : BitVec 3
deriving DecidableEq, Repr

/-- One command for each row of spec/opcode_table.json. `term` is the terminal that sends a REQUEST, `tag` its tag and
`args` its argument bytes (5.9.4). -/
inductive Instr where
  | resetNAsserted
  | start (straps : Straps) (image : Option Image) (unanswered : List PageId)
  | restartStart (straps : Straps) (image : Option Image) (unanswered : List PageId)
  | measurementBurst (bytes : List Byte) (extraBits : Nat) (early : Bool)
  | intakeSecondTimerExpiry
  | wearSecondTimerExpiry
  | equalizeMinuteTimerExpiry
  | testSecondTimerExpiry
  | frameStart
  | arbitrationLoss
  | frameAbandoned
  | frameSent
  | lineSynchronised
  | frameRejected (frame : RxFrame)
  | statusReceived (source : Nat) (payload : List Byte)
  | duplicateNumberHeard
  | claimReceived (source : Nat) (kind : ClaimKind)
  | releaseReceived (source : Nat) (kind : ClaimKind)
  | mainsReceived (source : Nat) (kind : MainsKind)
  | resultRecordReceived
  | statusTimerExpiry
  | joiningTimerExpiry
  | staleTimerExpiry (station : Nat)
  | claimWindowTimerExpiry
  | spacingTimerExpiry
  | confirmationTimerExpiry (station : Nat)
  | mainsOkChange (level : Bool)
  | mainsLossTimerExpiry
  | mainsQualificationTimerExpiry
  | breakerContactChange (mbpCl mbpOp : Bool)
  | disagreeTimerExpiry
  | pulseEnd
  | transferTimeout
  | returnTimeout
  | recoveryWaitExpiry
  | bypLoadChange (level : Bool)
  | keyInputChange (keyS keyW : Bool)
  | keySettleTimerExpiry
  | overdueTimerExpiry
  | hourTimerExpiry
  | memoryWriteDone
  | memoryWriteFail
  | visitOpen (term : Nat) (tag : Byte) (args : List Byte)
  | visitClose (term : Nat) (tag : Byte) (args : List Byte)
  | itemTake (term : Nat) (tag : Byte) (args : List Byte)
  | itemDone (term : Nat) (tag : Byte) (args : List Byte)
  | itemReturn (term : Nat) (tag : Byte) (args : List Byte)
  | withdraw (term : Nat) (tag : Byte) (args : List Byte)
  | returnRequest (term : Nat) (tag : Byte) (args : List Byte)
  | testNow (term : Nat) (tag : Byte) (args : List Byte)
  | equalizeNow (term : Nat) (tag : Byte) (args : List Byte)
  | stop (term : Nat) (tag : Byte) (args : List Byte)
  | clear (term : Nat) (tag : Byte) (args : List Byte)
  | forget (term : Nat) (tag : Byte) (args : List Byte)
  | read (term : Nat) (tag : Byte) (args : List Byte)
  | restart (term : Nat) (tag : Byte) (args : List Byte)
  | unknownRequestCode (term : Nat) (code tag : Byte) (args : List Byte)
  | powerLoss
deriving DecidableEq, Repr

end Sys2Proof
end

