-- ==== Sys2Proof/Machine/State.lean ====
section
/-! DEFINITION. The state of the part: every piece of state the manual gives it, as plain data, block by block
(00_scope.md 0.3.1), the retained pages that the external serial memory holds (assumption 4), the queue of waiting
commands, and the state right after reset. Ranges stand in INVENTORY.md. -/

namespace Sys2Proof.Machine

/-! ## Timers -/

/-- A timer: stopped, or running with the tenths of a second left to its expiry (assumption 2). -/
abbrev Timer := Option Nat

/-! ## Sample intake (chapter 1) -/

/-- The load states of R5. -/
inductive LoadState where
  | valid
  | degraded
deriving DecidableEq, Repr

/-- The temperature states of R6; `untaken` is the manual's NONE. -/
inductive TempState where
  | untaken
  | usable
  | lost
deriving DecidableEq, Repr

/-- What the intake keeps of one string (R3, R6, R10). -/
structure Reading where
  voltage : Nat
  current : Int
  present : Bool
  temp : Int
  tempAge : Nat
  tempState : TempState
deriving DecidableEq, Repr

/-- The sample intake (R10). -/
structure Intake where
  burstAge : Nat
  gap : Bool
  load : Nat
  loadAge : Nat
  loadState : LoadState
  readings : List Reading
  accepted : Nat
  crcDiscards : Nat
  shapeDiscards : Nat
  second : Timer
deriving DecidableEq, Repr

/-! ## String accounts (chapter 2) -/

/-- Whether a discharge event is open (2.1). -/
inductive EventState where
  | idle
  | inEvent
deriving DecidableEq, Repr

/-- The last test result (2.1); `untested` is the manual's NONE. -/
inductive TestResult where
  | untested
  | passed
  | ended
  | aborted
deriving DecidableEq, Repr

/-- The account record of one string (2.1). -/
structure Account where
  wear : Nat
  residue : Nat
  event : EventState
  charge : Nat
  tail : Nat
  events : Nat
  measured : Nat
  lastTest : TestResult
  testCharge : Nat
  testEndHour : Nat
  installHour : Nat
  reviewCrossed : Bool
  replaceCrossed : Bool
  health : Nat
  available : Nat
deriving DecidableEq, Repr

/-- The string accounts with the cabinet energy (R30) and the wear second timer (R14). -/
structure Accounts where
  strings : List Account
  energy : Nat
  second : Timer
deriving DecidableEq, Repr

/-! ## Activity stack (chapter 3) -/

/-- The origin of an equalize (3.1). -/
inductive EqualizeOrigin where
  | schedule
  | depth
  | terminal
deriving DecidableEq, Repr

/-- The origin of a test (3.1). -/
inductive TestOrigin where
  | schedule
  | terminal
deriving DecidableEq, Repr

/-- The origin of a withdrawal (3.1). -/
inductive WithdrawalOrigin where
  | claimed
  | manual
  | adopted
deriving DecidableEq, Repr

/-- The phase of a withdrawal (3.1). -/
inductive Phase where
  | transferring
  | withdrawn
  | returning
  | stuck
deriving DecidableEq, Repr

/-- An EQUALIZE frame; `minute` counts the tenths of a second into the current minute. It is running when it is the top
frame and suspended when it is not (R46). -/
structure EqualizeFrame where
  pushed : Nat
  remaining : Nat
  minute : Nat
  origin : EqualizeOrigin
deriving DecidableEq, Repr

/-- What a TEST frame counts for one string: Qt and the reached-reference flag (3.1, R63). -/
structure TestString where
  qt : Nat
  reached : Bool
deriving DecidableEq, Repr

/-- A TEST frame. -/
structure TestFrame where
  pushed : Nat
  elapsed : Nat
  strings : List TestString
  origin : TestOrigin
deriving DecidableEq, Repr

/-- A WITHDRAWAL frame. -/
structure WithdrawalFrame where
  pushed : Nat
  origin : WithdrawalOrigin
  phase : Phase
  owner : Option Nat
  returnRequested : Bool
  timer : Timer
deriving DecidableEq, Repr

/-- A DISCHARGE frame. Its start time is its push time, and its restore qualification timer is the mains monitor's
(3.1, R124), which `Bypass` holds. -/
structure DischargeFrame where
  pushed : Nat
deriving DecidableEq, Repr

/-- A frame of the activity stack. -/
inductive Frame where
  | equalize (f : EqualizeFrame)
  | test (f : TestFrame)
  | withdrawal (f : WithdrawalFrame)
  | discharge (f : DischargeFrame)
deriving DecidableEq, Repr

/-- The activity stack, top frame first, with its deferral marks and the settle flag (R38). -/
structure Stack where
  frames : List Frame
  dischargeDeferred : Bool
  withdrawalDeferred : Option WithdrawalOrigin
  settle : Bool
deriving DecidableEq, Repr

/-! ## Conditioning controller (chapter 4) -/

/-- A pending equalize latch (4.1). -/
structure EqualizeLatch where
  origin : EqualizeOrigin
  minutes : Nat
deriving DecidableEq, Repr

/-- The conditioning controller (4.1), its test second timer (R62), and the cabinet page's equalize remaining minutes
field (R47). -/
structure Conditioning where
  latch : Option EqualizeLatch
  equalizeDue : Nat
  testLatch : Bool
  testDue : Nat
  waiting : Bool
  overdueRaised : Bool
  testSecond : Timer
  remainingField : Nat
deriving DecidableEq, Repr

/-! ## Line controller (chapter 5) -/

/-- The line states of R83. -/
inductive LineState where
  | starting
  | configFault
  | joining
  | active
  | muted
deriving DecidableEq, Repr

/-- The classes of a frame (5.9.1). -/
inductive FrameClass where
  | mains
  | claim
  | release
  | status
  | request
  | result
  | record
deriving DecidableEq, Repr

/-- An entry of the transmit queue. `fresh` says of a STATUS that its notice was built after the settle flag was last
set (R50), and of a CLAIM that it announces the claim now standing (R109). `awaited` marks the STARTED RESULT that a
restart waits for (R85). -/
structure TxFrame where
  cls : FrameClass
  dest : Nat
  payload : List Byte
  inFlight : Bool
  fresh : Bool
  awaited : Bool
deriving DecidableEq, Repr

/-- The answer memory of one terminal: the payload of its last served request and of the RESULT given (R86). -/
structure Answer where
  term : Nat
  request : List Byte
  result : List Byte
deriving DecidableEq, Repr

/-- The line controller. `tx` is kept oldest frame first; the order of classes (R79) is taken from it at each idle. -/
structure Line where
  state : LineState
  synchronised : Bool
  tx : List TxFrame
  received : Nat
  crcFailures : Nat
  lengthFailures : Nat
  contentDiscards : Nat
  addressDiscards : Nat
  sent : Nat
  losses : Nat
  abandoned : Nat
  displaced : Nat
  drops : Nat
  statusTimer : Timer
  joiningTimer : Timer
  answers : List Answer
deriving DecidableEq, Repr

/-! ## Peer table (chapter 6) -/

/-- The operating modes (R49). -/
inductive Mode where
  | joining
  | online
  | discharging
  | onBypass
  | withdrawn
deriving DecidableEq, Repr

/-- A claim as a notice announces it: its kind, and HOLDING or CLAIMING (5.9.3). -/
structure AnnouncedClaim where
  kind : ClaimKind
  holding : Bool
deriving DecidableEq, Repr

/-- The status notice (5.9.3); consent 0 is none. -/
structure Notice where
  group : Nat
  mode : Mode
  testing : Bool
  equalizing : Bool
  visitOpen : Bool
  visitRequest : Bool
  claim : Option AnnouncedClaim
  consent : Nat
  minHealth : Nat
  level : Nat
  load : Nat
  rating : Nat
  energy : Nat
deriving DecidableEq, Repr

/-- The states of a peer entry (6.1). -/
inductive PeerState where
  | empty
  | live
  | stale
deriving DecidableEq, Repr

/-- An entry of the peer table; `since` counts tenths of a second (6.1). -/
structure Peer where
  state : PeerState
  notice : Notice
  since : Nat
  staleTimer : Timer
deriving DecidableEq, Repr

/-! ## Claim controller (chapter 7) -/

/-- The origin of the own claim (7.1): SCHEDULE or TERMINAL for TEST, KEY or TERMINAL for WITHDRAW. -/
inductive ClaimOrigin where
  | schedule
  | terminal
  | key
deriving DecidableEq, Repr

/-- The own claim, present while CLAIMING or HOLDING (7.1); its key is computed (R106). `owed` is the model's mark of a
CLAIM frame reported not sent that is still to be handed again (R109, assumption 15). -/
structure OwnClaim where
  kind : ClaimKind
  origin : ClaimOrigin
  owner : Option Nat
  holding : Bool
  announced : Bool
  heard : List Nat
  owed : Bool
deriving DecidableEq, Repr

/-- An entry of the claim list (7.1); its key is computed from its kind and station (R106). -/
structure ClaimEntry where
  station : Nat
  kind : ClaimKind
  holding : Bool
  confirmed : Nat
  timer : Timer
deriving DecidableEq, Repr

/-- The last claim result (7.1); `none` is the manual's NONE. -/
inductive ClaimResult where
  | none
  | committed
  | yielded
  | noConsent
  | abandoned
deriving DecidableEq, Repr

/-- The claim controller (7.1). Its claim state is IDLE when `own` is none. -/
structure Claims where
  own : Option OwnClaim
  window : Timer
  list : List ClaimEntry
  consent : Option Nat
  last : ClaimResult
  lastKind : Option ClaimKind
  spacing : Timer
  latch : Bool
deriving DecidableEq, Repr

/-! ## Bypass controller (chapter 8) -/

/-- The states of the mains monitor (R124). -/
inductive MainsState where
  | present
  | lost
deriving DecidableEq, Repr

/-- The breaker's position (R128); `unknown` until the contacts are first taken. -/
inductive Position where
  | closed
  | opened
  | transit
  | disagree
  | unknown
deriving DecidableEq, Repr

/-- The last confirmed position (R128). -/
inductive Confirmed where
  | closed
  | opened
  | unknown
deriving DecidableEq, Repr

/-- The two pulses (R129): close on MBPC, open on MBPO. -/
inductive PulseKind where
  | mbpc
  | mbpo
deriving DecidableEq, Repr

/-- The pulse in progress, with the tenths of a second left of it (R129). -/
structure Pulse where
  kind : PulseKind
  left : Nat
deriving DecidableEq, Repr

/-- The last floor mains report (R127); group 255 is unknown. -/
structure MainsReport where
  source : Nat
  kind : MainsKind
  group : Nat
  time : Nat
deriving DecidableEq, Repr

/-- The bypass controller (R124, R127 to R131, R138). -/
structure Bypass where
  mains : MainsState
  lossTimer : Timer
  qualTimer : Timer
  report : Option MainsReport
  reportCount : Nat
  position : Position
  confirmed : Confirmed
  disagree : Timer
  pulse : Option Pulse
  waitingPulse : Option PulseKind
  recovery : Timer
  staticCount : Nat
  breakerCount : Nat
deriving DecidableEq, Repr

/-! ## Work queue (chapter 10) -/

/-- The kinds of work item, in the order of the manual's first table of them (R151). -/
inductive ItemKind where
  | stringReplace
  | stringReview
  | staticSwitchService
  | breakerService
  | transferCheck
  | sensorCheck
  | recordCheck
  | testOverdue
deriving DecidableEq, Repr

/-- The target of a work item (10.1). -/
inductive Target where
  | string (s : Nat)
  | staticSwitch
  | breaker
  | nothing
deriving DecidableEq, Repr

/-- A work item (10.1); `taken` names the taking visit of a TAKEN item. -/
structure Item where
  number : Nat
  kind : ItemKind
  target : Target
  severity : Nat
  raised : Nat
  taken : Option Nat
  repeats : Nat
deriving DecidableEq, Repr

/-- The work queue, oldest item first (R156), with the visit-request mark (R162). -/
structure WorkQueue where
  items : List Item
  counter : Nat
  overflow : Nat
  displaced : Nat
  mark : Bool
deriving DecidableEq, Repr

/-! ## Visit controller (chapter 9) -/

/-- The positions of the key switch (9.4). -/
inductive KeyPosition where
  | normal
  | service
  | withdraw
deriving DecidableEq, Repr

/-- Who opened a visit (9.1). -/
inductive VisitOrigin where
  | terminal (term : Nat)
  | key
deriving DecidableEq, Repr

/-- How a visit closed (9.1). -/
inductive CloseReason where
  | terminal
  | key
deriving DecidableEq, Repr

/-- The closed time and reason, present after the close (9.1). -/
structure Closing where
  time : Nat
  reason : CloseReason
deriving DecidableEq, Repr

/-- A visit record (9.1). Its TAKEN count is the number of items in the queue that name it. -/
structure Visit where
  number : Nat
  technician : Nat
  origin : VisitOrigin
  opened : Nat
  planned : Nat
  overdue : Bool
  done : List (ItemKind × Target)
  doneCount : Nat
  used : Bool
  closePending : Bool
  closing : Option Closing
deriving DecidableEq, Repr

/-- The visit controller (R140, R144): the open visit, the history newest first, and the key switch. -/
structure Visits where
  current : Option Visit
  history : List Visit
  counter : Nat
  overdueTimer : Timer
  stable : KeyPosition
  settleTimer : Timer
  requestHeld : Bool
deriving DecidableEq, Repr

/-! ## Condition monitor (chapter 10) -/

/-- The sixteen conditions, in their number order (10.3). -/
inductive Condition where
  | mainsLost
  | onBypass
  | stringHot
  | tempLost
  | sampleGap
  | recordLost
  | peerLost
  | redundancyLost
  | claimConflict
  | duplicateId
  | transferFault
  | uncommandedBypass
  | visitOverdue
  | queueFull
  | stringWeak
  | lineErrors
deriving DecidableEq, Repr

/-- Which conditions are active (R163). -/
structure Conditions where
  mainsLost : Bool
  onBypass : Bool
  stringHot : Bool
  tempLost : Bool
  sampleGap : Bool
  recordLost : Bool
  peerLost : Bool
  redundancyLost : Bool
  claimConflict : Bool
  duplicateId : Bool
  transferFault : Bool
  uncommandedBypass : Bool
  visitOverdue : Bool
  queueFull : Bool
  stringWeak : Bool
  lineErrors : Bool
deriving DecidableEq, Repr

/-- The condition monitor: the conditions, the hot flag of each configured string (R164), the line-error count (R78). -/
structure Monitor where
  active : Conditions
  hot : List Bool
  lineErrors : Nat
deriving DecidableEq, Repr

/-! ## Memory port (chapter 11) -/

/-- The cabinet page (11.4). -/
structure CabinetPage where
  hours : Nat
  staticCount : Nat
  breakerCount : Nat
  testDue : Nat
  equalizeDue : Nat
  remaining : Nat
  testLatch : Bool
  visitCounter : Nat
  itemCounter : Nat
deriving DecidableEq, Repr

/-- A string page: the retained fields of the account (2.1, R37). -/
structure StringPage where
  wear : Nat
  residue : Nat
  events : Nat
  measured : Nat
  lastTest : TestResult
  testCharge : Nat
  testEndHour : Nat
  installHour : Nat
  reviewCrossed : Bool
  replaceCrossed : Bool
deriving DecidableEq, Repr

/-- An item as a queue page holds it: every field except state and taking visit (11.4). -/
structure PageItem where
  number : Nat
  kind : ItemKind
  target : Target
  severity : Nat
  raised : Nat
  repeats : Nat
deriving DecidableEq, Repr

/-- What a page holds. -/
inductive PageContent where
  | cabinet (p : CabinetPage)
  | string (p : StringPage)
  | queue (items : List PageItem)
deriving DecidableEq, Repr

/-- The write states of R172. -/
inductive PageState where
  | clean
  | dirty
  | writing
  | writingDirty
deriving DecidableEq, Repr

/-- A page being written, with the content it had when the write began (R172). -/
structure Write where
  page : PageId
  content : PageContent
deriving DecidableEq, Repr

/-- The memory port, and what the serial memory holds of each page: its content under a good CRC, or none for a page
whose CRC is bad. Pages stand in page order: cabinet, string 0 to 3, queue 0 to 2 (R173). -/
structure Port where
  states : List PageState
  list : List PageId
  writing : Option Write
  restartWait : Bool
  areas : List (Option PageContent)
deriving DecidableEq, Repr

/-! ## The part -/

/-- The input pins that have no protocol of their own (0.4); true is asserted. -/
structure Pins where
  mainsOk : Bool
  bypLoad : Bool
  mbpCl : Bool
  mbpOp : Bool
  keyS : Bool
  keyW : Bool
deriving DecidableEq, Repr

/-- What the straps gave at the last start (R170). -/
structure Identity where
  station : Nat
  group : Nat
  fast : Bool
deriving DecidableEq, Repr

/-- The two clocks (0.5.2): running hours now and as restored at this start, running time in tenths of a second, and
the hour timer (R173). -/
structure Clock where
  hours : Nat
  hoursAtStart : Nat
  tenths : Nat
  hourTimer : Timer
deriving DecidableEq, Repr

/-- The state of the part. `held` is true while RESET_N is asserted or power is absent (R175). `free` counts the free
values drawn so far, and `pending` holds the commands that wait; both are the model's own. -/
structure State where
  held : Bool
  pins : Pins
  id : Identity
  cfg : Settings
  clampCount : Nat
  clock : Clock
  intake : Intake
  accounts : Accounts
  stack : Stack
  cond : Conditioning
  line : Line
  peers : List Peer
  claims : Claims
  bypass : Bypass
  visits : Visits
  queue : WorkQueue
  monitor : Monitor
  port : Port
  free : Nat
  pending : List Instr
deriving DecidableEq, Repr

/-- No event of the manual stops the part, so the model has no fault. -/
inductive Fault where
deriving DecidableEq, Repr

/-- Why a command has no next state. -/
inductive Refusal where
  /-- A command with no meaning yet, named by its row's mnemonic; raised by an arm of `exec` alone. Safe: the model stops
  where the part goes on. No arm raises it now. -/
  | notModelled (mnemonic : String)
deriving DecidableEq, Repr

/-! ## Start values -/

/-- The configuration before an image has been read (assumption 6). -/
def Settings.unread : Settings where
  rating := 0
  stringCount := 0
  strings := []
  designLife := 0
  cycleCost := 0
  dischargeThreshold := 0
  hotLimit := 0
  reviewThreshold := 0
  replaceThreshold := 0
  replaceCapacity := 0
  testReference := 0
  testLimit := 0
  testInterval := 0
  equalizeInterval := 0
  equalizeDuration := 0
  reserve := 0
  minRuntime := 0
  transferTimeout := 0
  staticInterval := 0
  breakerInterval := 0
  keyPlanned := 0
  riseCount := 0
  fallCount := 0
  levels := []
  alertThreshold := 0

/-- A string's intake values at start (R10). -/
def Reading.start : Reading where
  voltage := 0
  current := 0
  present := false
  temp := -32768
  tempAge := 0
  tempState := .untaken

/-- The intake at start, for the configured number of strings, its second timer stopped (R10). -/
def Intake.start (strings : Nat) : Intake where
  burstAge := 0
  gap := false
  load := 0
  loadAge := 0
  loadState := .degraded
  readings := List.replicate strings Reading.start
  accepted := 0
  crcDiscards := 0
  shapeDiscards := 0
  second := none

/-- The stack at start (R39). -/
def Stack.start : Stack where
  frames := []
  dischargeDeferred := false
  withdrawalDeferred := none
  settle := true

/-- The conditioning controller before its page is restored (R54). -/
def Conditioning.start : Conditioning where
  latch := none
  equalizeDue := 0
  testLatch := false
  testDue := 0
  waiting := false
  overdueRaised := false
  testSecond := none
  remainingField := 0

/-- The line controller at start (R73, R76, R79, R80, R83, R86). -/
def Line.start : Line where
  state := .starting
  synchronised := false
  tx := []
  received := 0
  crcFailures := 0
  lengthFailures := 0
  contentDiscards := 0
  addressDiscards := 0
  sent := 0
  losses := 0
  abandoned := 0
  displaced := 0
  drops := 0
  statusTimer := none
  joiningTimer := none
  answers := []

/-- The figures of an EMPTY entry: none, read as 0 (6.1, R93). -/
def Notice.blank : Notice where
  group := 0
  mode := .joining
  testing := false
  equalizing := false
  visitOpen := false
  visitRequest := false
  claim := none
  consent := 0
  minHealth := 0
  level := 0
  load := 0
  rating := 0
  energy := 0

/-- An EMPTY peer entry (R88). -/
def Peer.blank : Peer where
  state := .empty
  notice := Notice.blank
  since := 0
  staleTimer := none

/-- The claim controller at start (R105). -/
def Claims.start : Claims where
  own := none
  window := none
  list := []
  consent := none
  last := .none
  lastKind := none
  spacing := none
  latch := false

/-- The bypass controller at start, its counts not yet restored (R124, R127 to R129, R131). -/
def Bypass.start : Bypass where
  mains := .present
  lossTimer := none
  qualTimer := none
  report := none
  reportCount := 0
  position := .unknown
  confirmed := .unknown
  disagree := none
  pulse := none
  waitingPulse := none
  recovery := none
  staticCount := 0
  breakerCount := 0

/-- The visit controller at start, its counter not yet restored (R140). -/
def Visits.start : Visits where
  current := none
  history := []
  counter := 0
  overdueTimer := none
  stable := .normal
  settleTimer := none
  requestHeld := false

/-- The work queue at start, before its items are restored (R156, R162). -/
def WorkQueue.start : WorkQueue where
  items := []
  counter := 0
  overflow := 0
  displaced := 0
  mark := false

/-- No condition active (R163). -/
def Conditions.inactive : Conditions where
  mainsLost := false
  onBypass := false
  stringHot := false
  tempLost := false
  sampleGap := false
  recordLost := false
  peerLost := false
  redundancyLost := false
  claimConflict := false
  duplicateId := false
  transferFault := false
  uncommandedBypass := false
  visitOverdue := false
  queueFull := false
  stringWeak := false
  lineErrors := false

/-- The condition monitor at start (R163, R78). -/
def Monitor.start (strings : Nat) : Monitor where
  active := Conditions.inactive
  hot := List.replicate strings false
  lineErrors := 0

/-- The memory port at start: every page CLEAN, the write list empty (R175), over what the memory holds. -/
def Port.start (areas : List (Option PageContent)) : Port where
  states := List.replicate 8 .clean
  list := []
  writing := none
  restartWait := false
  areas := areas

/-- The part with every block at its start value, holding what outlives the blocks: the input pins, the areas of the
serial memory, the count of free values and the waiting commands. -/
def State.blocksAtStart (held : Bool) (pins : Pins) (areas : List (Option PageContent)) (free : Nat)
    (pending : List Instr) : State where
  held := held
  pins := pins
  id := { station := 0, group := 0, fast := false }
  cfg := Settings.unread
  clampCount := 0
  clock := { hours := 0, hoursAtStart := 0, tenths := 0, hourTimer := none }
  intake := Intake.start 0
  accounts := { strings := [], energy := 0, second := none }
  stack := Stack.start
  cond := Conditioning.start
  line := Line.start
  peers := List.replicate 24 Peer.blank
  claims := Claims.start
  bypass := Bypass.start
  visits := Visits.start
  queue := WorkQueue.start
  monitor := Monitor.start 0
  port := Port.start areas
  free := free
  pending := pending

/-- Right after reset: the part is held (R175) with every block at its start value, every input deasserted, no page ever
written, and no command waiting (assumptions 3, 4, 6). -/
def State.reset : State :=
  State.blocksAtStart true
    { mainsOk := false, bypLoad := false, mbpCl := false, mbpOp := false, keyS := false, keyW := false }
    (List.replicate 8 none) 0 []

end Sys2Proof.Machine
end

