-- ==== Sys2Proof/Machine/Clock.lean ====
section
/-! DEFINITION. The clocks, and what happens as a tenth of a second of running time passes (0.5.2, R46, R89, R173). An
expiry itself is a command: the tick only counts (assumption 2). -/

namespace Sys2Proof.Machine

/-- The part takes inputs and runs its timers: the line state is JOINING, ACTIVE or MUTED (R1, R14, R124). -/
def State.running (s : State) : Bool :=
  match s.line.state with
  | .joining => true
  | .active => true
  | .muted => true
  | .starting => false
  | .configFault => false

/-- A whole number of seconds on a timer. -/
def seconds (n : Nat) : Timer := some (10 * n)

/-- Running seconds of the present start, saturating (0.5.1). -/
def State.runningSeconds (s : State) : Nat := min 4294967295 (s.clock.tenths / 10)

/-- The time-of-record: the running hours as restored at this start in seconds, plus the running seconds, saturating
(0.5.1, 0.5.2). -/
def State.now (s : State) : Nat := min 4294967295 (s.clock.hoursAtStart * 3600 + s.runningSeconds)

/-- A tenth of a second off a timer; a timer at 0 waits for its expiry to be taken. -/
def Timer.tick (t : Timer) : Timer := t.map (· - 1)

/-- Running hours, saturating (0.5.1). -/
def addHours (a b : Nat) : Nat := satAdd 1000000 a b

/-- A tenth of a second on the frames: the minute of a top EQUALIZE, and the phase timer of a WITHDRAWAL (R46, R130). The minute counts tenths,
and a suspended EQUALIZE keeps them with the second they belong to: R46 holds a count of seconds and does not say what becomes of a fraction of
one (assumption 36). -/
def tickFrames : List Frame → List Frame
  | .equalize f :: rest => .equalize { f with minute := satAdd 599 f.minute 1 } :: rest
  | .withdrawal f :: rest => .withdrawal { f with timer := Timer.tick f.timer } :: rest
  | frames => frames

/-- A tenth of a second on a peer entry: the time since the last status counts while LIVE or STALE (R89). -/
def tickPeer (p : Peer) : Peer :=
  if p.state = .empty then p else { p with since := satAdd 65535 p.since 1, staleTimer := Timer.tick p.staleTimer }

/-- A tenth of a second of running time passes. The part counts it only while it runs (R173); nothing expires. -/
def tick (s : State) : State :=
  if !s.running then s
  else
    { s with
      clock := { s.clock with tenths := s.clock.tenths + 1, hourTimer := Timer.tick s.clock.hourTimer }
      intake := { s.intake with second := Timer.tick s.intake.second }
      accounts := { s.accounts with second := Timer.tick s.accounts.second }
      stack := { s.stack with frames := tickFrames s.stack.frames }
      cond := { s.cond with testSecond := Timer.tick s.cond.testSecond }
      line := { s.line with
        statusTimer := Timer.tick s.line.statusTimer
        joiningTimer := Timer.tick s.line.joiningTimer }
      peers := s.peers.map tickPeer
      claims := { s.claims with
        window := Timer.tick s.claims.window
        spacing := Timer.tick s.claims.spacing
        list := s.claims.list.map fun e => { e with timer := Timer.tick e.timer } }
      bypass := { s.bypass with
        lossTimer := Timer.tick s.bypass.lossTimer
        qualTimer := Timer.tick s.bypass.qualTimer
        disagree := Timer.tick s.bypass.disagree
        recovery := Timer.tick s.bypass.recovery
        pulse := s.bypass.pulse.map fun p => { p with left := p.left - 1 } }
      visits := { s.visits with
        overdueTimer := Timer.tick s.visits.overdueTimer
        settleTimer := Timer.tick s.visits.settleTimer } }

end Sys2Proof.Machine
end

