-- ==== Sys2Proof/Machine/Bits.lean ====
section
/-! DEFINITION. Bits, bytes and the two check sums of the manual: multi-byte figures most significant byte first and
signed figures in two's complement (5.9), the CRC-16 of frames and of the configuration image (R72, 11.3), and the CRC-8 of
the measurement burst (5.9.5). -/

namespace Sys2Proof.Machine

/-- The bits of a word, most significant first: the order in which a field is sent (R72). -/
def bitsOf (n : Nat) (v : BitVec n) : List Bool := (List.range n).reverse.map fun i => v.getLsbD i

/-- The bits of a run of bytes, each most significant bit first. -/
def bitsOfBytes (bs : List Byte) : List Bool := bs.flatMap (bitsOf 8)

/-- A whole number in `k` bytes, most significant byte first (5.9, R169). -/
def bytesOf (k v : Nat) : List Byte := (List.range k).reverse.map fun i => BitVec.ofNat 8 (v / 256 ^ i)

/-- A signed number in `k` bytes, two's complement (5.9, R169). -/
def signedBytes (k : Nat) (v : Int) : List Byte := bytesOf k (v % (256 ^ k : Nat)).toNat

/-- The whole number that a run of bytes spells, most significant byte first. -/
def natOf (bs : List Byte) : Nat := bs.foldl (fun acc b => acc * 256 + b.toNat) 0

/-- The signed number that two bytes spell in two's complement. -/
def intOf16 (hi lo : Byte) : Int := (hi ++ lo : BitVec 16).toInt

/-- One bit through the CRC-16 register: generator x^16 + x^12 + x^5 + 1 (R72). -/
def crc16Step (r : BitVec 16) (b : Bool) : BitVec 16 :=
  if r.msb != b then (r <<< 1) ^^^ 0x1021#16 else r <<< 1

/-- The CRC-16 of a run of bits, the register preset to all ones and sent as it stands (R72). -/
def crc16 (bits : List Bool) : BitVec 16 := bits.foldl crc16Step 0xFFFF#16

/-- One bit through the CRC-8 register: generator x^8 + x^2 + x + 1 (5.9.5). -/
def crc8Step (r : BitVec 8) (b : Bool) : BitVec 8 :=
  if r.msb != b then (r <<< 1) ^^^ 0x07#8 else r <<< 1

/-- The CRC-8 of a run of bytes, preset 0, each byte most significant bit first (5.9.5). -/
def crc8 (bs : List Byte) : BitVec 8 := (bitsOfBytes bs).foldl crc8Step 0#8

end Sys2Proof.Machine
end

