-- ==== Sys2Proof/WellFormed.lean ====
section
/-! DEFINITION. What it takes for a command to be one that can arrive: station numbers 1..24, terminals 25..30 (0.5.3),
at most ten argument bytes (5.7), a STATUS payload of twelve bytes, a frame whose payload has the extent its length field
gives it (R76 check 1), an image of 64 bytes with the figures of four strings and eight pair levels (11.3), and pages
that exist. `exec` is defined on every command. One that is not well formed leaves the state as it was, but for a start whose
image has another length, which is an image whose CRC is bad (assumption 1). -/

namespace Sys2Proof

/-- A station of the floor: 1..24 (0.5.3). -/
def isStation (n : Nat) : Bool := 1 ≤ n && n ≤ 24

/-- A terminal of the floor: 25..30 (0.5.3). -/
def isTerminal (n : Nat) : Bool := 25 ≤ n && n ≤ 30

/-- A page of the serial memory (11.4). -/
def PageId.isPage : PageId → Bool
  | .cabinet => true
  | .string s => s < 4
  | .queue q => q < 3

/-- An image has 64 bytes, and spells figures for four strings and eight pairs of conditions. -/
def Image.wellFormed (im : Image) : Bool :=
  im.bytes.length == 64 && im.fields.strings.length == 4 && im.fields.levels.length == 8

/-- The payload of a received frame has the extent its length field gives, at most twelve bytes (R76 check 1). -/
def RxFrame.wellFormed (f : RxFrame) : Bool := f.payload.length == min 12 f.len.toNat

/-- A REQUEST comes from a terminal and carries at most ten argument bytes. -/
def requestWellFormed (term : Nat) (args : List Byte) : Bool := isTerminal term && args.length ≤ 10

/-- The operands of a command lie in the ranges the manual gives them. -/
def Instr.wellFormed : Instr → Bool
  | .start _ im un => im.all Image.wellFormed && un.all PageId.isPage
  | .restartStart _ im un => im.all Image.wellFormed && un.all PageId.isPage
  | .measurementBurst _ extra _ => extra < 8
  | .frameRejected f => f.wellFormed
  | .statusReceived n p => isStation n && p.length == 12
  | .claimReceived n _ => isStation n
  | .releaseReceived n _ => isStation n
  | .mainsReceived n _ => isStation n
  | .staleTimerExpiry n => isStation n
  | .confirmationTimerExpiry n => isStation n
  | .visitOpen t _ a => requestWellFormed t a
  | .visitClose t _ a => requestWellFormed t a
  | .itemTake t _ a => requestWellFormed t a
  | .itemDone t _ a => requestWellFormed t a
  | .itemReturn t _ a => requestWellFormed t a
  | .withdraw t _ a => requestWellFormed t a
  | .returnRequest t _ a => requestWellFormed t a
  | .testNow t _ a => requestWellFormed t a
  | .equalizeNow t _ a => requestWellFormed t a
  | .stop t _ a => requestWellFormed t a
  | .clear t _ a => requestWellFormed t a
  | .forget t _ a => requestWellFormed t a
  | .read t _ a => requestWellFormed t a
  | .restart t _ a => requestWellFormed t a
  | .unknownRequestCode t c _ a => requestWellFormed t a && !(1 ≤ c.toNat && c.toNat ≤ 14)
  | .resetNAsserted => true
  | .intakeSecondTimerExpiry => true
  | .wearSecondTimerExpiry => true
  | .equalizeMinuteTimerExpiry => true
  | .testSecondTimerExpiry => true
  | .frameStart => true
  | .arbitrationLoss => true
  | .frameAbandoned => true
  | .frameSent => true
  | .lineSynchronised => true
  | .duplicateNumberHeard => true
  | .resultRecordReceived => true
  | .statusTimerExpiry => true
  | .joiningTimerExpiry => true
  | .claimWindowTimerExpiry => true
  | .spacingTimerExpiry => true
  | .mainsOkChange _ => true
  | .mainsLossTimerExpiry => true
  | .mainsQualificationTimerExpiry => true
  | .breakerContactChange _ _ => true
  | .disagreeTimerExpiry => true
  | .pulseEnd => true
  | .transferTimeout => true
  | .returnTimeout => true
  | .recoveryWaitExpiry => true
  | .bypLoadChange _ => true
  | .keyInputChange _ _ => true
  | .keySettleTimerExpiry => true
  | .overdueTimerExpiry => true
  | .hourTimerExpiry => true
  | .memoryWriteDone => true
  | .memoryWriteFail => true
  | .powerLoss => true

end Sys2Proof
end

