-- ==== Sys2Proof/Machine/Operands.lean ====
section
/-! DEFINITION. The forms in which commands carry their operands and the part writes its frames: the status notice
(5.9.3), the measurement burst (R2, 5.9.5), the frame on the line (R72, 5.9.1), the checks of a received frame (R76, R77),
and the configuration image with its clamping (R170, R171). -/

namespace Sys2Proof.Machine

/-! ## The status notice (5.9.3) -/

/-- The code of a mode in a notice. -/
def Mode.code : Mode → Nat
  | .joining => 0
  | .online => 1
  | .discharging => 2
  | .onBypass => 3
  | .withdrawn => 4

/-- The mode of a code, none above 4 (R76 check 7). -/
def modeOf : Nat → Option Mode
  | 0 => some .joining
  | 1 => some .online
  | 2 => some .discharging
  | 3 => some .onBypass
  | 4 => some .withdrawn
  | _ => none

/-- A flag as a number. -/
def flag (b : Bool) : Nat := if b then 1 else 0

/-- A run of flags in one number, the first in bit 0. -/
def flags : List Bool → Nat
  | [] => 0
  | b :: bs => flag b + 2 * flags bs

/-- The code of a claim kind in a frame (5.9.2). -/
def kindCode : ClaimKind → Nat
  | .withdraw => 1
  | .test => 2

/-- The twelve bytes of a notice. -/
def encodeNotice (n : Notice) : List Byte :=
  let claim := match n.claim with
    | none => 0
    | some c => kindCode c.kind + 4 * flag c.holding
  [BitVec.ofNat 8 (64 * n.group + n.mode.code),
   BitVec.ofNat 8 (flags [n.testing, n.equalizing, n.visitOpen, n.visitRequest]),
   BitVec.ofNat 8 claim,
   BitVec.ofNat 8 n.consent,
   BitVec.ofNat 8 n.minHealth,
   BitVec.ofNat 8 n.level]
  ++ bytesOf 2 n.load ++ bytesOf 2 n.rating ++ bytesOf 2 n.energy

/-- The claim that byte 2 of a notice announces; none is returned for a kind that has no meaning. The state bit means
nothing with kind none. -/
def claimOf (b : Byte) : Option (Option AnnouncedClaim) :=
  match b.toNat % 4 with
  | 0 => some none
  | 1 => some (some { kind := .withdraw, holding := b.getLsbD 2 })
  | 2 => some (some { kind := .test, holding := b.getLsbD 2 })
  | _ => none

/-- The notice that twelve bytes spell, none where a coded field holds a value that 5.9.3 does not give it (R76 check 7).
Bits that are sent as 0 are not examined. -/
def decodeNotice : List Byte → Option Notice
  | [b0, b1, b2, b3, b4, b5, l1, l0, r1, r0, e1, e0] =>
    match modeOf (b0.toNat % 8), claimOf b2 with
    | some mode, some claim =>
      if b3.toNat ≤ 24 && b4.toNat ≤ 100 && b5.toNat ≤ 3 then
        some
          { group := b0.toNat / 64
            mode := mode
            testing := b1.getLsbD 0
            equalizing := b1.getLsbD 1
            visitOpen := b1.getLsbD 2
            visitRequest := b1.getLsbD 3
            claim := claim
            consent := b3.toNat
            minHealth := b4.toNat
            level := b5.toNat
            load := natOf [l1, l0]
            rating := natOf [r1, r0]
            energy := natOf [e1, e0] }
      else none
    | _, _ => none
  | _ => none

/-! ## The measurement burst (R2, 5.9.5) -/

/-- One string's readings in a burst. -/
structure BurstString where
  voltage : Nat
  current : Int
  temp : Int
deriving DecidableEq, Repr

/-- What the checks of R2 make of a complete burst. -/
inductive BurstVerdict where
  | shape
  | crc
  | accepted (load : Nat) (strings : List BurstString)
deriving DecidableEq, Repr

/-- The readings of a run of six-byte groups. -/
def burstStrings : List Byte → List BurstString
  | v1 :: v0 :: c1 :: c0 :: t1 :: t0 :: rest =>
    { voltage := natOf [v1, v0], current := intOf16 c1 c0, temp := intOf16 t1 t0 } :: burstStrings rest
  | _ => []

/-- The checks of R2 in their order, for a burst of whole bytes `bytes` and `extra` further bits, against the configured
string count. A burst of more than 29 bytes fails check 1 whatever was stored of it (R1). -/
def checkBurst (count : Nat) (bytes : List Byte) (extra : Nat) : BurstVerdict :=
  let len := bytes.length
  if extra ≠ 0 ∨ len < 11 ∨ 29 < len then .shape
  else if crc8 bytes.dropLast ≠ bytes.getLastD 0 then .crc
  else if bytes.headD 0 ≠ 0x5C#8 then .shape
  else if (bytes.getD 3 0).toNat ≠ count ∨ len ≠ 5 + 6 * count then .shape
  else .accepted (natOf [bytes.getD 1 0, bytes.getD 2 0]) (burstStrings (bytes.dropLast.drop 4))

/-! ## Frames on the line (R72, R76, R77) -/

/-- The class field of a frame (5.9.1). -/
def FrameClass.code : FrameClass → Nat
  | .mains => 0
  | .claim => 1
  | .release => 2
  | .status => 3
  | .request => 4
  | .result => 5
  | .record => 6

/-- The bits that a frame's CRC covers, from the first class bit to the last payload bit (R72). -/
def coveredBits (f : RxFrame) : List Bool :=
  bitsOf 4 f.cls ++ bitsOf 5 f.src ++ bitsOf 5 f.dst ++ bitsOf 4 f.len ++ bitsOfBytes f.payload

/-- A queued frame as the line carries it from this station, its CRC computed and its end bits recessive (R72). -/
def TxFrame.wire (station : Nat) (f : TxFrame) : RxFrame :=
  let w : RxFrame :=
    { cls := BitVec.ofNat 4 f.cls.code
      src := BitVec.ofNat 5 station
      dst := BitVec.ofNat 5 f.dest
      len := BitVec.ofNat 4 f.payload.length
      payload := f.payload
      crc := 0
      ends := 7#3 }
  { w with crc := crc16 (coveredBits w) }

/-- The bits of a frame in the order sent: the dominant start bit, the fields, the payload, the CRC, the end bits (R72). -/
def frameBits (f : RxFrame) : List Bool := false :: (coveredBits f ++ bitsOf 16 f.crc ++ bitsOf 3 f.ends)

/-- Why a received frame is discarded, by the counter it raises (R76). -/
inductive RxFailure where
  | length
  | crc
  | content
  | address
deriving DecidableEq, Repr

/-- The payload lengths that suit a class (R76 check 5). -/
def lengthSuits (cls len : Nat) : Bool :=
  match cls with
  | 0 => len == 1
  | 1 => len == 1
  | 2 => len == 1
  | 3 => len == 12
  | 4 => 2 ≤ len && len ≤ 12
  | 5 => 3 ≤ len && len ≤ 12
  | _ => len == 12

/-- The addressing that suits a class, at the station `own` (R77). -/
def addressSuits (own cls src dst : Nat) : Bool :=
  match cls with
  | 0 => isStation src && dst == 31
  | 1 => isStation src && dst == 31
  | 2 => isStation src && dst == 31
  | 3 => isStation src && dst == 31
  | 4 => isTerminal src && dst == own
  | _ => isStation src && 25 ≤ dst && dst ≤ 31

/-- The coded fields hold values that 5.9 gives them (R76 check 7). -/
def contentSuits (cls : Nat) (payload : List Byte) : Bool :=
  let kind := (payload.headD 0).toNat
  match cls with
  | 0 => kind == 1 || kind == 2
  | 1 => kind == 1 || kind == 2
  | 2 => kind == 1 || kind == 2
  | 3 => (decodeNotice payload).isSome
  | _ => true

/-- The seven checks of R76 in their order at the station `own`: the first failure, or none for a valid frame. -/
def checkFrame (own : Nat) (f : RxFrame) : Option RxFailure :=
  if 12 < f.len.toNat then some .length
  else if f.ends ≠ 7#3 then some .length
  else if f.crc ≠ crc16 (coveredBits f) then some .crc
  else if 6 < f.cls.toNat then some .content
  else if !lengthSuits f.cls.toNat f.len.toNat then some .length
  else if !addressSuits own f.cls.toNat f.src.toNat f.dst.toNat then some .address
  else if !contentSuits f.cls.toNat f.payload then some .content
  else none

/-! ## The configuration image (R170, R171) -/

/-- The CRC of an image is good: its last two bytes hold the CRC-16 of the first 62 (11.3). -/
def imageGood (im : Image) : Bool :=
  im.bytes.length == 64 && (bytesOf 2 (crc16 (bitsOfBytes (im.bytes.take 62))).toNat == im.bytes.drop 62)

/-- The nearer bound of a range for a figure outside it (R171). -/
def clampTo (lo hi v : Nat) : Nat := max lo (min hi v)

/-- An interval of 0 stays 0, and any other is brought into 168..8760 (R171). -/
def clampInterval (v : Nat) : Nat := if v = 0 then 0 else clampTo 168 8760 v

/-- The fall count L, brought to U - 1 if it is U or more (R171). -/
def clampFall (u l : Nat) : Nat := if u ≤ l then u - 1 else l

/-- One string's figures brought into range. -/
def clampString (c : StringSettings) : StringSettings :=
  { ratedAh := clampTo 1 65535 c.ratedAh
    nominalV := clampTo 1 1000 c.nominalV
    endVoltage := clampTo 0 65535 c.endVoltage }

/-- The figures the image spells for string `i`. -/
def rawString (raw : Settings) (i : Nat) : StringSettings :=
  raw.strings.getD i { ratedAh := 0, nominalV := 0, endVoltage := 0 }

/-- The fields of an image brought into range; figures of strings at or above the string count are not examined (R171). -/
def clampSettings (raw : Settings) : Settings :=
  let n := clampTo 1 4 raw.stringCount
  let u := clampTo 1 24 raw.riseCount
  { rating := clampTo 1 65534 raw.rating
    stringCount := n
    strings := (List.range n).map fun i => clampString (rawString raw i)
    designLife := clampTo 1000 200000 raw.designLife
    cycleCost := clampTo 1 4095 raw.cycleCost
    dischargeThreshold := clampTo 1 32767 raw.dischargeThreshold
    hotLimit := clampTo 100 280 raw.hotLimit
    reviewThreshold := clampTo 1 99 raw.reviewThreshold
    replaceThreshold := clampTo 1 99 raw.replaceThreshold
    replaceCapacity := clampTo 1 99 raw.replaceCapacity
    testReference := clampTo 100 1000 raw.testReference
    testLimit := clampTo 10 240 raw.testLimit
    testInterval := clampInterval raw.testInterval
    equalizeInterval := clampInterval raw.equalizeInterval
    equalizeDuration := clampTo 1 24 raw.equalizeDuration
    reserve := clampTo 0 100 raw.reserve
    minRuntime := clampTo 1 120 raw.minRuntime
    transferTimeout := clampTo 2 30 raw.transferTimeout
    staticInterval := clampTo 1 65535 raw.staticInterval
    breakerInterval := clampTo 1 65535 raw.breakerInterval
    keyPlanned := clampTo 15 480 raw.keyPlanned
    riseCount := u
    fallCount := clampFall u raw.fallCount
    levels := (List.range 8).map fun i => clampTo 0 3 (raw.levels.getD i 0)
    alertThreshold := clampTo 1 3 raw.alertThreshold }

/-- How many figures of one string were set to a bound. -/
def clampedInString (c : StringSettings) : Nat :=
  let d := clampString c
  flag (d.ratedAh != c.ratedAh) + flag (d.nominalV != c.nominalV) + flag (d.endVoltage != c.endVoltage)

/-- How many fields of an image were set to a bound, saturating at 255 (R171). -/
def clampCount (raw : Settings) : Nat :=
  let c := clampSettings raw
  let single := [c.rating != raw.rating, c.stringCount != raw.stringCount, c.designLife != raw.designLife,
    c.cycleCost != raw.cycleCost, c.dischargeThreshold != raw.dischargeThreshold, c.hotLimit != raw.hotLimit,
    c.reviewThreshold != raw.reviewThreshold, c.replaceThreshold != raw.replaceThreshold,
    c.replaceCapacity != raw.replaceCapacity, c.testReference != raw.testReference, c.testLimit != raw.testLimit,
    c.testInterval != raw.testInterval, c.equalizeInterval != raw.equalizeInterval,
    c.equalizeDuration != raw.equalizeDuration, c.reserve != raw.reserve, c.minRuntime != raw.minRuntime,
    c.transferTimeout != raw.transferTimeout, c.staticInterval != raw.staticInterval,
    c.breakerInterval != raw.breakerInterval, c.keyPlanned != raw.keyPlanned, c.riseCount != raw.riseCount,
    c.fallCount != raw.fallCount, c.alertThreshold != raw.alertThreshold]
  let levels := (List.range 8).map fun i => clampTo 0 3 (raw.levels.getD i 0) != raw.levels.getD i 0
  let strings := (List.range c.stringCount).map fun i => clampedInString (rawString raw i)
  min 255 ((single ++ levels).count true + strings.sum)

end Sys2Proof.Machine
end

