-- ==== Sys2Proof/Config.lean ====
section
/-! DEFINITION. The free values: what the manual leaves open although the part goes on. Each is a constant with no body,
applied to the count `free` of the state, so that nothing can be proved of its value. The configuration that an image
fixes is not here: it is the state's `cfg` (R171). -/

namespace Sys2Proof.Config

/-- What a page's area holds after a failed write (R174 does not say): what it held, what was being written, or
content with a bad CRC (assumption 9). -/
inductive AreaLeft where
  | old
  | new
  | bad
deriving DecidableEq, Repr, Inhabited

/-- Whether a pending equalize starts before a test is claimed, when one event lets both happen: R57 calls both orders
correct (assumption 7). -/
opaque equalizeFirst : Nat → Bool

/-- Whether the accounts take a sample before the abort of an EQUALIZE frame, when that sample makes STRING_HOT active: R9 needs no order
among the receivers, and a latch of origin DEPTH that the sample also sets merges with the relatched one (assumption 8). -/
opaque accountsTakeFirst : Nat → Bool

/-- Whether the test takes a sample before its abort, when that sample makes STRING_HOT active or the own test check fail while a TEST
frame stands: R9 needs no order among the receivers (assumption 8). -/
opaque testTakesFirst : Nat → Bool

/-- Whether the test takes a sample before the accounts, when that sample ends a discharge event while a TEST frame stands: R9 needs no
order among the receivers, and the items that their health recomputes raise show it (assumption 8). -/
opaque testBeforeAccounts : Nat → Bool

/-- Whether the accounts take a sample before a pending equalize starts, when that sample lifts what held the start back and ends a
discharge event: a latch of origin DEPTH that the event sets then merges into the pending one, and otherwise it stands for a further
equalize (R9, R25, R57, assumption 8). -/
opaque accountsBeforeStart : Nat → Bool

/-- Whether a sample comes before the commit of a TEST claim that its load brings about: the new TEST frame then does not count it, and
otherwise it does (R9, R63, R116, assumption 8). -/
opaque sampleBeforeCommit : Nat → Bool

/-- What a failed page write leaves in the serial memory (assumption 9). -/
opaque failedWriteLeaves : Nat → AreaLeft

/-- The share shown for a cabinet of a remaining set whose ratings sum to 0, from the group load and the cabinet's rating: R97
says that no share can be formed, and R103 shows one for every cabinet of the set (assumption 22). -/
opaque noShare : Nat → Nat → Nat

end Sys2Proof.Config
end

