-- ==== Sys2Proof/Machine/Port.lean ====
section
/-! DEFINITION. The memory port: write states, the write list, and the content of each retained page (11.4, R172, R173).
Pages put on the list in one event are brought into page order, and a write begins, at the end of the event
(`settlePort`), so that an event's pages are ordered among themselves whatever order it asks for them in. -/

namespace Sys2Proof.Machine

/-- A page's place in page order (R173). -/
def pageIndex : PageId → Nat
  | .cabinet => 0
  | .string s => 1 + s
  | .queue q => 5 + q

/-- The eight pages in page order (R173). -/
def allPages : List PageId :=
  [.cabinet, .string 0, .string 1, .string 2, .string 3, .queue 0, .queue 1, .queue 2]

/-- The pages of a part with `n` strings: the string pages of other strings are neither read nor written (11.4). -/
def configuredPages (n : Nat) : List PageId :=
  allPages.filter fun p => match p with
    | .cabinet => true
    | .string s => s < n
    | .queue _ => true

/-- The write state of a page. -/
def pageState (p : PageId) (s : State) : PageState := s.port.states.getD (pageIndex p) .clean

/-- The part with the write state of a page changed. -/
def setPageState (p : PageId) (v : PageState) (s : State) : State :=
  { s with port := { s.port with states := s.port.states.set (pageIndex p) v } }

/-- The write state after the page's content changes (R172). -/
def PageState.changed : PageState → PageState
  | .clean => .dirty
  | .dirty => .dirty
  | .writing => .writingDirty
  | .writingDirty => .writingDirty

/-- A page's content changes (R172). -/
def markDirty (p : PageId) (s : State) : State := setPageState p (pageState p s).changed s

/-- Pages go on the write list, each at most once (R173). -/
def putOnList (ps : List PageId) (s : State) : State :=
  { s with port := { s.port with list := s.port.list ++ ps.filter fun p => !s.port.list.contains p } }

/-- An immediate write is asked of a page. A DIRTY page goes on the list; a WRITING_DIRTY page goes on it when its write
ends (R173). -/
def askWrite (p : PageId) (s : State) : State :=
  if pageState p s = .dirty then putOnList [p] s else s

/-- Every DIRTY page goes on the write list: at a running-hour boundary and at the restart wait (R173, R177). -/
def listDirty (s : State) : State := putOnList (allPages.filter fun p => pageState p s = .dirty) s

/-- A page changes and its immediate write is asked. -/
def writeSoon (p : PageId) (s : State) : State := askWrite p (markDirty p s)

/-- The cabinet page as it stands (11.4). -/
def cabinetPage (s : State) : CabinetPage :=
  { hours := s.clock.hours
    staticCount := s.bypass.staticCount
    breakerCount := s.bypass.breakerCount
    testDue := s.cond.testDue
    equalizeDue := s.cond.equalizeDue
    remaining := s.cond.remainingField
    testLatch := s.cond.testLatch
    visitCounter := s.visits.counter
    itemCounter := s.queue.counter }

/-- The retained fields of an account (2.1). -/
def stringPage (a : Account) : StringPage :=
  { wear := a.wear
    residue := a.residue
    events := a.events
    measured := a.measured
    lastTest := a.lastTest
    testCharge := a.testCharge
    testEndHour := a.testEndHour
    installHour := a.installHour
    reviewCrossed := a.reviewCrossed
    replaceCrossed := a.replaceCrossed }

/-- An item as its page holds it: every field except state and taking visit (11.4). -/
def pageItem (it : Item) : PageItem :=
  { number := it.number
    kind := it.kind
    target := it.target
    severity := it.severity
    raised := it.raised
    repeats := it.repeats }

/-- The items of queue page `q`: places 8q to 8q + 7 of the raise order (11.4). -/
def queuePage (q : Nat) (items : List Item) : List PageItem := ((items.drop (8 * q)).take 8).map pageItem

/-- The zero values of a lost string page, with measured capacity 100 (R12). -/
def lostStringPage : StringPage :=
  { wear := 0
    residue := 0
    events := 0
    measured := 100
    lastTest := .untested
    testCharge := 0
    testEndHour := 0
    installHour := 0
    reviewCrossed := false
    replaceCrossed := false }

/-- A page's content as it stands (R172). -/
def pageContent (p : PageId) (s : State) : PageContent :=
  match p with
  | .cabinet => .cabinet (cabinetPage s)
  | .string i => .string ((s.accounts.strings[i]?.map stringPage).getD lostStringPage)
  | .queue q => .queue (queuePage q s.queue.items)

/-- With no write in progress and the list not empty, the first page is taken off the list and its write begins (R173). -/
def beginWrite (s : State) : State :=
  match s.port.writing, s.port.list with
  | none, p :: rest =>
    let t := setPageState p .writing s
    { t with port := { t.port with list := rest, writing := some { page := p, content := pageContent p s } } }
  | _, _ => s

/-- The end of an event at the memory port: the pages it put on the list stand there in page order after those listed
before it, and a write begins if none is in progress (R173). `before` is the write list before the event. -/
def settlePort (before : List PageId) (s : State) : State :=
  let added := s.port.list.drop before.length
  beginWrite { s with port := { s.port with list := before ++ allPages.filter fun p => added.contains p } }

/-- What the serial memory holds of a page. -/
def setArea (p : PageId) (c : Option PageContent) (s : State) : State :=
  { s with port := { s.port with areas := s.port.areas.set (pageIndex p) c } }

/-- A write cut short by a reset, a start or a loss of power leaves its page with a bad CRC (R174). -/
def areasAfterCut (s : State) : List (Option PageContent) :=
  match s.port.writing with
  | none => s.port.areas
  | some w => s.port.areas.set (pageIndex w.page) none

/-- A page write completes successfully: the page becomes CLEAN or, changed meanwhile, DIRTY and listed again (R172). -/
def finishWrite (s : State) : State :=
  match s.port.writing with
  | none => s
  | some w =>
    let old := pageState w.page s
    let t := setArea w.page (some w.content) { s with port := { s.port with writing := none } }
    if old = .writingDirty then putOnList [w.page] (setPageState w.page .dirty t)
    else setPageState w.page .clean t

/-- A page write fails: the page returns to DIRTY and is not put back on the list (R174). What its area then holds is a
free value (assumption 9). -/
def failWrite (s : State) : State :=
  match s.port.writing with
  | none => s
  | some w =>
    let t := setPageState w.page .dirty { s with port := { s.port with writing := none }, free := s.free + 1 }
    match Config.failedWriteLeaves s.free with
    | .old => t
    | .new => setArea w.page (some w.content) t
    | .bad => setArea w.page none t

end Sys2Proof.Machine
end

