-- ==== Sys2Proof/Machine/Queue.lean ====
section
/-! DEFINITION. The work queue: raising, merging, supersession, displacement and removal of items, and the visit-request
mark (R157 to R162). -/

namespace Sys2Proof.Machine

/-- The items of severity 2 or 3, OPEN or TAKEN alike (R162). -/
def severeCount (items : List Item) : Nat := items.countP fun it => 2 ≤ it.severity

/-- The items of severity 3. -/
def urgentCount (items : List Item) : Nat := items.countP fun it => it.severity == 3

/-- The visit-request mark for a queue, from the mark before: raised by a severity-3 item or a count of U, lowered with
neither and a count below L, and otherwise as it was (R162). -/
def markOf (cfg : Settings) (items : List Item) (old : Bool) : Bool :=
  if 0 < urgentCount items ∨ cfg.riseCount ≤ severeCount items then true
  else if severeCount items < cfg.fallCount then false
  else old

/-- The mark is taken anew (R162). -/
def takeMark (s : State) : State :=
  { s with queue := { s.queue with mark := markOf s.cfg s.queue.items s.queue.mark } }

/-- The page that holds a place is marked dirty and its immediate write asked (R161). -/
def writePlace (place : Nat) (s : State) : State := writeSoon (.queue (place / 8)) s

/-- Every page from the one that holds a place to the one that holds another is marked dirty and its write asked (R161). -/
def writePlaces (first last : Nat) (s : State) : State :=
  ([0, 1, 2].filter fun q => first / 8 ≤ q && q ≤ last / 8).foldl (fun t q => writeSoon (.queue q) t) s

/-- The place of the item of a kind and target (R156: there is at most one). -/
def findKind (k : ItemKind) (t : Target) (items : List Item) : Option Nat :=
  items.findIdx? fun it => it.kind == k && it.target == t

/-- The place of the item with a number. -/
def findNumber (n : Nat) (items : List Item) : Option Nat := items.findIdx? fun it => it.number == n

/-- An item leaves the queue, and the items after it move up one place (R161). -/
def removePlace (place : Nat) (s : State) : State :=
  let last := s.queue.items.length - 1
  takeMark (writePlaces place last { s with queue := { s.queue with items := s.queue.items.eraseIdx place } })

/-- An item changes in its place (R161). -/
def changePlace (place : Nat) (f : Item → Item) (s : State) : State :=
  writePlace place { s with queue := { s.queue with items := s.queue.items.modify place f } }

/-- The number after one: 1 after 65535 (0.5.3). -/
def nextNumber (n : Nat) : Nat := if n ≥ 65535 then 1 else n + 1

/-- The next item number that no item in the queue holds (R157 step 5): at most 24 are held, so `fuel` of 25 finds one. -/
def freeNumber (held : List Nat) : Nat → Nat → Nat
  | 0, n => nextNumber n
  | fuel + 1, n => if held.contains (nextNumber n) then freeNumber held fuel (nextNumber n) else nextNumber n

/-- A new item is appended at the end of the raise order (R157 step 5). -/
def appendItem (k : ItemKind) (t : Target) (severity : Nat) (s : State) : State :=
  let number := freeNumber (s.queue.items.map Item.number) 25 s.queue.counter
  let item : Item :=
    { number := number, kind := k, target := t, severity := severity, raised := s.now, taken := none, repeats := 0 }
  let place := s.queue.items.length
  takeMark (writePlace place (markDirty .cabinet
    { s with queue := { s.queue with items := s.queue.items ++ [item], counter := number } }))

/-- The place of the item displaced for a new one of a severity: the oldest OPEN item of the lowest severity among the
OPEN items, if that is below the new severity (R160). -/
def displacedPlace (severity : Nat) (items : List Item) : Option Nat :=
  match ((items.filter fun it => it.taken.isNone).map Item.severity).min? with
  | none => none
  | some lowest =>
    if lowest < severity then items.findIdx? fun it => it.taken.isNone && it.severity == lowest else none

/-- A new item is entered: into room, in place of a displaced item, or discarded (R157 steps 4 and 5, R160). -/
def enterItem (k : ItemKind) (t : Target) (severity : Nat) (s : State) : State :=
  if s.queue.items.length < 24 then appendItem k t severity s
  else
    match displacedPlace severity s.queue.items with
    | some place =>
      appendItem k t severity
        (removePlace place { s with queue := { s.queue with displaced := inc16 s.queue.displaced } })
    | none => { s with queue := { s.queue with overflow := inc16 s.queue.overflow } }

/-- A raise merges into an item: the larger severity and one more repeat (R158). -/
def mergeItem (severity : Nat) (it : Item) : Item :=
  { it with severity := max it.severity severity, repeats := satAdd 255 it.repeats 1 }

/-- A STRING_REPLACE raise removes an OPEN STRING_REVIEW item for the same string (R159). -/
def supersedeReview (t : Target) (s : State) : State :=
  match findKind .stringReview t s.queue.items with
  | none => s
  | some place =>
    if (s.queue.items[place]?.bind Item.taken).isNone then removePlace place s else s

/-- A raise of a kind, a target and a severity, in the order of R157. That a merge asks its page's write also where the repeat count is
saturated and the severity stays is assumption 35. -/
def raiseItem (k : ItemKind) (t : Target) (severity : Nat) (s : State) : State :=
  match findKind k t s.queue.items with
  | some place => takeMark (changePlace place (mergeItem severity) s)
  | none =>
    if k = .stringReview ∧ (findKind .stringReplace t s.queue.items).isSome then s
    else enterItem k t severity (if k = .stringReplace then supersedeReview t s else s)

end Sys2Proof.Machine
end

