-- ==== Sys2Proof/Machine/StackView.lean ====
section
/-! DEFINITION. What the activity stack answers the blocks that consult it (R52), the outputs it drives (R48, R129), and
the own mode (R49). -/

namespace Sys2Proof.Machine

/-- The level of a frame, fixed by its kind (3.1). -/
def Frame.level : Frame → Nat
  | .equalize _ => 1
  | .test _ => 1
  | .withdrawal _ => 2
  | .discharge _ => 3

/-- The frame is an EQUALIZE. -/
def Frame.isEqualize : Frame → Bool
  | .equalize _ => true
  | .test _ => false
  | .withdrawal _ => false
  | .discharge _ => false

/-- The frame is a TEST. -/
def Frame.isTest : Frame → Bool
  | .equalize _ => false
  | .test _ => true
  | .withdrawal _ => false
  | .discharge _ => false

/-- The frame is a WITHDRAWAL. -/
def Frame.isWithdrawal : Frame → Bool
  | .equalize _ => false
  | .test _ => false
  | .withdrawal _ => true
  | .discharge _ => false

/-- The frame is a DISCHARGE. -/
def Frame.isDischarge : Frame → Bool
  | .equalize _ => false
  | .test _ => false
  | .withdrawal _ => false
  | .discharge _ => true

/-- The fields of an EQUALIZE frame. -/
def Frame.equalize? : Frame → Option EqualizeFrame
  | .equalize f => some f
  | _ => none

/-- The fields of a TEST frame. -/
def Frame.test? : Frame → Option TestFrame
  | .test f => some f
  | _ => none

/-- The fields of a WITHDRAWAL frame. -/
def Frame.withdrawal? : Frame → Option WithdrawalFrame
  | .withdrawal f => some f
  | _ => none

/-- The level of the top frame, or 0 when the stack is empty (3.1). -/
def topLevel (frames : List Frame) : Nat := (frames.head?.map Frame.level).getD 0

/-- The stack is empty (R52). -/
def State.stackEmpty (s : State) : Bool := s.stack.frames.isEmpty

/-- An EQUALIZE frame is on the stack, running or suspended. -/
def State.hasEqualize (s : State) : Bool := s.stack.frames.any Frame.isEqualize

/-- A TEST frame is on the stack. -/
def State.hasTest (s : State) : Bool := s.stack.frames.any Frame.isTest

/-- A WITHDRAWAL frame is on the stack. -/
def State.hasWithdrawal (s : State) : Bool := s.stack.frames.any Frame.isWithdrawal

/-- A DISCHARGE frame is on the stack. -/
def State.hasDischarge (s : State) : Bool := s.stack.frames.any Frame.isDischarge

/-- The EQUALIZE frame on the stack. -/
def State.equalize? (s : State) : Option EqualizeFrame := s.stack.frames.findSome? Frame.equalize?

/-- The TEST frame on the stack. -/
def State.test? (s : State) : Option TestFrame := s.stack.frames.findSome? Frame.test?

/-- The WITHDRAWAL frame on the stack. -/
def State.withdrawal? (s : State) : Option WithdrawalFrame := s.stack.frames.findSome? Frame.withdrawal?

/-- The top frame is an EQUALIZE: the equalize is running (R17, R46). -/
def State.equalizeTop (s : State) : Bool := (s.stack.frames.head?.map Frame.isEqualize).getD false

/-- The top frame is a TEST. -/
def State.testTop (s : State) : Bool := (s.stack.frames.head?.map Frame.isTest).getD false

/-- EQZ is asserted exactly while the top frame is EQUALIZE, and not in STARTING and CONFIG_FAULT (R48). -/
def State.eqz (s : State) : Bool := s.running && s.equalizeTop

/-- TST is asserted exactly while the top frame is TEST, and not in STARTING and CONFIG_FAULT (R48). -/
def State.tst (s : State) : Bool := s.running && s.testTop

/-- MBPC is asserted during a close pulse (R129). -/
def State.mbpc (s : State) : Bool :=
  match s.bypass.pulse with
  | some p => p.kind == .mbpc
  | none => false

/-- MBPO is asserted during an open pulse (R129). -/
def State.mbpo (s : State) : Bool :=
  match s.bypass.pulse with
  | some p => p.kind == .mbpo
  | none => false

/-- SVC_N is asserted while the visit-request mark is raised, and not while the part is held (R162, R175). -/
def State.svc (s : State) : Bool := !s.held && s.queue.mark

/-- The own mode: the first line of R49 that holds. -/
def State.mode (s : State) : Mode :=
  if s.line.state = .joining then .joining
  else if s.hasWithdrawal then .withdrawn
  else if s.pins.bypLoad then .onBypass
  else if s.hasDischarge then .discharging
  else .online

/-- A visit is open. -/
def State.visitOpen (s : State) : Bool := s.visits.current.isSome

end Sys2Proof.Machine
end

