-- ==== Sys2Proof/Machine/Accounts.lean ====
section
/-! DEFINITION. The string accounts: temperature factor and time wear (R7, R14 to R19), health, energy and crossings (R28
to R33), discharge wear (R23, R24), test records and replacement (R35, R36). What a discharge event hands to the
conditioning controller stands in Sys2Proof/Machine/Conditioning.lean. -/

namespace Sys2Proof.Machine

/-- A figure of a string's configuration. -/
def stringSettings (s : State) (i : Nat) : StringSettings := rawString s.cfg i

/-- The part with the account of string `i` changed. -/
def setAccount (i : Nat) (a : Account) (s : State) : State :=
  { s with accounts := { s.accounts with strings := s.accounts.strings.set i a } }

/-! ## Health, available charge, energy (R28 to R31) -/

/-- Wear health: what is left of the design life, in percent (R28). -/
def wearHealth (designLife wear : Nat) : Nat := (designLife - min wear designLife) * 100 / designLife

/-- Health is the smaller of wear health and measured capacity (R28). -/
def healthOf (designLife : Nat) (a : Account) : Nat := min (wearHealth designLife a.wear) a.measured

/-- Available charge in Ah (R29). -/
def availableOf (ratedAh health : Nat) : Nat := ratedAh * health / 100

/-- Cabinet energy in 100 Wh from the available charges and nominal voltages, saturating on the quotient (R30). -/
def energyOf (cfg : Settings) (accounts : List Account) : Nat :=
  min 65535 ((List.zipWith (fun a c => a.available * c.nominalV) accounts cfg.strings).sum / 100)

/-- A runtime in minutes: 999 with no load, and otherwise at most 999 (R31, R98). -/
def runtimeOf (energy load : Nat) : Nat := if load = 0 then 999 else min 999 (energy * 60 / load)

/-- The load value the intake gives the bypass controller (R5). -/
def State.loadValue (s : State) : Nat :=
  match s.intake.loadState with
  | .valid => s.intake.load
  | .degraded => s.cfg.rating

/-- The load value of the status notice (R5). -/
def State.noticeLoad (s : State) : Nat :=
  match s.intake.loadState with
  | .valid => s.intake.load
  | .degraded => 65535

/-- Health, available charge and crossing flags of an account, computed anew (R28, R29, R32, R33). -/
def recomputed (cfg : Settings) (c : StringSettings) (a : Account) : Account :=
  let h := healthOf cfg.designLife a
  { a with
    health := h
    available := availableOf c.ratedAh h
    reviewCrossed := h ≤ cfg.reviewThreshold
    replaceCrossed := h ≤ cfg.replaceThreshold }

/-- Health is recomputed for string `i`, with the energy, the crossings and their items (R28 to R33). The weak state of R34
is read from the healths. -/
def recompute (i : Nat) (s : State) : State :=
  match s.accounts.strings[i]? with
  | none => s
  | some a =>
    let b := recomputed s.cfg (stringSettings s i) a
    let t := setAccount i b s
    let t := { t with accounts := { t.accounts with energy := energyOf s.cfg t.accounts.strings } }
    let t := if b.reviewCrossed != a.reviewCrossed || b.replaceCrossed != a.replaceCrossed
      then markDirty (.string i) t else t
    if b.replaceCrossed && !a.replaceCrossed then raiseItem .stringReplace (.string i) 3 t
    else if b.reviewCrossed && !a.reviewCrossed then raiseItem .stringReview (.string i) 1 t
    else t

/-- The lowest health of the configured strings (R13). -/
def State.minHealth (s : State) : Nat := (s.accounts.strings.map Account.health).foldl min 100

/-! ## Time wear (R7, R14 to R19) -/

/-- The accounting temperature of a string (R7). -/
def accountingTemp (s : State) (i : Nat) : Int :=
  match s.intake.readings[i]? with
  | none => 180
  | some r => if r.tempState = .usable ∧ !s.intake.gap then r.temp else 180

/-- The temperature factor in 256ths, for a temperature in quarter degrees (R15, R16). -/
def tempFactor (t : Int) : Nat :=
  let e := t - 100
  if e < -80 then 64
  else if 160 < e then 4096
  else
    let k := e / 40
    let m := 256 + (256 * (e - 40 * k) / 40).toNat
    if 0 ≤ k then m * 2 ^ k.toNat else m / 2 ^ (-k).toNat

/-- The wear increment: the factor, doubled while the top frame is EQUALIZE (R17). -/
def increment (equalizing : Bool) (t : Int) : Nat := if equalizing then 2 * tempFactor t else tempFactor t

/-- Time wear of one second on an account: the residue, the carry into W, and the bound of W (R18, R19). -/
def timeWear (inc : Nat) (a : Account) : Account :=
  if 1000000 ≤ a.wear then { a with residue := 0 }
  else if a.residue + inc < 921600 then { a with residue := a.residue + inc }
  else if a.wear + 1 = 1000000 then { a with wear := 1000000, residue := 0 }
  else { a with wear := a.wear + 1, residue := a.residue + inc - 921600 }

/-- A wear second for string `i` (R14). -/
def wearString (i : Nat) (s : State) : State :=
  match s.accounts.strings[i]? with
  | none => s
  | some a =>
    let b := timeWear (increment s.equalizeTop (accountingTemp s i)) a
    let t := setAccount i b s
    let t := if b = a then t else markDirty (.string i) t
    if b.wear = a.wear then t else recompute i t

/-! ## Discharge wear (R23, R24) -/

/-- Cap: the rated capacity in 0.1 A·s (2.1). -/
def capOf (c : StringSettings) : Nat := c.ratedAh * 36000

/-- The depth of an event in permille (R23). -/
def depthOf (cap q : Nat) : Nat := min 1000 (q * 1000 / cap)

/-- The weight of a depth band (R23). -/
def weightOf (d : Nat) : Nat := if d < 200 then 8 else if d < 500 then 16 else if d < 800 then 24 else 32

/-- The discharge wear of an event, in reference hours (R24). -/
def dischargeWear (cycleCost d : Nat) : Nat := cycleCost * d * weightOf d / 16000

/-- Discharge wear added to W, saturating, with the effect of R19 on the residue. -/
def addWear (w : Nat) (a : Account) : Account :=
  if 1000000 ≤ a.wear + w then { a with wear := 1000000, residue := 0 } else { a with wear := a.wear + w }

/-! ## Test records and replacement (R35, R36) -/

/-- A test record is taken for string `i`: its result, its test charge, and for PASSED and ENDED the measured capacity
(R35). -/
def takeRecord (i : Nat) (result : TestResult) (qt : Nat) (measured : Option Nat) (s : State) : State :=
  match s.accounts.strings[i]? with
  | none => s
  | some a =>
    recompute i (markDirty (.string i) (setAccount i
      { a with
        lastTest := result
        testCharge := qt
        testEndHour := s.clock.hours
        measured := measured.getD a.measured } s))

/-- An account after a replacement; the discharge event goes on (R36, R27). -/
def replacedAccount (hours : Nat) (a : Account) : Account :=
  { a with
    wear := 0
    residue := 0
    events := 0
    measured := 100
    lastTest := .untested
    testCharge := 0
    testEndHour := 0
    installHour := hours
    reviewCrossed := false
    replaceCrossed := false }

/-- A string is replaced: its account is reset and its page is written at once (R36, R37). -/
def replaceString (i : Nat) (s : State) : State :=
  match s.accounts.strings[i]? with
  | none => s
  | some a =>
    askWrite (.string i) (recompute i (markDirty (.string i) (setAccount i (replacedAccount s.clock.hours a) s)))

end Sys2Proof.Machine
end

