-- ==== Sys2Proof/Machine/Support.lean ====
section
/-! DEFINITION. The support evaluator: the own group's members, the online set, the group load, and the three checks (R94
to R101). It keeps nothing: every check is a function of the state at the moment it is taken. -/

namespace Sys2Proof.Machine

/-- The entry of a station in the peer table. -/
def State.peer (s : State) (n : Nat) : Peer := if n = 0 then Peer.blank else s.peers.getD (n - 1) Peer.blank

/-- The part with a station's entry changed. -/
def setPeer (n : Nat) (p : Peer) (s : State) : State :=
  if n = 0 then s else { s with peers := s.peers.set (n - 1) p }

/-- A group member as the checks see it: its mode, its rating and energy, the figure it counts in P, and whether it may be
online (the own cabinet, or a LIVE peer). -/
structure Member where
  station : Nat
  mode : Mode
  counts : Nat
  rating : Nat
  energy : Nat
  current : Bool
deriving DecidableEq, Repr

/-- What a peer counts in the group load, by the first line of R96 that applies. -/
def peerCounts (n : Notice) : Nat :=
  if n.mode = .withdrawn then 0
  else if n.mode = .joining then n.rating
  else if n.load = 65535 then n.rating
  else n.load

/-- The own cabinet as a member (R94, R96). -/
def ownMember (s : State) : Member :=
  let counts := if s.mode = .withdrawn then 0 else if s.mode = .joining then s.cfg.rating else s.loadValue
  { station := s.id.station
    mode := s.mode
    counts := counts
    rating := s.cfg.rating
    energy := s.accounts.energy
    current := true }

/-- A peer entry is a member of the own group: LIVE or STALE, and of that group (R95). -/
def isMember (s : State) (p : Peer) : Bool := p.state != .empty && p.notice.group == s.id.group

/-- A peer entry as a member. -/
def peerMember (n : Nat) (p : Peer) : Member :=
  { station := n
    mode := p.notice.mode
    counts := peerCounts p.notice
    rating := p.notice.rating
    energy := p.notice.energy
    current := p.state == .live }

/-- The peer entries of the own group, with their station numbers. -/
def memberPeers (s : State) : List (Nat × Peer) :=
  (s.peers.zipIdx.map fun e => (e.2 + 1, e.1)).filter fun e => isMember s e.2

/-- The group members: the own cabinet, then the peers by station number (R95). -/
def members (s : State) : List Member := ownMember s :: (memberPeers s).map fun e => peerMember e.1 e.2

/-- A member is in the online set: current, and ONLINE or DISCHARGING (R95). -/
def Member.online (m : Member) : Bool := m.current && (m.mode == .online || m.mode == .discharging)

/-- The online set O (R95). -/
def onlineSet (s : State) : List Member := (members s).filter Member.online

/-- R = O without a station (6.4). -/
def remainingSet (s : State) (station : Nat) : List Member := (onlineSet s).filter fun m => m.station != station

/-- The group load P (R96). -/
def groupLoad (s : State) : Nat := ((members s).map Member.counts).sum

/-- The sum of the ratings of a set. -/
def ratingSum (ms : List Member) : Nat := (ms.map Member.rating).sum

/-- A quotient rounded up. -/
def ceilDiv (a b : Nat) : Nat := (a + b - 1) / b

/-- The share of the group load that a member would carry, rounded up (R98); a free value where the ratings sum to 0 (R97,
assumption 22). -/
def shareOf (load total : Nat) (m : Member) : Nat :=
  if total = 0 then Config.noShare load m.rating else ceilDiv (load * m.rating) total

/-- The runtime demand is met (R98). -/
def demandMet (cfg : Settings) (load total : Nat) (m : Member) : Bool :=
  cfg.minRuntime ≤ runtimeOf m.energy (shareOf load total m)

/-- Condition 2 of R97: no member, by its last mode, is DISCHARGING or ON_BYPASS. -/
def noneStrained (s : State) : Bool := (members s).all fun m => m.mode != .discharging && m.mode != .onBypass

/-- Condition 3 of R97 for a set that would carry the load. -/
def carries (s : State) (ms : List Member) : Bool := groupLoad s * (100 + s.cfg.reserve) ≤ ratingSum ms * 100

/-- The number of the first condition of R97 that fails for a station, or 0 for a pass; condition 3 is left out of a test
check (R99). A set whose ratings sum to 0 forms no share, and is shown as failing condition 4 (assumption 22). -/
def firstFailure (kind : ClaimKind) (s : State) (station : Nat) : Nat :=
  let r := remainingSet s station
  if r.isEmpty then 1
  else if !noneStrained s then 2
  else if kind = .withdraw ∧ !carries s r then 3
  else if ratingSum r = 0 then 4
  else if !(r.all fun m => demandMet s.cfg (groupLoad s) (ratingSum r) m) then 4
  else 0

/-- The support check of a kind for a station passes (R97, R99). -/
def supports (kind : ClaimKind) (s : State) (station : Nat) : Bool := firstFailure kind s station == 0

/-- The present-state check: condition 3 with R = O; with O empty it passes only if P is 0 (R100). -/
def presentCheck (s : State) : Bool := carries s (onlineSet s)

end Sys2Proof.Machine
end

