-- ==== Sys2Proof/Machine/Flags.lean ====
section
/-! DEFINITION. The condition monitor: the sixteen conditions (10.3), the activities each holds back, levels and the alert
lamp (R166), and the follow conditions taken from what their owners report (R163). -/

namespace Sys2Proof.Machine

/-- The sixteen conditions in number order. -/
def allConditions : List Condition :=
  [.mainsLost, .onBypass, .stringHot, .tempLost, .sampleGap, .recordLost, .peerLost, .redundancyLost, .claimConflict,
   .duplicateId, .transferFault, .uncommandedBypass, .visitOverdue, .queueFull, .stringWeak, .lineErrors]

/-- A condition's number less one: its bit in a condition set (5.9.4). -/
def Condition.bit : Condition → Nat
  | .mainsLost => 0
  | .onBypass => 1
  | .stringHot => 2
  | .tempLost => 3
  | .sampleGap => 4
  | .recordLost => 5
  | .peerLost => 6
  | .redundancyLost => 7
  | .claimConflict => 8
  | .duplicateId => 9
  | .transferFault => 10
  | .uncommandedBypass => 11
  | .visitOverdue => 12
  | .queueFull => 13
  | .stringWeak => 14
  | .lineErrors => 15

/-- A latched condition stays active until it is cleared; the others follow their cause (10.3). -/
def Condition.latched : Condition → Bool
  | .recordLost => true
  | .peerLost => true
  | .claimConflict => true
  | .duplicateId => true
  | .transferFault => true
  | .uncommandedBypass => true
  | .lineErrors => true
  | .mainsLost => false
  | .onBypass => false
  | .stringHot => false
  | .tempLost => false
  | .sampleGap => false
  | .redundancyLost => false
  | .visitOverdue => false
  | .queueFull => false
  | .stringWeak => false

/-- Whether a condition is active. -/
def Conditions.get (c : Conditions) : Condition → Bool
  | .mainsLost => c.mainsLost
  | .onBypass => c.onBypass
  | .stringHot => c.stringHot
  | .tempLost => c.tempLost
  | .sampleGap => c.sampleGap
  | .recordLost => c.recordLost
  | .peerLost => c.peerLost
  | .redundancyLost => c.redundancyLost
  | .claimConflict => c.claimConflict
  | .duplicateId => c.duplicateId
  | .transferFault => c.transferFault
  | .uncommandedBypass => c.uncommandedBypass
  | .visitOverdue => c.visitOverdue
  | .queueFull => c.queueFull
  | .stringWeak => c.stringWeak
  | .lineErrors => c.lineErrors

/-- The conditions with one of them set or cleared. -/
def Conditions.put (c : Conditions) (k : Condition) (v : Bool) : Conditions :=
  match k with
  | .mainsLost => { c with mainsLost := v }
  | .onBypass => { c with onBypass := v }
  | .stringHot => { c with stringHot := v }
  | .tempLost => { c with tempLost := v }
  | .sampleGap => { c with sampleGap := v }
  | .recordLost => { c with recordLost := v }
  | .peerLost => { c with peerLost := v }
  | .redundancyLost => { c with redundancyLost := v }
  | .claimConflict => { c with claimConflict := v }
  | .duplicateId => { c with duplicateId := v }
  | .transferFault => { c with transferFault := v }
  | .uncommandedBypass => { c with uncommandedBypass := v }
  | .visitOverdue => { c with visitOverdue := v }
  | .queueFull => { c with queueFull := v }
  | .stringWeak => { c with stringWeak := v }
  | .lineErrors => { c with lineErrors := v }

/-- A condition is raised or lowered in the monitor (R163). -/
def setCondition (k : Condition) (v : Bool) (s : State) : State :=
  { s with monitor := { s.monitor with active := s.monitor.active.put k v } }

/-- A condition that holds back a test is active (the Test column of 10.3; R60). -/
def Conditions.inhibitsTest (c : Conditions) : Bool :=
  c.mainsLost || c.onBypass || c.stringHot || c.tempLost || c.sampleGap || c.redundancyLost || c.claimConflict
    || c.transferFault

/-- A condition that holds back an equalize start is active (the Equalize column of 10.3; R57). -/
def Conditions.inhibitsEqualize (c : Conditions) : Bool := c.mainsLost || c.stringHot || c.tempLost || c.sampleGap

/-- A condition that holds back a WITHDRAW claim is active (the Withdraw column of 10.3; R107). -/
def Conditions.inhibitsWithdraw (c : Conditions) : Bool :=
  c.mainsLost || c.onBypass || c.claimConflict || c.transferFault || c.uncommandedBypass

/-- A condition that holds back consent is active (the Consent column of 10.3; R114). -/
def Conditions.inhibitsConsent (c : Conditions) : Bool := c.mainsLost || c.onBypass || c.claimConflict

/-- A condition that holds back a claim of a kind is active (R107). -/
def Conditions.inhibitsClaim (c : Conditions) : ClaimKind → Bool
  | .withdraw => c.inhibitsWithdraw
  | .test => c.inhibitsTest

/-- The level of a condition: its pair's (R166). -/
def levelOf (cfg : Settings) (k : Condition) : Nat := cfg.levels.getD (k.bit / 2) 0

/-- The conditions that are active, in number order. -/
def activeConditions (c : Conditions) : List Condition := allConditions.filter fun k => c.get k

/-- The highest level among the active conditions, 0 when none is active (R166). -/
def State.highestLevel (s : State) : Nat := ((activeConditions s.monitor.active).map (levelOf s.cfg)).foldl max 0

/-- ALERT_N is asserted: in STARTING and CONFIG_FAULT always, and otherwise while an active condition has a level at or
above the threshold; not while the part is held (R166, R175). -/
def State.alert (s : State) : Bool :=
  if s.held then false
  else if !s.running then true
  else (activeConditions s.monitor.active).any fun k => s.cfg.alertThreshold ≤ levelOf s.cfg k

/-- The line state is ACTIVE or MUTED: the present-state check is reported (R100), and an equalize may start (R57). -/
def State.joined (s : State) : Bool :=
  match s.line.state with
  | .active => true
  | .muted => true
  | .joining => false
  | .starting => false
  | .configFault => false

/-- The end of JOINING has passed, in ACTIVE or MUTED: from then on a breaker movement may be uncommanded (R83, R134). -/
def State.pastJoining (s : State) : Bool := s.joined && s.line.joiningTimer.isNone

/-- A string is judged weak: its health is at or below the review threshold (R34). -/
def anyWeak (s : State) : Bool := s.accounts.strings.any fun a => a.health ≤ s.cfg.reviewThreshold

/-- Each follow condition takes the state its owner reports (R163); the latched ones are left as they are. -/
def followed (s : State) : Conditions :=
  { s.monitor.active with
    mainsLost := s.bypass.mains == .lost
    onBypass := s.running && s.pins.bypLoad
    stringHot := s.monitor.hot.any id
    tempLost := s.intake.readings.any fun r => r.tempState == .lost
    sampleGap := s.intake.gap
    redundancyLost := s.joined && !presentCheck s
    visitOverdue := (s.visits.current.map Visit.overdue).getD false
    queueFull := s.queue.items.length == 24
    stringWeak := anyWeak s }

/-- The follow conditions are taken anew. -/
def refresh (s : State) : State := { s with monitor := { s.monitor with active := followed s } }

/-- The hot flag after a delivered temperature (R164). -/
def hotAfter (limit : Nat) (t : Int) (old : Bool) : Bool :=
  if (limit : Int) < t then true else if t < (limit : Int) - 8 then false else old

end Sys2Proof.Machine
end

