-- ==== Sys2Proof/Machine/Line.lean ====
section
/-! DEFINITION. The transmit queue (R79, R80) and the receive counters (R76 to R78). -/

namespace Sys2Proof.Machine

/-- The station sends: JOINING or ACTIVE (R83). -/
def State.sending (s : State) : Bool :=
  match s.line.state with
  | .joining => true
  | .active => true
  | .muted => false
  | .starting => false
  | .configFault => false

/-- The station takes frames: it runs and its line controller is synchronised (R73, R83). A frame in flight of its own, which its loss or
abandonment ends before another frame can arrive (R74, R75), is not asked about (assumption 1). -/
def State.receiving (s : State) : Bool := s.running && s.line.synchronised

/-- A queued STATUS that waits: a STATUS in flight is not waiting (R80). -/
def TxFrame.isWaitingStatus (f : TxFrame) : Bool := f.cls == .status && !f.inFlight

/-- A frame of the classes that displace a RESULT or RECORD from a full queue (R80). -/
def FrameClass.displaces : FrameClass → Bool
  | .mains => true
  | .claim => true
  | .release => true
  | .status => false
  | .request => false
  | .result => false
  | .record => false

/-- A queued frame that can be displaced: a RESULT or RECORD not in flight (R80). -/
def TxFrame.displaceable (f : TxFrame) : Bool := (f.cls == .result || f.cls == .record) && !f.inFlight

/-- The place of the youngest displaceable frame (R80). -/
def youngestDisplaceable (tx : List TxFrame) : Option Nat :=
  (tx.reverse.findIdx? TxFrame.displaceable).map fun i => tx.length - 1 - i

/-- The queue takes a frame of a class, replacing, joining or displacing (R80); otherwise it drops it. -/
def takes (c : FrameClass) (tx : List TxFrame) : Bool :=
  (c == .status && tx.any TxFrame.isWaitingStatus) || tx.length < 6
    || (c.displaces && (youngestDisplaceable tx).isSome)

/-- A frame is handed to the line controller (R80). A station that does not send takes none (R79, R83, R119). -/
def handFrame (f : TxFrame) (s : State) : State :=
  if !s.sending then s
  else
    let tx := s.line.tx
    if f.cls = .status ∧ tx.any TxFrame.isWaitingStatus then
      { s with line := { s.line with tx := tx.map fun g => if g.isWaitingStatus then f else g } }
    else if tx.length < 6 then { s with line := { s.line with tx := tx ++ [f] } }
    else
      match (if f.cls.displaces then youngestDisplaceable tx else none) with
      | some place =>
        { s with line := { s.line with tx := tx.eraseIdx place ++ [f], displaced := inc16 s.line.displaced } }
      | none => { s with line := { s.line with drops := inc16 s.line.drops } }

/-- A frame to hand to the queue. -/
def newFrame (c : FrameClass) (dest : Nat) (payload : List Byte) : TxFrame :=
  { cls := c, dest := dest, payload := payload, inFlight := false, fresh := true, awaited := false }

/-- A MAINS frame is handed over, if the line state is ACTIVE (R125, R126). -/
def handMains (k : MainsKind) (s : State) : State :=
  if s.line.state = .active
  then handFrame (newFrame .mains 31 [match k with | .lost => 1#8 | .restored => 2#8]) s else s

/-- The payload of a CLAIM or RELEASE frame (5.9.2). -/
def kindPayload (k : ClaimKind) : List Byte := [BitVec.ofNat 8 (kindCode k)]

/-- The place of the frame to start at the next idle: the oldest frame of the lowest class (R79). -/
def headPlace (tx : List TxFrame) : Option Nat :=
  match (tx.map fun f => f.cls.code).min? with
  | none => none
  | some c => tx.findIdx? fun f => f.cls.code == c

/-- The place of the frame in flight. -/
def flightPlace (tx : List TxFrame) : Option Nat := tx.findIdx? TxFrame.inFlight

/-- Something leaves the CLAIM frames of the queue behind: they no longer announce the claim now standing (R109). -/
def outdateClaims (tx : List TxFrame) : List TxFrame :=
  tx.map fun f => if f.cls = .claim then { f with fresh := false } else f

/-- The settle flag is set anew: no notice in the queue was built after it (R50). -/
def outdateNotices (tx : List TxFrame) : List TxFrame :=
  tx.map fun f => if f.cls = .status then { f with fresh := false } else f

/-- A valid frame is counted as received (R76). -/
def countReceived (s : State) : State := { s with line := { s.line with received := inc16 s.line.received } }

/-- A line error reaches the condition monitor: the count rises, and LINE_ERRORS is raised as it reaches 16 (R78). -/
def lineError (s : State) : State :=
  let n := inc16 s.monitor.lineErrors
  { s with monitor := { s.monitor with
      lineErrors := n
      active := { s.monitor.active with
        lineErrors := s.monitor.active.lineErrors || n == 16 } } }

/-- A received frame fails a check: its counter rises, and a length or CRC failure is a line error (R76, R78). -/
def countFailure (f : RxFailure) (s : State) : State :=
  match f with
  | .length => lineError { s with line := { s.line with lengthFailures := inc16 s.line.lengthFailures } }
  | .crc => lineError { s with line := { s.line with crcFailures := inc16 s.line.crcFailures } }
  | .content => { s with line := { s.line with contentDiscards := inc16 s.line.contentDiscards } }
  | .address => { s with line := { s.line with addressDiscards := inc16 s.line.addressDiscards } }

end Sys2Proof.Machine
end

