-- ==== Sys2Proof/Machine/Claims.lean ====
section
/-! DEFINITION. The claim controller: keys, the claim list, making, yielding and releasing a claim, consent, commit
conditions, and conflict (R106 to R122). The pushes at commit stand in Sys2Proof/Machine/Ops.lean. -/

namespace Sys2Proof.Machine

/-- The key of a claim: kind rank × 32 + station number; a lower key is better (R106). -/
def keyOf (k : ClaimKind) (station : Nat) : Nat :=
  match k with
  | .withdraw => station
  | .test => 32 + station

/-- The key of a list entry. -/
def ClaimEntry.key (e : ClaimEntry) : Nat := keyOf e.kind e.station

/-- The own claim is CLAIMING. -/
def State.claiming (s : State) : Bool :=
  match s.claims.own with
  | some c => !c.holding
  | none => false

/-- The own claim is HOLDING. -/
def State.holding (s : State) : Bool :=
  match s.claims.own with
  | some c => c.holding
  | none => false

/-! ## The claim list (R110 to R113) -/

/-- The list with an entry in its key order, best first. -/
def insertEntry (e : ClaimEntry) : List ClaimEntry → List ClaimEntry
  | [] => [e]
  | f :: rest => if e.key < f.key then e :: f :: rest else f :: insertEntry e rest

/-- The list without a claimant's entry. -/
def removeEntry (station : Nat) (list : List ClaimEntry) : List ClaimEntry := list.filter fun e => e.station != station

/-- The entry of a claimant. -/
def findEntry (station : Nat) (list : List ClaimEntry) : Option ClaimEntry := list.find? fun e => e.station == station

/-- The worst CLAIMING entry: the last in key order that is not HOLDING (R108, R112). -/
def worstClaiming (list : List ClaimEntry) : Option ClaimEntry := list.reverse.find? fun e => !e.holding

/-- The part with its claim list changed. -/
def setList (l : List ClaimEntry) (s : State) : State := { s with claims := { s.claims with list := l } }

/-- An entry confirmed now: 10 s to the next confirmation (R110). -/
def confirmedEntry (s : State) (station : Nat) (k : ClaimKind) (holding : Bool) : ClaimEntry :=
  { station := station, kind := k, holding := holding, confirmed := s.now, timer := seconds 10 }

/-- An entry leaves the list (R113). -/
def dropEntry (station : Nat) (s : State) : State := setList (removeEntry station s.claims.list) s

/-! ## The end of a claim (R118, R119) -/

/-- The own claim ends: RELEASE is handed over, the own entry leaves the list, the spacing timer starts. Queued CLAIM
frames no longer announce a standing claim (R109). -/
def endClaim (c : OwnClaim) (s : State) : State :=
  let t := handFrame (newFrame .release 31 (kindPayload c.kind)) s
  { t with
    line := { t.line with tx := outdateClaims t.line.tx }
    claims := { t.claims with
      own := none
      window := none
      list := removeEntry t.id.station t.claims.list
      spacing := seconds 5 } }

/-- A CLAIMING claim yields with a result (R118); in any other claim state nothing happens. -/
def yieldClaim (r : ClaimResult) (s : State) : State :=
  match s.claims.own with
  | some c =>
    if c.holding then s
    else
      let t := endClaim c s
      { t with claims := { t.claims with last := r, lastKind := some c.kind } }
  | none => s

/-- A HOLDING claim is released; the last claim result stays (R119). -/
def releaseClaim (s : State) : State :=
  match s.claims.own with
  | some c => if c.holding then endClaim c s else s
  | none => s

/-- A new entry is made, subject to the bound of four (R112): into room, or in place of the worst CLAIMING entry if the new
one is HOLDING or has the better key; where that is the own entry, the own claim yields. -/
def enterEntry (e : ClaimEntry) (s : State) : State :=
  if s.claims.list.length < 4 then setList (insertEntry e s.claims.list) s
  else
    match worstClaiming s.claims.list with
    | none => s
    | some w =>
      if e.holding || e.key < w.key then
        let t := dropEntry w.station (if w.station = s.id.station then yieldClaim .yielded s else s)
        setList (insertEntry e t.claims.list) t
      else s

/-- A CLAIM frame from a LIVE peer of the own group is taken into the list (R110). -/
def listClaimFrame (station : Nat) (k : ClaimKind) (s : State) : State :=
  match findEntry station s.claims.list with
  | some e =>
    if e.holding then s
    else setList (insertEntry (confirmedEntry s station k false) (removeEntry station s.claims.list)) s
  | none => enterEntry (confirmedEntry s station k false) s

/-- The claim field of an own-group notice is taken into the list (R111). -/
def listNotice (station : Nat) (claim : Option AnnouncedClaim) (s : State) : State :=
  match claim with
  | none => dropEntry station s
  | some a =>
    let e := confirmedEntry s station a.kind a.holding
    match findEntry station s.claims.list with
    | some _ => setList (insertEntry e (removeEntry station s.claims.list)) s
    | none => enterEntry e s

/-! ## Making a claim (R107 to R109) -/

/-- The list holds a HOLDING entry, or one with a better key than a claim of the kind would have (R107). -/
def listForbids (s : State) (k : ClaimKind) : Bool :=
  s.claims.list.any fun e => e.holding || e.key < keyOf k s.id.station

/-- The claim controller is IDLE and its spacing timer stopped. -/
def claimsIdle (s : State) : Bool := s.claims.own.isNone && s.claims.spacing.isNone

/-- A claim of a kind may be made now (R107). -/
def mayClaim (s : State) (k : ClaimKind) : Bool :=
  claimsIdle s && s.line.state == .active && !s.claims.latch && !listForbids s k
    && !s.monitor.active.inhibitsClaim k
    && match k with
      | .test => s.stackEmpty && !s.visitOpen && !s.stack.settle
      | .withdraw => !s.hasWithdrawal && topLevel s.stack.frames < 2

/-- The own claim's entry in the list; its confirmation timer does not run (R108 step 3). -/
def ownEntry (s : State) (k : ClaimKind) : ClaimEntry :=
  { station := s.id.station, kind := k, holding := false, confirmed := s.now, timer := none }

/-- The CLAIM frame is handed over; a frame dropped on arrival is owed (R109, assumption 15). -/
def handClaim (s : State) : State :=
  match s.claims.own with
  | none => s
  | some c =>
    let t := handFrame (newFrame .claim 31 (kindPayload c.kind)) s
    { t with claims := { t.claims with own := some { c with owed := !takes .claim s.line.tx } } }

/-- The list with the own entry: into room, or in place of the worst CLAIMING entry (R108 step 3). -/
def enterOwn (e : ClaimEntry) (list : List ClaimEntry) : List ClaimEntry :=
  if list.length < 4 then insertEntry e list
  else
    match worstClaiming list with
    | some w => insertEntry e (removeEntry w.station list)
    | none => list

/-- A claim is made (R108): the CLAIM frame, the own entry, and the window of 5 s. The consent is taken anew at the end of
the event. -/
def makeClaim (k : ClaimKind) (origin : ClaimOrigin) (owner : Option Nat) (s : State) : State :=
  let own : OwnClaim :=
    { kind := k, origin := origin, owner := owner, holding := false, announced := false, heard := [], owed := false }
  handClaim { s with claims := { s.claims with
    own := some own, list := enterOwn (ownEntry s k) (removeEntry s.id.station s.claims.list), window := seconds 5 } }

/-- A CLAIM frame reported not sent is handed again once the queue can take it, while the claim is CLAIMING and its window
runs (R109, assumption 15). -/
def handOwedClaim (s : State) : State :=
  match s.claims.own with
  | none => s
  | some c =>
    if c.owed && !c.holding && s.claims.window.isSome && s.sending && takes .claim s.line.tx then handClaim s else s

/-! ## Consent (R114) -/

/-- The conditions under which the station gives any consent (R114). -/
def givesConsent (s : State) : Bool :=
  s.line.state == .active && !s.claims.latch && !s.monitor.active.inhibitsConsent

/-- The consent, from a HOLDING entry, or the best entry if its support check passes (R114). Where two HOLDING entries stand with the
latch clear, it names the one with the better key (assumption 34). -/
def consentOf (s : State) : Option Nat :=
  if !givesConsent s then none
  else
    match s.claims.list.find? ClaimEntry.holding with
    | some e => some e.station
    | none =>
      match s.claims.list.head? with
      | none => none
      | some e => if supports e.kind s e.station then some e.station else none

/-- The consent is taken anew (R115). -/
def retakeConsent (s : State) : State := { s with claims := { s.claims with consent := consentOf s } }

/-! ## Commit conditions (R116) -/

/-- A LIVE member has been heard naming this station since the claim was announced. -/
def namesUs (s : State) (c : OwnClaim) (e : Nat × Peer) : Bool :=
  e.2.state != .live || (c.heard.contains e.1 && e.2.notice.consent == s.id.station)

/-- Every condition of commit holds (R116). -/
def commitReady (s : State) : Bool :=
  match s.claims.own with
  | none => false
  | some c =>
    !c.holding && c.announced && s.claims.window.isSome
      && (memberPeers s).all (namesUs s c) && supports c.kind s s.id.station

/-! ## Yield causes seen in the list and in the conditions (R118) -/

/-- Another station's entry is HOLDING, or has a better key than the own claim (R118). -/
def outranked (s : State) (k : ClaimKind) : Bool :=
  s.claims.list.any fun e => e.station != s.id.station && (e.holding || e.key < keyOf k s.id.station)

/-- The own CLAIMING claim yields to the list or to a condition that inhibits its kind (R118). -/
def yieldIfMust (s : State) : State :=
  match s.claims.own with
  | none => s
  | some c =>
    if c.holding then s
    else if outranked s c.kind then yieldClaim .yielded s
    else if s.monitor.active.inhibitsClaim c.kind then yieldClaim .abandoned s
    else s

/-! ## Conflict (R121) -/

/-- HOLDING entries of two different claimants stand, one of them the given claimant's (R121). -/
def conflictWith (station : Nat) (list : List ClaimEntry) : Bool :=
  list.any (fun e => e.holding && e.station == station) && list.any (fun e => e.holding && e.station != station)

/-- The conflict is reported and the latch set, if an event of a claimant brings it about (R121). -/
def noteConflict (station : Nat) (s : State) : State :=
  if conflictWith station s.claims.list then
    setCondition .claimConflict true { s with claims := { s.claims with latch := true } }
  else s

end Sys2Proof.Machine
end

