-- ==== Sys2Proof/Machine/Conditioning.lean ====
section
/-! DEFINITION. The conditioning controller's latches and schedules (R54 to R58, R69, R70), and the discharge event machine
of the accounts, which hands it the DEPTH latch (R20 to R25). -/

namespace Sys2Proof.Machine

/-- A latch already pending and a new cause merge: the larger minutes; the held origin, but TERMINAL gives way to SCHEDULE
and DEPTH (R56). -/
def mergeLatch (held new : EqualizeLatch) : EqualizeLatch :=
  { origin := if held.origin = .terminal then new.origin else held.origin
    minutes := max held.minutes new.minutes }

/-- A cause sets the equalize latch, or merges into a pending one (R56). -/
def setLatch (new : EqualizeLatch) (s : State) : State :=
  { s with cond := { s.cond with latch := some (match s.cond.latch with | none => new | some held => mergeLatch held new) } }

/-- The minutes of a full equalize (R55, R56). -/
def fullMinutes (cfg : Settings) : Nat := cfg.equalizeDuration * 60

/-- The next due hour of a schedule counted from now: none with interval 0 (R58, R65, R70). -/
def nextDue (hours interval : Nat) : Nat := if interval = 0 then 0 else addHours hours interval

/-- A schedule is due: its interval is above 0 and its next due hour is at or below the running hours (R55). -/
def isDue (hours interval due : Nat) : Bool := 0 < interval && due ≤ hours

/-- The due check (R55). A change of the test latch marks the cabinet page dirty. -/
def dueCheck (s : State) : State :=
  let t := if isDue s.clock.hours s.cfg.equalizeInterval s.cond.equalizeDue
    then setLatch { origin := .schedule, minutes := fullMinutes s.cfg } s else s
  if isDue s.clock.hours s.cfg.testInterval s.cond.testDue && !s.cond.testLatch
  then markDirty .cabinet { t with cond := { t.cond with testLatch := true } } else t

/-- The overdue check (R69). -/
def overdueCheck (s : State) : State :=
  if s.cond.testLatch && !s.cond.overdueRaised && s.cond.testDue + 336 < s.clock.hours then
    raiseItem .testOverdue .nothing 1 { s with cond := { s.cond with overdueRaised := true } }
  else s

/-- The next test due hour is counted from now, as at a replacement (R70). -/
def moveTestDue (s : State) : State :=
  markDirty .cabinet { s with cond := { s.cond with testDue := nextDue s.clock.hours s.cfg.testInterval } }

/-- The completion of an equalize at the controller (R58). -/
def completeEqualize (s : State) : State :=
  let latch := match s.cond.latch with
    | none => none
    | some l => if l.origin = .schedule then none else some l
  markDirty .cabinet
    { s with cond := { s.cond with equalizeDue := nextDue s.clock.hours s.cfg.equalizeInterval, latch := latch } }

/-- An aborted equalize of origin SCHEDULE or DEPTH is latched again for the minutes it had left (R59). -/
def relatch (f : EqualizeFrame) (s : State) : State :=
  if f.origin = .terminal then s else setLatch { origin := f.origin, minutes := f.remaining } s

/-! ## Discharge events (R20 to R25) -/

/-- An account after a sample's current, its event left open (R20, R21); `threshold` is the discharge threshold. -/
def sampledAccount (threshold : Nat) (current : Int) (a : Account) : Account :=
  match a.event with
  | .idle =>
    if current ≤ -(threshold : Int) then { a with event := .inEvent, charge := current.natAbs, tail := 0 } else a
  | .inEvent =>
    { a with
      charge := if current < 0 then satAdd 4294967295 a.charge current.natAbs else a.charge
      tail := if current ≤ -(threshold : Int) then 0 else a.tail + 1 }

/-- An open event whose tail is complete: it ends on the sample that brought it there (R22). -/
def Account.tailComplete (a : Account) : Bool := a.event == .inEvent && 30 ≤ a.tail

/-- An account after its event has ended with charge `q` (R22, R24, R25). -/
def endedAccount (cfg : Settings) (cap q : Nat) (a : Account) : Account :=
  let b := addWear (dischargeWear cfg.cycleCost (depthOf cap q)) a
  { b with event := .idle, charge := 0, tail := 0, events := inc16 b.events }

/-- The event of string `i` ends: wear, count, DEPTH latch, and the immediate write of its page (R22 to R25). -/
def endEvent (i : Nat) (a : Account) (s : State) : State :=
  let cap := capOf (stringSettings s i)
  let b := endedAccount s.cfg cap a.charge a
  let t := markDirty (.string i) (setAccount i b s)
  let t := if b.wear = a.wear then t else recompute i t
  let t := if 500 ≤ depthOf cap a.charge
    then setLatch { origin := .depth, minutes := fullMinutes s.cfg } t else t
  askWrite (.string i) t

/-- A sample's current for string `i` at the accounts (R20 to R22). -/
def sampleString (i : Nat) (current : Int) (s : State) : State :=
  match s.accounts.strings[i]? with
  | none => s
  | some a =>
    let b := sampledAccount s.cfg.dischargeThreshold current a
    if b.tailComplete then endEvent i b s else setAccount i b s

end Sys2Proof.Machine
end

