-- ==== Sys2Proof/Machine/Stack.lean ====
section
/-! DEFINITION. The activity stack: pushes (R40 to R43), and the removal of EQUALIZE, TEST and DISCHARGE frames with their
handoffs (R44, R45, R47, R58, R59, R64 to R66). The removal of a WITHDRAWAL frame, which reaches the visit controller,
stands in Sys2Proof/Machine/Visits.lean. -/

namespace Sys2Proof.Machine

/-- The part with its frames changed. -/
def setFrames (fs : List Frame) (s : State) : State := { s with stack := { s.stack with frames := fs } }

/-- A frame is put on top of the stack. -/
def pushFrame (f : Frame) (s : State) : State := setFrames (f :: s.stack.frames) s

/-- Every frame of a kind is taken off the stack, wherever it stands. -/
def takeOff (kind : Frame → Bool) (s : State) : State := setFrames (s.stack.frames.filter fun f => !kind f) s

/-- The settle flag is set at a removal, except in MUTED (R50): no notice built before it clears it. -/
def setSettle (s : State) : State :=
  if s.line.state = .muted then s
  else
    { s with
      stack := { s.stack with settle := true }
      line := { s.line with tx := outdateNotices s.line.tx } }

/-- The cabinet page's equalize remaining minutes field takes a figure (R47). That this is a change, and marks the page dirty, also
where the field already holds the figure is assumption 35. -/
def setRemaining (m : Nat) (s : State) : State :=
  markDirty .cabinet { s with cond := { s.cond with remainingField := m } }

/-! ## EQUALIZE (R40, R47, R57 to R59) -/

/-- A pending equalize starts: the latch is cleared and its frame pushed (R57, R40, R47). -/
def startEqualize (s : State) : State :=
  match s.cond.latch with
  | none => s
  | some l =>
    setRemaining l.minutes (pushFrame
      (.equalize { pushed := s.now, remaining := l.minutes, minute := 0, origin := l.origin })
      { s with cond := { s.cond with latch := none } })

/-- The EQUALIZE frame is popped, its remaining minutes having reached 0 (R44, R45, R47, R58). -/
def popEqualize (s : State) : State := setSettle (completeEqualize (setRemaining 0 (takeOff Frame.isEqualize s)))

/-- An EQUALIZE frame, running or suspended, is aborted (R44, R47, R59). -/
def abortEqualize (s : State) : State :=
  match s.equalize? with
  | none => s
  | some f =>
    let t := takeOff Frame.isEqualize s
    let t := if f.origin = .terminal then setRemaining 0 t else t
    setSettle (relatch f t)

/-! ## TEST (R62 to R66) -/

/-- A string's reference charge (R62). -/
def referenceCharge (cfg : Settings) (i : Nat) : Nat := capOf (rawString cfg i) * cfg.testReference / 1000

/-- The measured capacity of a string at a test end, none for an aborted test (R64, R66). -/
def measuredOf (cfg : Settings) (i : Nat) (result : TestResult) (qt : Nat) : Option Nat :=
  match result with
  | .passed => some 100
  | .ended => some (min 100 (qt * 100 / referenceCharge cfg i))
  | .aborted => none
  | .untested => none

/-- The strings' test records are handed to the accounts (R65 step 1, R66). -/
def handRecords (result : TestResult) (f : TestFrame) (s : State) : State :=
  (List.range s.accounts.strings.length).foldl
    (fun t i =>
      let qt := (f.strings[i]?.map TestString.qt).getD 0
      takeRecord i result qt (measuredOf s.cfg i result qt) t) s

/-- STRING_REPLACE is raised for each string that measured below the replace capacity (R65 step 2). -/
def raiseWeakTested (result : TestResult) (f : TestFrame) (s : State) : State :=
  (List.range s.accounts.strings.length).foldl
    (fun t i =>
      match measuredOf s.cfg i result ((f.strings[i]?.map TestString.qt).getD 0) with
      | some m => if m < s.cfg.replaceCapacity then raiseItem .stringReplace (.string i) 3 t else t
      | none => t) s

/-- The immediate writes asked at a test end: the cabinet page and every string page (R65 step 5, R66). -/
def askTestWrites (s : State) : State :=
  (List.range s.accounts.strings.length).foldl (fun t i => askWrite (.string i) t) (askWrite .cabinet s)

/-- A test that ended PASSED or ENDED moves the schedule and clears the latch (R65 steps 3 to 5). -/
def settleSchedule (s : State) : State :=
  markDirty .cabinet { s with cond := { s.cond with
    testDue := nextDue s.clock.hours s.cfg.testInterval, testLatch := false, overdueRaised := false } }

/-- The conditioning controller's part of a test end (R65, R66). -/
def concludeTest (result : TestResult) (f : TestFrame) (s : State) : State :=
  let t := handRecords result f s
  match result with
  | .passed => askTestWrites (settleSchedule (raiseWeakTested .passed f t))
  | .ended => askTestWrites (settleSchedule (raiseWeakTested .ended f t))
  | .aborted => askTestWrites t
  | .untested => t

/-- The TEST frame is removed with a result: the handoffs of R45, the release of its claim, the settle flag, and the test
second timer stopped (R44, R62). With no TEST frame nothing changes. -/
def endTest (result : TestResult) (s : State) : State :=
  match s.test? with
  | none => s
  | some f =>
    let t := takeOff Frame.isTest s
    let t := concludeTest result f { t with cond := { t.cond with testSecond := none } }
    setSettle (releaseClaim t)

/-! ## Forced pushes (R41 to R43) and DISCHARGE -/

/-- A DISCHARGE frame is pushed (3.1). -/
def pushDischarge (s : State) : State := pushFrame (.discharge { pushed := s.now }) s

/-- A forced DISCHARGE push (R42, R41). -/
def forceDischarge (s : State) : State :=
  if s.hasWithdrawal then { s with stack := { s.stack with dischargeDeferred := true } }
  else if s.hasDischarge then s
  else pushDischarge (endTest .aborted s)

/-- A WITHDRAWAL frame of origin MANUAL or ADOPTED is pushed in phase WITHDRAWN, without owner (R43, R134, R135). -/
def pushWithdrawn (o : WithdrawalOrigin) (s : State) : State :=
  pushFrame (.withdrawal
    { pushed := s.now, origin := o, phase := .withdrawn, owner := none, returnRequested := false, timer := none }) s

/-- A forced WITHDRAWAL push; under a DISCHARGE it is deferred, and a deferral already set keeps its origin (R43, R41). A
second WITHDRAWAL frame would break the bounds of R38 and is refused. -/
def forceWithdrawal (o : WithdrawalOrigin) (s : State) : State :=
  if s.hasDischarge then
    { s with stack := { s.stack with withdrawalDeferred := some (s.stack.withdrawalDeferred.getD o) } }
  else if s.hasWithdrawal then s
  else pushWithdrawn o (endTest .aborted s)

/-- The DISCHARGE frame is popped. A withdrawal deferral is taken up if the breaker is then confirmed closed (R44). -/
def popDischarge (s : State) : State :=
  let t := takeOff Frame.isDischarge s
  let t := match s.stack.withdrawalDeferred with
    | some o => if s.bypass.position = Position.closed then pushWithdrawn o t else t
    | none => t
  setSettle { t with stack := { t.stack with withdrawalDeferred := none } }

end Sys2Proof.Machine
end

