-- ==== Sys2Proof/Machine/Visits.lean ====
section
/-! DEFINITION. Opening and closing visits (R140 to R143, R153), the removal of a WITHDRAWAL frame and what it hands to the
visit controller (R44, R45, R154), and the ownership of withdrawals (R53, R146). -/

namespace Sys2Proof.Machine

/-! ## Opening (R140 to R142) -/

/-- The part with its open visit changed, if one is open. -/
def changeVisit (f : Visit → Visit) (s : State) : State :=
  { s with visits := { s.visits with current := s.visits.current.map f } }

/-- A CLAIMING claim of a kind yields ABANDONED (R118). -/
def abandonKind (k : ClaimKind) (s : State) : State :=
  match s.claims.own with
  | some c => if c.kind = k then yieldClaim .abandoned s else s
  | none => s

/-- A visit opens (R142): its number and record, its overdue timer, the abort of a test and of a TEST claim, and the end of
a waiting terminal test. -/
def openVisit (origin : VisitOrigin) (technician planned : Nat) (s : State) : State :=
  let number := nextNumber s.visits.counter
  let visit : Visit :=
    { number := number
      technician := technician
      origin := origin
      opened := s.now
      planned := planned
      overdue := false
      done := []
      doneCount := 0
      used := false
      closePending := false
      closing := none }
  let t := markDirty .cabinet { s with visits := { s.visits with
    current := some visit, counter := number, overdueTimer := seconds ((planned + 15) * 60) } }
  let t := endTest .aborted t
  abandonKind .test { t with cond := { t.cond with waiting := false } }

/-- A key visit opens: technician id 0 and the configured key planned minutes (R145). -/
def openKeyVisit (s : State) : State := openVisit .key 0 s.cfg.keyPlanned s

/-! ## The record that a close broadcasts (R153, R169) -/

/-- A kind's number in a record: from 0 in the order of the manual's first table of kinds (R151, R169). -/
def ItemKind.number : ItemKind → Nat
  | .stringReplace => 0
  | .stringReview => 1
  | .staticSwitchService => 2
  | .breakerService => 3
  | .transferCheck => 4
  | .sensorCheck => 5
  | .recordCheck => 6
  | .testOverdue => 7

/-- A target in one byte (R169). -/
def Target.number : Target → Nat
  | .string s => s
  | .staticSwitch => 4
  | .breaker => 5
  | .nothing => 6

/-- A visit's origin in a record: the terminal number, and 31 for KEY (assumption 12). -/
def VisitOrigin.number : VisitOrigin → Nat
  | .terminal t => t
  | .key => 31

/-- A close reason's number in a record. -/
def CloseReason.number : CloseReason → Nat
  | .terminal => 0
  | .key => 1

/-- The one byte of a history entry for origin, state, close reason and withdrawal-used flag (11.2): the origin in bits
4..0, then a bit each (assumption 12). -/
def historyByte (v : Visit) : Nat :=
  let reason := (v.closing.map fun c => c.reason.number).getD 0
  v.origin.number % 32 + 32 * flag v.overdue + 64 * reason + 128 * flag v.used

/-- Part 0 of a history entry (11.2): nine data bytes. -/
def historyPart0 (v : Visit) : List Byte :=
  bytesOf 2 v.number ++ bytesOf 2 v.technician ++ bytesOf 1 (historyByte v)
    ++ bytesOf 4 ((v.closing.map Closing.time).getD 0)

/-- The payload of a RECORD frame: kind, index, part and nine data bytes (5.9.4). -/
def recordPayload (kind index part : Nat) (data : List Byte) : List Byte :=
  bytesOf 1 kind ++ bytesOf 1 index ++ bytesOf 1 part ++ data

/-! ## Closing (R153) -/

/-- An item comes back OPEN. -/
def untake (it : Item) : Item := { it with taken := none }

/-- Every item TAKEN by the visit becomes OPEN, each change asking for its page's write (R153 step 1, R161). -/
def returnItems (number : Nat) (s : State) : State :=
  (List.range s.queue.items.length).foldl
    (fun t i =>
      if (s.queue.items[i]?.bind Item.taken) = some number then changePlace i untake t else t) s

/-- A CLAIMING WITHDRAW claim owned by the closing visit yields ABANDONED (R153 step 6). -/
def abandonOwned (number : Nat) (s : State) : State :=
  match s.claims.own with
  | some c => if c.kind = .withdraw ∧ c.owner = some number then yieldClaim .abandoned s else s
  | none => s

/-- A visit must stand open while the key is out of NORMAL: a key visit opens, and in WITHDRAW the request is held again
(R145, R153 step 8). -/
def reopenForKey (s : State) : State :=
  match s.visits.stable with
  | .normal => s
  | .service => openKeyVisit s
  | .withdraw =>
    let t := openKeyVisit s
    { t with visits := { t.visits with requestHeld := true } }

/-- The open visit ends with a reason, by steps 1 to 6 of R153. -/
def endVisit (reason : CloseReason) (s : State) : State :=
  match s.visits.current with
  | none => s
  | some v =>
    let t := returnItems v.number s
    let closed := { v with closing := some { time := s.now, reason := reason } }
    let t := { t with visits := { t.visits with
      current := none, history := (closed :: t.visits.history).take 8, overdueTimer := none, requestHeld := false } }
    let t := handFrame (newFrame .record 31 (recordPayload 4 0 0 (historyPart0 closed))) t
    abandonOwned v.number t

/-- The open visit closes by the key (R147, R153). What step 7 examines is examined at the end of the event, after the settle flag that a
removal sets (assumption 10). -/
def closeVisit (reason : CloseReason) (s : State) : State :=
  match s.visits.current with
  | none => s
  | some _ => reopenForKey (endVisit reason s)

/-- The removal of an owned WITHDRAWAL frame is handed to the visit controller: a key visit with close-pending set closes
(R154). -/
def ownedRemoved (owner : Nat) (s : State) : State :=
  match s.visits.current with
  | none => s
  | some v => if v.number = owner ∧ v.origin = .key ∧ v.closePending then closeVisit .key s else s

/-! ## The WITHDRAWAL frame (R44, R45, R53) -/

/-- The WITHDRAWAL frame changes. -/
def changeWithdrawal (f : WithdrawalFrame → WithdrawalFrame) (s : State) : State :=
  setFrames (s.stack.frames.map fun
    | .withdrawal w => .withdrawal (f w)
    | other => other) s

/-- The WITHDRAWAL frame is popped, in the order of R44: the release of a CLAIMED frame's claim and the owner's handoff, the
deferred DISCHARGE, the settle flag. With no WITHDRAWAL frame nothing changes. -/
def popWithdrawal (s : State) : State :=
  match s.withdrawal? with
  | none => s
  | some w =>
    let t := takeOff Frame.isWithdrawal s
    let t := if w.origin = .claimed then releaseClaim t else t
    let t := match w.owner with
      | some n => ownedRemoved n t
      | none => t
    let t := if s.stack.dischargeDeferred
      then pushDischarge { t with stack := { t.stack with dischargeDeferred := false } } else t
    setSettle t

/-- The WITHDRAWAL frame gets the open visit as owner, and the visit's withdrawal-used flag is set (R53, R146, R154). -/
def assignWithdrawal (s : State) : State :=
  match s.visits.current with
  | none => s
  | some v =>
    changeVisit (fun u => { u with used := true }) (changeWithdrawal (fun w => { w with owner := some v.number }) s)

/-- A WITHDRAWAL frame without owner stands. -/
def ownerless (s : State) : Bool :=
  match s.withdrawal? with
  | some w => w.owner.isNone
  | none => false

/-- While the withdraw request is held, a WITHDRAWAL frame without owner is given the open visit (R146). -/
def giveOwner (s : State) : State :=
  if s.visits.requestHeld && ownerless s then assignWithdrawal s else s

/-- A WITHDRAWAL frame owned by a visit is on the stack (R147, R152). -/
def ownsWithdrawal (number : Nat) (s : State) : Bool :=
  match s.withdrawal? with
  | some w => w.owner == some number
  | none => false

end Sys2Proof.Machine
end

