-- ==== Sys2Proof/Machine/Bypass.lean ====
section
/-! DEFINITION. The bypass controller: the mains monitor (R124 to R127), the pulse generator (R129), the breaker with its
uncommanded movements (R128, R130 to R135), the return (R132), and the two wear counts (R138). -/

namespace Sys2Proof.Machine

/-! ## Pulses (R129) -/

/-- A pulse is issued: its output is asserted for 500 ms. -/
def issuePulse (k : PulseKind) (s : State) : State :=
  { s with bypass := { s.bypass with pulse := some { kind := k, left := 5 } } }

/-- A pulse is asked for: issued at once, made to wait behind the other kind, or, with the same kind asserted or waiting, not
issued a second time (R129). -/
def askPulse (k : PulseKind) (s : State) : State :=
  match s.bypass.pulse with
  | none => issuePulse k s
  | some p =>
    if p.kind = k ∨ s.bypass.waitingPulse = some k then s
    else { s with bypass := { s.bypass with waitingPulse := some k } }

/-- The asserted pulse ends, and a waiting pulse is issued (R129). -/
def endPulse (s : State) : State :=
  match s.bypass.pulse with
  | none => s
  | some _ =>
    let t := { s with bypass := { s.bypass with pulse := none, waitingPulse := none } }
    match s.bypass.waitingPulse with
    | none => t
    | some k => issuePulse k t

/-! ## Wear counts (R138) -/

/-- The static transfer count rises; as it rises to its interval, its service item is raised. That a transfer at a saturated count marks
the page dirty too is assumption 35. -/
def countTransfer (s : State) : State :=
  let n := inc16 s.bypass.staticCount
  let t := markDirty .cabinet { s with bypass := { s.bypass with staticCount := n } }
  if n = s.cfg.staticInterval ∧ s.bypass.staticCount < n then raiseItem .staticSwitchService .staticSwitch 2 t else t

/-- The breaker operation count rises; as it rises to its interval, its service item is raised. That an operation at a saturated count
marks the page dirty too is assumption 35. -/
def countOperation (s : State) : State :=
  let n := inc16 s.bypass.breakerCount
  let t := markDirty .cabinet { s with bypass := { s.bypass with breakerCount := n } }
  if n = s.cfg.breakerInterval ∧ s.bypass.breakerCount < n then raiseItem .breakerService .breaker 2 t else t

/-- The service items of counts at or above their intervals, at a start (R138). -/
def raiseServiceItems (s : State) : State :=
  let t := if s.cfg.staticInterval ≤ s.bypass.staticCount
    then raiseItem .staticSwitchService .staticSwitch 2 s else s
  if s.cfg.breakerInterval ≤ s.bypass.breakerCount then raiseItem .breakerService .breaker 2 t else t

/-! ## Withdrawal, return and faults (R130 to R134) -/

/-- The transfer timeout as a phase or recovery timer. -/
def transferWait (s : State) : Timer := seconds s.cfg.transferTimeout

/-- TRANSFER_FAULT and its TRANSFER_CHECK item are raised (R131, R133). -/
def transferFault (s : State) : State := raiseItem .transferCheck .breaker 3 (setCondition .transferFault true s)

/-- UNCOMMANDED_BYPASS and its BREAKER_SERVICE item are raised (R134). -/
def uncommanded (s : State) : State := raiseItem .breakerService .breaker 3 (setCondition .uncommandedBypass true s)

/-- A return starts: the MBPO pulse, phase RETURNING and its timer (R130, R132). -/
def startReturn (s : State) : State :=
  askPulse .mbpo (changeWithdrawal
    (fun w => { w with phase := .returning, returnRequested := false, timer := transferWait s }) s)

/-- A return is asked of the WITHDRAWAL frame, as its phase requires (R132, R147). -/
def askReturn (s : State) : State :=
  match s.withdrawal? with
  | none => s
  | some w =>
    match w.phase with
    | .transferring => changeWithdrawal (fun u => { u with returnRequested := true }) s
    | .withdrawn => startReturn s
    | .returning => s
    | .stuck => s

/-- The breaker is confirmed closed in phase TRANSFERRING: the phase becomes WITHDRAWN, or, with a return requested,
RETURNING (R130). The count and the mark of the cabinet page are `confirmClosed`'s (assumption 37). -/
def confirmTransfer (w : WithdrawalFrame) (s : State) : State :=
  if w.returnRequested then startReturn s
  else changeWithdrawal (fun u => { u with phase := .withdrawn, timer := none }) s

/-- An uncommanded closure (R134). -/
def uncommandedClosure (s : State) : State := forceWithdrawal .manual (uncommanded s)

/-- A transfer timeout (R131). -/
def timeOutTransfer (s : State) : State :=
  let t := transferFault (popWithdrawal (askPulse .mbpo s))
  { t with bypass := { t.bypass with recovery := transferWait s } }

/-- A return timeout (R133). -/
def timeOutReturn (s : State) : State :=
  transferFault (changeWithdrawal (fun w => { w with phase := .stuck, timer := none }) s)

/-! ## The breaker's position (R128) -/

/-- The position that a pair of contacts shows: a mixed pair stays TRANSIT or DISAGREE, and is TRANSIT at first. -/
def positionOf (cl op : Bool) (old : Position) : Position :=
  if cl && !op then .closed
  else if op && !cl then .opened
  else if old = .disagree then .disagree
  else .transit

/-- The disagree timer, which is started when the pair becomes mixed and stopped when it stops being mixed. -/
def disagreeAfter (cl op : Bool) (s : State) : Timer :=
  if cl != op then none
  else if s.bypass.position = .transit then s.bypass.disagree
  else if s.bypass.position = .disagree then none
  else seconds 1

/-- The position and the disagree timer after the contacts. -/
def takeContacts (cl op : Bool) (s : State) : State :=
  { s with bypass := { s.bypass with
      position := positionOf cl op s.bypass.position
      disagree := disagreeAfter cl op s } }

/-- What the breaker becoming CLOSED brings about, after a last confirmed position (R130, R131, R134). While the withdrawal deferral is
set, a closure needs an opening before it (R134). -/
def becomeClosed (last : Confirmed) (s : State) : State :=
  match s.withdrawal? with
  | some w =>
    match w.phase with
    | .transferring => confirmTransfer w s
    | .withdrawn => s
    | .returning => s
    | .stuck => s
  | none =>
    if s.stack.withdrawalDeferred.isSome && last == .closed then s
    else if s.bypass.recovery.isNone && s.pastJoining then uncommandedClosure s
    else s

/-- What the breaker becoming OPEN brings about (R131, R133, R134). The recovery wait ends. -/
def becomeOpen (s : State) : State :=
  let t := { s with bypass := { s.bypass with recovery := none } }
  match s.withdrawal? with
  | some w =>
    match w.phase with
    | .transferring => t
    | .withdrawn => if s.pastJoining then popWithdrawal (uncommanded t) else t
    | .returning => popWithdrawal t
    | .stuck => popWithdrawal t
  | none => t

/-- The breaker is confirmed closed: an operation is counted after a last confirmed OPEN (R128), and the cabinet page is marked dirty with the
count. That a transfer confirmed after a last confirmed UNKNOWN or CLOSED, which counts nothing, does not mark the page is the model's choice
(R130, assumption 37). -/
def confirmClosed (s : State) : State :=
  let t := if s.bypass.confirmed = .opened then countOperation s else s
  { t with bypass := { t.bypass with confirmed := .closed } }

/-- The breaker is confirmed open: an operation is counted after a last confirmed CLOSED (R128), and the cabinet page is marked dirty with the
count. That a return confirmed after a last confirmed UNKNOWN or OPEN, which counts nothing, does not mark the page is the model's choice
(R133, assumption 37). -/
def confirmOpen (s : State) : State :=
  let t := if s.bypass.confirmed = .closed then countOperation s else s
  { t with bypass := { t.bypass with confirmed := .opened } }

/-- A change of the contacts is taken: the position, the count, and what the new position brings about. The item that the count raises
comes before the one that the movement raises (R134, R138, assumption 11). -/
def moveBreaker (cl op : Bool) (s : State) : State :=
  let t := takeContacts cl op s
  if t.bypass.position = s.bypass.position then t
  else
    match t.bypass.position with
    | .closed => becomeClosed s.bypass.confirmed (confirmClosed t)
    | .opened => becomeOpen (confirmOpen t)
    | .transit => t
    | .disagree => t
    | .unknown => t

/-- A closed breaker is adopted at the end of JOINING (R135). -/
def adopt (s : State) : State :=
  if s.bypass.position = .closed then forceWithdrawal .adopted s else s

/-! ## Mains (R124 to R126) -/

/-- The monitor takes a level of MAINS_OK (R124). -/
def takeMains (level : Bool) (s : State) : State :=
  match s.bypass.mains, level with
  | .present, false => { s with bypass := { s.bypass with lossTimer := some 1 } }
  | .present, true => { s with bypass := { s.bypass with lossTimer := none } }
  | .lost, true => { s with bypass := { s.bypass with qualTimer := seconds 10 } }
  | .lost, false => { s with bypass := { s.bypass with qualTimer := none } }

/-- The mains is taken as lost (R125). -/
def loseMains (s : State) : State :=
  forceDischarge (handMains .lost { s with bypass := { s.bypass with mains := .lost, lossTimer := none } })

/-- The mains is taken as restored (R126). -/
def restoreMains (s : State) : State :=
  let t := handMains .restored { s with bypass := { s.bypass with mains := .present, qualTimer := none } }
  if t.hasDischarge then popDischarge t
  else { t with stack := { t.stack with dischargeDeferred := false } }

end Sys2Proof.Machine
end

