-- ==== Sys2Proof/Machine/Ops.lean ====
section
/-! DEFINITION. What every event ends with: the status notice and its queueing (R81, R82), the commit (R117), the settle flag
(R50, R61), the starts of pending activities (R57, R60, R146), and `finish`, the end of an event, at which each block looks
anew at what the event has changed (assumptions 10, 30). -/

namespace Sys2Proof.Machine

/-! ## The status notice (R82) -/

/-- The own claim as a notice announces it. -/
def announcedClaim (s : State) : Option AnnouncedClaim :=
  s.claims.own.map fun c => { kind := c.kind, holding := c.holding }

/-- The notice, built from the owning blocks as they stand (R82). -/
def buildNotice (s : State) : Notice :=
  { group := s.id.group
    mode := s.mode
    testing := s.hasTest
    equalizing := s.hasEqualize
    visitOpen := s.visitOpen
    visitRequest := s.queue.mark
    claim := announcedClaim s
    consent := s.claims.consent.getD 0
    minHealth := s.minHealth
    level := s.highestLevel
    load := s.noticeLoad
    rating := s.cfg.rating
    energy := s.accounts.energy }

/-- A STATUS is built and handed over (R81, R82). -/
def queueStatus (s : State) : State := handFrame (newFrame .status 31 (encodeNotice (buildNotice s))) s

/-- A claim ended in the event that began in `before`, though it may have been made in it too: the spacing timer has started (R120). -/
def claimEnded (before s : State) : Bool := before.claims.spacing.isNone && s.claims.spacing.isSome

/-- A change of mode, claim or consent since `before` queues a STATUS (R82). -/
def announceChange (before s : State) : State :=
  if s.mode = before.mode ∧ announcedClaim s = announcedClaim before ∧ s.claims.consent = before.claims.consent
      ∧ claimEnded before s = false then s
  else queueStatus s

/-! ## Commit (R117) -/

/-- The claim becomes HOLDING with its list entry, and a conflict that this brings about is noted (R117, R121). -/
def holdClaim (c : OwnClaim) (s : State) : State :=
  noteConflict s.id.station { s with claims := { s.claims with
    own := some { c with holding := true, owed := false }
    list := s.claims.list.map fun e => if e.station = s.id.station then { e with holding := true } else e
    window := none
    last := .committed
    lastKind := some c.kind } }

/-- The origin of a TEST frame from that of its claim (R117). -/
def testOriginOf : ClaimOrigin → TestOrigin
  | .schedule => .schedule
  | .terminal => .terminal
  | .key => .terminal

/-- The TEST frame of a commit, with its test second timer (R117, R62). -/
def pushTest (o : TestOrigin) (s : State) : State :=
  let t := pushFrame (.test
    { pushed := s.now
      elapsed := 0
      strings := s.accounts.strings.map fun _ => { qt := 0, reached := false }
      origin := o }) s
  { t with cond := { t.cond with testSecond := seconds 1 } }

/-- The WITHDRAWAL frame of a commit, with its close pulse and transfer wait; the owner visit has used a withdrawal (R117,
R130, R146, R154). -/
def pushClaimed (owner : Option Nat) (s : State) : State :=
  let t := askPulse .mbpc (pushFrame (.withdrawal
    { pushed := s.now
      origin := .claimed
      phase := .transferring
      owner := owner
      returnRequested := false
      timer := transferWait s }) s)
  match owner with
  | none => t
  | some n => changeVisit (fun v => if v.number = n then { v with used := true } else v) t

/-- An ordinary push of a claim's frame would be made (R40). -/
def pushAllowed (k : ClaimKind) (frames : List Frame) : Bool :=
  match k with
  | .test => frames.isEmpty
  | .withdraw => topLevel frames < 2 && !(frames.head?.map Frame.isTest).getD false

/-- The commit: the push with what belongs to it, or, refused, the end of the claim (R117). -/
def commit (s : State) : State :=
  match s.claims.own with
  | none => s
  | some c =>
    if !pushAllowed c.kind s.stack.frames then yieldClaim .abandoned s
    else
      match c.kind with
      | .test => holdClaim c (pushTest (testOriginOf c.origin) s)
      | .withdraw => holdClaim c (pushClaimed c.owner s)

/-! ## The settle flag (R50, R61) -/

/-- The number of the first check of TEST_NOW that fails, or 0 (R61). -/
def testNowFailure (s : State) : Nat :=
  if s.line.state = .joining then 1
  else if s.line.state ≠ .active then 2
  else if s.visitOpen then 3
  else if !s.stackEmpty then 4
  else if s.cond.waiting || !claimsIdle s || listForbids s .test then 5
  else if s.monitor.active.inhibitsTest then 6
  else 0

/-- The settle flag is cleared (R50). A waiting terminal test is then taken at the end of the event (`takeWaiting`). -/
def clearSettle (s : State) : State := { s with stack := { s.stack with settle := false } }

/-- The waiting terminal test returns to none (R61). -/
def dropWaiting (s : State) : State := { s with cond := { s.cond with waiting := false } }

/-- A waiting terminal test, the settle flag being clear, is claimed if checks 1 to 6 pass, and dropped otherwise (R61). -/
def takeWaiting (s : State) : State :=
  if s.cond.waiting && !s.stack.settle then
    if testNowFailure (dropWaiting s) = 0 then makeClaim .test .terminal none (dropWaiting s) else dropWaiting s
  else s

/-! ## Pending activities (R57, R60, R146) -/

/-- Every start condition of a pending equalize holds (R57). -/
def equalizeReady (s : State) : Bool :=
  s.cond.latch.isSome && s.joined && s.stackEmpty && !s.visitOpen && s.bypass.mains == .present
    && !s.monitor.active.inhibitsEqualize && !s.claiming && !s.stack.settle

/-- The test latch leads to a claim now (R60, R107). -/
def testClaimReady (s : State) : Bool := s.cond.testLatch && !s.cond.waiting && mayClaim s .test

/-- The waiting terminal test leads to a claim now (R61). -/
def waitingReady (s : State) : Bool :=
  s.cond.waiting && !s.stack.settle && testNowFailure (dropWaiting s) == 0

/-- The held withdraw request of the key leads to a claim now (R146, R107). -/
def keyClaimReady (s : State) : Bool := s.visits.requestHeld && s.visitOpen && mayClaim s .withdraw

/-- A pending equalize starts if it may. -/
def tryEqualize (s : State) : State := if equalizeReady s then startEqualize s else s

/-- A test is claimed if it may be: the waiting one first, since the latch gives way to it (R60, R61). -/
def tryTest (s : State) : State :=
  let t := takeWaiting s
  if testClaimReady t then makeClaim .test .schedule none t else t

/-- The held withdraw request is claimed if it may be, owned by the open visit (R146). -/
def tryKey (s : State) : State :=
  if keyClaimReady s then makeClaim .withdraw .key (s.visits.current.map Visit.number) s else s

/-- Pending activities start. When both an equalize and a test may, which is taken first is a free value (R57, assumption
7). -/
def startActivities (s : State) : State :=
  if equalizeReady s && (testClaimReady s || waitingReady s) then
    let t := { s with free := s.free + 1 }
    if Config.equalizeFirst s.free then tryTest (tryEqualize t) else tryEqualize (tryTest t)
  else tryKey (tryTest (tryEqualize s))

/-! ## The end of an event -/

/-- A condition that aborts a test stands (R67). -/
def testBarred (s : State) : Bool :=
  s.monitor.active.stringHot || s.monitor.active.tempLost || s.monitor.active.sampleGap || s.monitor.active.onBypass

/-- The aborts that conditions ask for: a test on STRING_HOT, TEMP_LOST, SAMPLE_GAP or ON_BYPASS, an equalize on STRING_HOT
(R59, R67). -/
def conditionAborts (s : State) : State :=
  let t := if s.hasTest && testBarred s then endTest .aborted s else s
  if t.hasEqualize && s.monitor.active.stringHot then abortEqualize t else t

/-- The abort of a test whose own support check fails (R102). -/
def supportAbort (s : State) : State :=
  if s.hasTest && !supports .test s s.id.station then endTest .aborted s else s

/-- The commit of a claim whose conditions all hold (R116). -/
def tryCommit (s : State) : State := if commitReady s then commit s else s

/-- What an event ends with at the blocks: conditions, yields, aborts, commit, the owner of a withdrawal, a claim owed, the
starts of pending activities, and the consent (assumption 10). -/
def settle (s : State) : State :=
  let t := yieldIfMust (refresh s)
  let t := supportAbort (refresh (conditionAborts t))
  let t := refresh (tryCommit (refresh t))
  retakeConsent (startActivities (handOwedClaim (giveOwner t)))

/-- The end of an event that began in `before`: the blocks settle, a change is announced, and the memory port orders and
begins its writes (assumption 10). -/
def finish (before s : State) : State := settlePort before.port.list (announceChange before (settle s))

end Sys2Proof.Machine
end

