-- ==== Sys2Proof/Machine/BypassEvents.lean ====
section
/-! DEFINITION. The events of the bypass controller: MAINS_OK_CHANGE, MAINS_LOSS_TIMER_EXPIRY, MAINS_QUALIFICATION_TIMER_EXPIRY,
MAINS_RECEIVED, BREAKER_CONTACT_CHANGE, DISAGREE_TIMER_EXPIRY, PULSE_END, TRANSFER_TIMEOUT, RETURN_TIMEOUT,
RECOVERY_WAIT_EXPIRY, BYP_LOAD_CHANGE (R124 to R138). A change of a pin to the level it has is no change (assumption 1). -/

namespace Sys2Proof.Machine

/-- MAINS_OK_CHANGE (R124). -/
def execMainsOkChange (level : Bool) (s : State) : Host.Outcome State Fault Refusal :=
  .next <|
    if level = s.pins.mainsOk then s
    else
      let t := { s with pins := { s.pins with mainsOk := level } }
      if s.running then takeMains level t else t

/-- MAINS_LOSS_TIMER_EXPIRY (R125). -/
def execMainsLossTimerExpiry (s : State) : Host.Outcome State Fault Refusal :=
  .next <| if s.bypass.lossTimer.isNone then s else finish s (loseMains s)

/-- MAINS_QUALIFICATION_TIMER_EXPIRY (R126). -/
def execMainsQualificationTimerExpiry (s : State) : Host.Outcome State Fault Refusal :=
  .next <| if s.bypass.qualTimer.isNone then s else finish s (restoreMains s)

/-- The group of a MAINS frame's source: that of its peer entry, 255 with an EMPTY entry (R127). -/
def sourceGroup (s : State) (source : Nat) : Nat :=
  if (s.peer source).state = .empty then 255 else (s.peer source).notice.group

/-- The last floor mains report and the floor mains count after a MAINS frame (R127). -/
def recordMains (source : Nat) (kind : MainsKind) (s : State) : State :=
  { s with bypass := { s.bypass with
      report := some { source := source, kind := kind, group := sourceGroup s source, time := s.now }
      reportCount := inc16 s.bypass.reportCount } }

/-- MAINS_RECEIVED (R77, R127). -/
def execMainsReceived (source : Nat) (kind : MainsKind) (s : State) : Host.Outcome State Fault Refusal :=
  .next <|
    if !s.receiving || !isStation source then s
    else if source = s.id.station then countReceived s
    else recordMains source kind (countReceived s)

/-- BREAKER_CONTACT_CHANGE (R128). -/
def execBreakerContactChange (mbpCl mbpOp : Bool) (s : State) : Host.Outcome State Fault Refusal :=
  .next <|
    if mbpCl = s.pins.mbpCl ∧ mbpOp = s.pins.mbpOp then s
    else
      let t := { s with pins := { s.pins with mbpCl := mbpCl, mbpOp := mbpOp } }
      if s.running then finish s (moveBreaker mbpCl mbpOp t) else t

/-- DISAGREE_TIMER_EXPIRY (R128). -/
def execDisagreeTimerExpiry (s : State) : Host.Outcome State Fault Refusal :=
  .next <|
    if s.bypass.disagree.isNone then s
    else { s with bypass := { s.bypass with position := .disagree, disagree := none } }

/-- PULSE_END (R129). -/
def execPulseEnd (s : State) : Host.Outcome State Fault Refusal := .next (endPulse s)

/-- The WITHDRAWAL frame is in a phase, its phase timer running. -/
def phaseRuns (p : Phase) (s : State) : Bool :=
  match s.withdrawal? with
  | none => false
  | some w => w.phase == p && w.timer.isSome

/-- TRANSFER_TIMEOUT (R131). -/
def execTransferTimeout (s : State) : Host.Outcome State Fault Refusal :=
  .next <| if phaseRuns .transferring s then finish s (timeOutTransfer s) else s

/-- RETURN_TIMEOUT (R133). -/
def execReturnTimeout (s : State) : Host.Outcome State Fault Refusal :=
  .next <| if phaseRuns .returning s then finish s (timeOutReturn s) else s

/-- The recovery wait expires: a breaker then CLOSED is taken as an uncommanded closure, whatever stands on the stack (R131); over a
WITHDRAWAL frame its push changes nothing (assumptions 20, 32). -/
def endRecovery (s : State) : State :=
  let t := { s with bypass := { s.bypass with recovery := none } }
  if s.bypass.position = .closed then uncommandedClosure t else t

/-- RECOVERY_WAIT_EXPIRY (R131). -/
def execRecoveryWaitExpiry (s : State) : Host.Outcome State Fault Refusal :=
  .next <| if s.bypass.recovery.isNone then s else finish s (endRecovery s)

/-- BYP_LOAD_CHANGE (R137). -/
def execBypLoadChange (level : Bool) (s : State) : Host.Outcome State Fault Refusal :=
  .next <|
    if level = s.pins.bypLoad then s
    else
      let t := { s with pins := { s.pins with bypLoad := level } }
      if s.running then finish s (if level then countTransfer t else t) else t

end Sys2Proof.Machine
end

