-- ==== Sys2Proof/Machine/ConditioningEvents.lean ====
section
/-! DEFINITION. The timers of the activity frames: EQUALIZE_MINUTE_TIMER_EXPIRY and TEST_SECOND_TIMER_EXPIRY (R47, R62,
R64). -/

namespace Sys2Proof.Machine

/-- The minute of a running EQUALIZE frame (R47): the decrement, or at 0 the pop. -/
def equalizeMinute (f : EqualizeFrame) (rest : List Frame) (s : State) : State :=
  if f.remaining ≤ 1 then popEqualize s
  else
    setRemaining (f.remaining - 1)
      (setFrames (.equalize { f with remaining := f.remaining - 1, minute := 0 } :: rest) s)

/-- EQUALIZE_MINUTE_TIMER_EXPIRY (R47): the timer runs while the EQUALIZE frame is top. -/
def execEqualizeMinuteTimerExpiry (s : State) : Host.Outcome State Fault Refusal :=
  .next <|
    match s.stack.frames with
    | .equalize f :: rest => finish s (equalizeMinute f rest s)
    | _ => s

/-- The TEST frame a second older (R64). -/
def ageTest (s : State) : State :=
  setFrames (s.stack.frames.map fun
    | .test f => .test { f with elapsed := f.elapsed + 1 }
    | other => other) s

/-- The test limit is reached (R64). -/
def limitReached (s : State) : Bool :=
  match s.test? with
  | none => false
  | some f => s.cfg.testLimit * 60 ≤ f.elapsed

/-- A second of the test: the limit ends it (R64). -/
def testSecond (s : State) : State := if limitReached (ageTest s) then endTest .ended (ageTest s) else ageTest s

/-- TEST_SECOND_TIMER_EXPIRY (R62, R64). -/
def execTestSecondTimerExpiry (s : State) : Host.Outcome State Fault Refusal :=
  .next <|
    if s.cond.testSecond.isNone then s
    else finish s (testSecond { s with cond := { s.cond with testSecond := seconds 1 } })

end Sys2Proof.Machine
end

