-- ==== Sys2Proof/Machine/KeyEvents.lean ====
section
/-! DEFINITION. The key switch and the overdue visit: KEY_INPUT_CHANGE, KEY_SETTLE_TIMER_EXPIRY, OVERDUE_TIMER_EXPIRY (R143 to
R147). -/

namespace Sys2Proof.Machine

/-- KEY_INPUT_CHANGE: the settle timer is started at each change (R144). -/
def execKeyInputChange (keyS keyW : Bool) (s : State) : Host.Outcome State Fault Refusal :=
  .next <|
    if keyS = s.pins.keyS ∧ keyW = s.pins.keyW then s
    else
      let t := { s with pins := { s.pins with keyS := keyS, keyW := keyW } }
      if s.running then { t with visits := { t.visits with settleTimer := some 5 } } else t

/-- The position that the inputs show; both asserted is none (R144). -/
def keyPosition (p : Pins) : Option KeyPosition :=
  match p.keyS, p.keyW with
  | false, false => some .normal
  | true, false => some .service
  | false, true => some .withdraw
  | true, true => none

/-! ## The effects of a move (R145 to R147) -/

/-- A key visit opens if none is open; an open key visit is no longer close-pending (R145). -/
def openForKey (s : State) : State :=
  match s.visits.current with
  | none => openKeyVisit s
  | some v => if v.origin = .key then changeVisit (fun u => { u with closePending := false }) s else s

/-- The withdraw request becomes held (R146). -/
def holdRequest (s : State) : State := { s with visits := { s.visits with requestHeld := true } }

/-- A CLAIMING claim of origin KEY yields ABANDONED (R118). -/
def abandonKey (s : State) : State :=
  match s.claims.own with
  | some c => if c.origin = .key then yieldClaim .abandoned s else s
  | none => s

/-- The withdraw request is dropped (R147). -/
def dropRequest (s : State) : State := abandonKey { s with visits := { s.visits with requestHeld := false } }

/-- Close-pending is set for a key visit, which closes at once unless it owns a WITHDRAWAL frame (R147). -/
def pendClose (s : State) : State :=
  match s.visits.current with
  | none => s
  | some v =>
    if v.origin = .key then
      let t := changeVisit (fun u => { u with closePending := true }) s
      if ownsWithdrawal v.number t then t else closeVisit .key t
    else s

/-- The effects of a settled move, in the order listed (R145). -/
def keyEffects (old new : KeyPosition) (s : State) : State :=
  match old, new with
  | .normal, .service => openForKey s
  | .normal, .withdraw => holdRequest (openForKey s)
  | .service, .withdraw => holdRequest s
  | .withdraw, .service => askReturn (dropRequest s)
  | .withdraw, .normal => pendClose (askReturn (dropRequest s))
  | .service, .normal => pendClose (askReturn s)
  | .normal, .normal => s
  | .service, .service => s
  | .withdraw, .withdraw => s

/-- A position is read after the key stood still: one that differs from the stable position is taken as a move (R144). -/
def settleKey (s : State) : State :=
  match keyPosition s.pins with
  | none => s
  | some new =>
    if new = s.visits.stable then s
    else keyEffects s.visits.stable new { s with visits := { s.visits with stable := new } }

/-- KEY_SETTLE_TIMER_EXPIRY (R144). -/
def execKeySettleTimerExpiry (s : State) : Host.Outcome State Fault Refusal :=
  .next <|
    if s.visits.settleTimer.isNone then s
    else finish s (settleKey { s with visits := { s.visits with settleTimer := none } })

/-- OVERDUE_TIMER_EXPIRY (R143). -/
def execOverdueTimerExpiry (s : State) : Host.Outcome State Fault Refusal :=
  .next <|
    if s.visits.overdueTimer.isNone then s
    else finish s (changeVisit (fun v => { v with overdue := true })
      { s with visits := { s.visits with overdueTimer := none } })

end Sys2Proof.Machine
end

