-- ==== Sys2Proof/Machine/LineEvents.lean ====
section
/-! DEFINITION. The events of the line controller: FRAME_START, ARBITRATION_LOSS, FRAME_ABANDONED, FRAME_SENT,
LINE_SYNCHRONISED, FRAME_REJECTED, RESULT_RECORD_RECEIVED, STATUS_TIMER_EXPIRY, JOINING_TIMER_EXPIRY, DUPLICATE_NUMBER_HEARD
(R73 to R84). -/

namespace Sys2Proof.Machine

/-- The part with its transmit queue changed. -/
def setTx (tx : List TxFrame) (s : State) : State := { s with line := { s.line with tx := tx } }

/-! ## Sending (R74, R75) -/

/-- The head of the queue goes in flight at the next idle, at a synchronised station that sends and has no frame in flight
(R73, R74, R79). -/
def startFrame (s : State) : State :=
  if !(s.sending && s.line.synchronised) || (flightPlace s.line.tx).isSome then s
  else
    match headPlace s.line.tx with
    | none => s
    | some place => setTx (s.line.tx.modify place fun f => { f with inFlight := true }) s

/-- FRAME_START (R74). -/
def execFrameStart (s : State) : Host.Outcome State Fault Refusal := .next (startFrame s)

/-- The queue after the frame at a place lost arbitration: it stays, but for a STATUS while a newer one waits (R74, R80). -/
def txAfterLoss (place : Nat) (tx : List TxFrame) : List TxFrame :=
  if (tx[place]?.map TxFrame.cls) = some .status ∧ tx.any TxFrame.isWaitingStatus then tx.eraseIdx place
  else tx.modify place fun f => { f with inFlight := false }

/-- ARBITRATION_LOSS (R74). -/
def execArbitrationLoss (s : State) : Host.Outcome State Fault Refusal :=
  .next <|
    match flightPlace s.line.tx with
    | none => s
    | some place =>
      handOwedClaim { s with line := { s.line with
        tx := txAfterLoss place s.line.tx, losses := inc16 s.line.losses } }

/-- The claim now standing was announced by a frame that is not sent: a CLAIM is owed (R75, R109). -/
def oweClaim (f : TxFrame) (s : State) : State :=
  if f.cls = .claim ∧ f.fresh then
    { s with claims := { s.claims with own := s.claims.own.map fun c => { c with owed := true } } }
  else s

/-- The frame in flight is abandoned (R75): it leaves the queue and is not retried. -/
def abandonFrame (place : Nat) (f : TxFrame) (s : State) : State :=
  handOwedClaim (oweClaim f { s with line := { s.line with
    tx := s.line.tx.eraseIdx place, abandoned := inc16 s.line.abandoned } })

/-- FRAME_ABANDONED (R75). -/
def execFrameAbandoned (s : State) : Host.Outcome State Fault Refusal :=
  .next <|
    match flightPlace s.line.tx with
    | none => s
    | some place =>
      match s.line.tx[place]? with
      | none => s
      | some f => abandonFrame place f s

/-- What a sent frame tells its block (R75): the status timer and the settle flag for a STATUS (R81, R50), the announcement for
a CLAIM of the claim now standing (R109). -/
def reportSent (f : TxFrame) (s : State) : State :=
  match f.cls with
  | .status =>
    let t := { s with line := { s.line with statusTimer := seconds 1 } }
    if f.fresh then clearSettle t else t
  | .claim =>
    if f.fresh then
      { s with claims := { s.claims with own := s.claims.own.map fun c => { c with announced := true } } }
    else s
  | .release => s
  | .mains => s
  | .request => s
  | .result => s
  | .record => s

/-- A frame has been sent to its end: it leaves the queue and is counted and reported (R75). -/
def sendFrame (place : Nat) (f : TxFrame) (s : State) : State :=
  reportSent f { s with line := { s.line with tx := s.line.tx.eraseIdx place, sent := inc16 s.line.sent } }

/-- FRAME_SENT (R75). -/
def execFrameSent (s : State) : Host.Outcome State Fault Refusal :=
  .next <|
    match flightPlace s.line.tx with
    | none => s
    | some place =>
      match s.line.tx[place]? with
      | none => s
      | some f => finish s (sendFrame place f s)

/-! ## Receiving (R73, R76, R77) -/

/-- LINE_SYNCHRONISED: 140 recessive bits have been seen (R73). -/
def execLineSynchronised (s : State) : Host.Outcome State Fault Refusal :=
  .next <| if s.running then { s with line := { s.line with synchronised := true } } else s

/-- FRAME_REJECTED: the first failed check of R76 is counted, and end bits that are not all recessive unsynchronise the line
controller (R73, assumption 18). A frame that passes every check is not this command. -/
def execFrameRejected (frame : RxFrame) (s : State) : Host.Outcome State Fault Refusal :=
  .next <|
    if !s.receiving || !frame.wellFormed then s
    else
      match checkFrame s.id.station frame with
      | none => s
      | some failure =>
        let t := countFailure failure s
        if frame.ends = 7#3 then t else { t with line := { t.line with synchronised := false } }

/-- RESULT_RECORD_RECEIVED: the frame is counted, and no block acts on it (R77). -/
def execResultRecordReceived (s : State) : Host.Outcome State Fault Refusal :=
  .next <| if s.receiving then countReceived s else s

/-! ## Timers of the line controller (R81, R83) -/

/-- STATUS_TIMER_EXPIRY (R81). -/
def execStatusTimerExpiry (s : State) : Host.Outcome State Fault Refusal :=
  .next <|
    if s.line.statusTimer.isNone then s
    else queueStatus { s with line := { s.line with statusTimer := seconds 1 } }

/-- The line state after JOINING: ACTIVE, unless the station has become MUTED (R83). -/
def LineState.joinedState : LineState → LineState
  | .joining => .active
  | .active => .active
  | .muted => .muted
  | .starting => .starting
  | .configFault => .configFault

/-- JOINING_TIMER_EXPIRY: the end of JOINING, with the adoption check (R83, R135). -/
def execJoiningTimerExpiry (s : State) : Host.Outcome State Fault Refusal :=
  .next <|
    if s.line.joiningTimer.isNone then s
    else finish s (adopt { s with line := { s.line with joiningTimer := none, state := s.line.state.joinedState } })

/-! ## A second station with this number (R84, R122) -/

/-- The station becomes MUTED: DUPLICATE_ID, an empty queue, no status timer, no settle flag, and the end of a CLAIMING claim
without RELEASE (R84, R122). -/
def mute (s : State) : State :=
  clearSettle (yieldClaim .abandoned (setCondition .duplicateId true
    { s with line := { s.line with state := .muted, tx := [], statusTimer := none } }))

/-- DUPLICATE_NUMBER_HEARD (R84). -/
def execDuplicateNumberHeard (s : State) : Host.Outcome State Fault Refusal :=
  .next <|
    if !s.receiving then s
    else if s.sending then finish s (mute (countReceived s))
    else countReceived s

end Sys2Proof.Machine
end

