-- ==== Sys2Proof/Machine/Measurement.lean ====
section
/-! DEFINITION. The measurement burst and the seconds of the intake and of the accounts: MEASUREMENT_BURST,
INTAKE_SECOND_TIMER_EXPIRY, WEAR_SECOND_TIMER_EXPIRY (R1 to R9, R14, R63, R164). -/

namespace Sys2Proof.Machine

/-! ## An accepted burst (R3, R9) -/

/-- A string's held values after a burst (R3, R6). -/
def takeReading (b : BurstString) (r : Reading) : Reading :=
  let valid := b.temp != -32768
  { voltage := b.voltage
    current := b.current
    present := true
    temp := if valid then b.temp else r.temp
    tempAge := if valid then 0 else r.tempAge
    tempState := if valid then .usable else r.tempState }

/-- The intake after an accepted burst (R2, R3, R5, R8). -/
def takeBurst (load : Nat) (bs : List BurstString) (k : Intake) : Intake :=
  let valid := load != 65535
  { k with
    burstAge := 0
    gap := false
    load := if valid then load else k.load
    loadAge := if valid then 0 else k.loadAge
    loadState := if valid then .valid else k.loadState
    readings := List.zipWith takeReading bs k.readings
    accepted := inc16 k.accepted }

/-- The sample at the string accounts (R9, R20 to R22). -/
def sampleAccounts (bs : List BurstString) (s : State) : State :=
  bs.zipIdx.foldl (fun t b => sampleString b.2 b.1.current t) s

/-- A string's hot flag after a burst: only a valid temperature is delivered (R9, R164). -/
def hotFlag (limit : Nat) (b : BurstString) (old : Bool) : Bool :=
  if b.temp = -32768 then old else hotAfter limit b.temp old

/-- The sample at the condition monitor (R9, R164). -/
def sampleHot (bs : List BurstString) (s : State) : State :=
  { s with monitor := { s.monitor with hot := List.zipWith (hotFlag s.cfg.hotLimit) bs s.monitor.hot } }

/-- What a TEST frame counts of a string in one sample (R63 steps 1 and 2). -/
def countTest (qref : Nat) (b : BurstString) (q : TestString) : TestString :=
  let qt := if b.current < 0 then satAdd 4294967295 q.qt b.current.natAbs else q.qt
  { qt := qt, reached := q.reached || qref ≤ qt }

/-- The strings of a TEST frame after a sample. -/
def countedStrings (cfg : Settings) (bs : List BurstString) (qs : List TestString) : List TestString :=
  (List.zip bs qs).zipIdx.map fun e => countTest (referenceCharge cfg e.2) e.1.1 e.1.2

/-- A string's voltage in the sample is at or below its test end voltage (R63 step 4). -/
def endVoltageMet (cfg : Settings) (bs : List BurstString) : Bool :=
  bs.zipIdx.any fun b => b.1.voltage ≤ (rawString cfg b.2).endVoltage

/-- The TEST frame's strings change. -/
def changeTest (qs : List TestString) (s : State) : State :=
  setFrames (s.stack.frames.map fun
    | .test f => .test { f with strings := qs }
    | other => other) s

/-- The sample at a TEST frame (R63). -/
def sampleTest (bs : List BurstString) (s : State) : State :=
  match s.test? with
  | none => s
  | some f =>
    let qs := countedStrings s.cfg bs f.strings
    let t := changeTest qs s
    if qs.all TestString.reached then endTest .passed t
    else if endVoltageMet s.cfg bs then endTest .ended t
    else t

/-- The sample makes STRING_HOT active. -/
def becomesHot (bs : List BurstString) (s : State) : Bool :=
  !s.monitor.hot.any id && (sampleHot bs s).monitor.hot.any id

/-- A sample that makes STRING_HOT active over an EQUALIZE frame aborts it before the accounts take the sample, or after, at the end of the
event: a free value (R9, R59, assumption 8). -/
def abortBeforeSample (bs : List BurstString) (s : State) : State :=
  if s.hasEqualize && becomesHot bs s then
    let t := { s with free := s.free + 1 }
    if Config.accountsTakeFirst s.free then t else abortEqualize t
  else s

/-- The sample bars the test, which stands: it makes STRING_HOT active, or its load makes the own test check fail (R67, R102). -/
def barsTest (bs : List BurstString) (s : State) : Bool := becomesHot bs s || !supports .test s s.id.station

/-- The sample at the TEST frame and the condition monitor. When it also aborts the test, the test may take it before the abort, which then
finds no frame if the sample has ended the test, or not at all: a free value (R9, R67, R102, assumption 8). -/
def sampleTestAndHot (bs : List BurstString) (s : State) : State :=
  if s.hasTest && barsTest bs s then
    let t := { s with free := s.free + 1 }
    sampleHot bs (endTest .aborted (if Config.testTakesFirst s.free then sampleTest bs t else t))
  else sampleHot bs (sampleTest bs s)

/-- The sample ends a discharge event on some string (R22). -/
def endsEvent (bs : List BurstString) (s : State) : Bool :=
  (List.zip bs s.accounts.strings).any fun e => (sampledAccount s.cfg.dischargeThreshold e.1.current e.2).tailComplete

/-- The sample lifts what held back the start of a pending equalize, and ends a discharge event: the start comes before the accounts take
the sample, or after, at the end of the event, where a latch of origin DEPTH that the accounts have set has merged into the pending one. A
free value (R9, R25, R56, R57, assumption 8). -/
def startBeforeAccounts (bs : List BurstString) (s : State) : State :=
  if equalizeReady (refresh (sampleHot bs s)) && endsEvent bs s then
    let t := { s with free := s.free + 1 }
    if Config.accountsBeforeStart s.free then t else startEqualize t
  else s

/-- The sample at its receivers (R9). When it ends a discharge event while a TEST frame stands, the accounts or the test may take it first:
a free value, since the crossings and items of the two show the order (R25, R32, R65, assumption 8). The test that ends first on a MUTED
station leaves the stack to a pending equalize at once (R50, R57). -/
def sampleReceivers (bs : List BurstString) (s : State) : State :=
  if s.hasTest && endsEvent bs s then
    let t := { s with free := s.free + 1 }
    if Config.testBeforeAccounts s.free then sampleAccounts bs (startBeforeAccounts bs (sampleTestAndHot bs t))
    else sampleTestAndHot bs (sampleAccounts bs t)
  else sampleTestAndHot bs (sampleAccounts bs (startBeforeAccounts bs s))

/-- A TEST claim commits over an empty stack in this event, its yields taken first (R116, R118, assumption 10). -/
def commitsTest (s : State) : Bool :=
  commitReady (yieldIfMust s) && s.stackEmpty && s.claims.own.any fun c => c.kind == .test

/-- The load of the sample brings about the commit of a TEST claim: the commit comes before the sample, which the new TEST frame then
counts, or after it, at the end of the event. A free value (R9, R63, R116, assumption 8). -/
def commitBeforeSample (bs : List BurstString) (s : State) : State :=
  if commitsTest (refresh (sampleHot bs s)) then
    let t := { s with free := s.free + 1 }
    if Config.sampleBeforeCommit s.free then t else commit t
  else s

/-- An accepted burst: the held values first, then the sample to its receivers (R3, R9). Where the order of the receivers shows, among
themselves or beside an abort, a start or a commit that the sample brings about, it is a free value (assumption 8). -/
def acceptBurst (load : Nat) (bs : List BurstString) (s : State) : State :=
  let t : State := { s with intake := takeBurst load bs s.intake }
  finish s (sampleReceivers bs (commitBeforeSample bs (abortBeforeSample bs t)))

/-- MEASUREMENT_BURST (R1, R2). `early` says that its MFS assertion began before the line state became JOINING. -/
def execMeasurementBurst (bytes : List Byte) (extraBits : Nat) (early : Bool) (s : State) :
    Host.Outcome State Fault Refusal :=
  .next <|
    if !s.running || early || 8 ≤ extraBits then s
    else
      match checkBurst s.cfg.stringCount bytes extraBits with
      | .shape => { s with intake := { s.intake with shapeDiscards := inc16 s.intake.shapeDiscards } }
      | .crc => { s with intake := { s.intake with crcDiscards := inc16 s.intake.crcDiscards } }
      | .accepted load bs => acceptBurst load bs s

/-! ## The intake second (R4 to R8) -/

/-- An age after a second (R4). -/
def ageAfter (n : Nat) : Nat := satAdd 255 n 1

/-- A string's held values after a second (R4, R6). -/
def ageReading (r : Reading) : Reading :=
  let age := ageAfter r.tempAge
  { r with tempAge := age, tempState := if 60 < age then .lost else r.tempState }

/-- The intake after a second (R4, R5, R6, R8). -/
def ageIntake (k : Intake) : Intake :=
  let loadAge := ageAfter k.loadAge
  let burstAge := ageAfter k.burstAge
  { k with
    burstAge := burstAge
    gap := k.gap || 5 < burstAge
    loadAge := loadAge
    loadState := if 5 < loadAge then .degraded else k.loadState
    readings := k.readings.map ageReading
    second := seconds 1 }

/-- The strings that enter LOST in a second, in ascending order (assumption 11). -/
def enteringLost (readings : List Reading) : List Nat :=
  (readings.zipIdx.filter fun r => r.1.tempState != .lost && (ageReading r.1).tempState == .lost).map Prod.snd

/-- The SENSOR_CHECK items of strings that entered LOST and of a gap that began (R6, R8, R165). -/
def raiseSensorChecks (k : Intake) (s : State) : State :=
  let t := (enteringLost k.readings).foldl (fun t i => raiseItem .sensorCheck (.string i) 2 t) s
  if !k.gap && (ageIntake k).gap then raiseItem .sensorCheck .nothing 2 t else t

/-- INTAKE_SECOND_TIMER_EXPIRY (R4). -/
def execIntakeSecondTimerExpiry (s : State) : Host.Outcome State Fault Refusal :=
  .next <|
    if s.intake.second.isNone then s
    else finish s (raiseSensorChecks s.intake { s with intake := ageIntake s.intake })

/-! ## The wear second (R14) -/

/-- The wear second of every configured string (R14). -/
def wearAll (s : State) : State :=
  (List.range s.accounts.strings.length).foldl (fun t i => wearString i t) s

/-- WEAR_SECOND_TIMER_EXPIRY (R14). -/
def execWearSecondTimerExpiry (s : State) : Host.Outcome State Fault Refusal :=
  .next <|
    if s.accounts.second.isNone then s
    else finish s (wearAll { s with accounts := { s.accounts with second := seconds 1 } })

end Sys2Proof.Machine
end

