-- ==== Sys2Proof/Machine/MemoryEvents.lean ====
section
/-! DEFINITION. The running-hour boundary and the ends of page writes: HOUR_TIMER_EXPIRY, MEMORY_WRITE_DONE, MEMORY_WRITE_FAIL
(R55, R69, R172 to R174). -/

namespace Sys2Proof.Machine

/-- The running hours rise, and the cabinet page is marked dirty (R173). -/
def countHour (s : State) : State :=
  markDirty .cabinet { s with clock := { s.clock with hours := addHours s.clock.hours 1, hourTimer := seconds 3600 } }

/-- A running-hour boundary, in the order of R173. -/
def hourBoundary (s : State) : State := overdueCheck (dueCheck (listDirty (countHour s)))

/-- HOUR_TIMER_EXPIRY (R173). -/
def execHourTimerExpiry (s : State) : Host.Outcome State Fault Refusal :=
  .next <| if s.clock.hourTimer.isNone then s else finish s (hourBoundary s)

/-- MEMORY_WRITE_DONE (R172, R173). -/
def execMemoryWriteDone (s : State) : Host.Outcome State Fault Refusal :=
  .next <| if s.port.writing.isNone then s else settlePort s.port.list (finishWrite s)

/-- A failed write is reported: RECORD_LOST and its RECORD_CHECK item (R174). -/
def reportFailure (s : State) : State := raiseItem .recordCheck .nothing 3 (setCondition .recordLost true s)

/-- MEMORY_WRITE_FAIL (R172, R174). -/
def execMemoryWriteFail (s : State) : Host.Outcome State Fault Refusal :=
  .next <| if s.port.writing.isNone then s else finish s (reportFailure (failWrite s))

end Sys2Proof.Machine
end

