-- ==== Sys2Proof/Machine/PeerEvents.lean ====
section
/-! DEFINITION. The events of the peer table and the claim controller: STATUS_RECEIVED, STALE_TIMER_EXPIRY, CLAIM_RECEIVED,
RELEASE_RECEIVED, CONFIRMATION_TIMER_EXPIRY, CLAIM_WINDOW_TIMER_EXPIRY, SPACING_TIMER_EXPIRY (R89 to R91, R109 to R121). -/

namespace Sys2Proof.Machine

/-- The peer entry after a notice (R89). -/
def refreshedPeer (n : Notice) : Peer := { state := .live, notice := n, since := 0, staleTimer := seconds 4 }

/-- A member heard since the claim was announced enters the heard set (R109). -/
def hear (station : Nat) (s : State) : State :=
  match s.claims.own with
  | none => s
  | some c =>
    if c.announced && !c.heard.contains station
    then { s with claims := { s.claims with own := some { c with heard := station :: c.heard } } } else s

/-- A notice at the claim controller: one of the own group is heard, listed and looked at for conflict; a station of another
group leaves the list (R90, R109, R111, R121). -/
def claimsTakeNotice (station : Nat) (n : Notice) (s : State) : State :=
  if n.group = s.id.group then noteConflict station (listNotice station n.claim (hear station s))
  else dropEntry station s

/-- A valid STATUS from a peer (R76, R89). -/
def takeNotice (station : Nat) (n : Notice) (s : State) : State :=
  claimsTakeNotice station n (setPeer station (refreshedPeer n) (countReceived s))

/-- STATUS_RECEIVED (R89). A payload whose coded fields have no meaning, or the own number, is not this command. -/
def execStatusReceived (source : Nat) (payload : List Byte) (s : State) : Host.Outcome State Fault Refusal :=
  .next <|
    if !s.receiving || !isStation source || source = s.id.station then s
    else
      match decodeNotice payload with
      | none => s
      | some n => finish s (takeNotice source n s)

/-- A LIVE entry becomes STALE; a member of the own group is reported lost and leaves the claim list (R91). -/
def goStale (station : Nat) (s : State) : State :=
  let p := s.peer station
  let t := setPeer station { p with state := .stale, staleTimer := none } s
  if p.notice.group = s.id.group then dropEntry station (setCondition .peerLost true t) else t

/-- STALE_TIMER_EXPIRY (R91). -/
def execStaleTimerExpiry (station : Nat) (s : State) : Host.Outcome State Fault Refusal :=
  .next <|
    if (s.peer station).state = .live ∧ (s.peer station).staleTimer.isSome then finish s (goStale station s) else s

/-- The claimant of a CLAIM frame is a LIVE peer of the own group (R110). -/
def knownClaimant (s : State) (station : Nat) : Bool :=
  (s.peer station).state == .live && (s.peer station).notice.group == s.id.group

/-- CLAIM_RECEIVED (R77, R110). -/
def execClaimReceived (source : Nat) (kind : ClaimKind) (s : State) : Host.Outcome State Fault Refusal :=
  .next <|
    if !s.receiving || !isStation source then s
    else if source = s.id.station || !knownClaimant s source then countReceived s
    else finish s (listClaimFrame source kind (countReceived s))

/-- RELEASE_RECEIVED, of either kind (R77, R113). -/
def execReleaseReceived (source : Nat) (_kind : ClaimKind) (s : State) : Host.Outcome State Fault Refusal :=
  .next <|
    if !s.receiving || !isStation source then s
    else if source = s.id.station then countReceived s
    else finish s (dropEntry source (countReceived s))

/-- CONFIRMATION_TIMER_EXPIRY (R113). -/
def execConfirmationTimerExpiry (station : Nat) (s : State) : Host.Outcome State Fault Refusal :=
  .next <|
    if ((findEntry station s.claims.list).bind ClaimEntry.timer).isSome then finish s (dropEntry station s) else s

/-- CLAIM_WINDOW_TIMER_EXPIRY (R118). -/
def execClaimWindowTimerExpiry (s : State) : Host.Outcome State Fault Refusal :=
  .next <| if s.claims.window.isNone then s else finish s (yieldClaim .noConsent s)

/-- SPACING_TIMER_EXPIRY (R120). -/
def execSpacingTimerExpiry (s : State) : Host.Outcome State Fault Refusal :=
  .next <|
    if s.claims.spacing.isNone then s
    else finish s { s with claims := { s.claims with spacing := none } }

end Sys2Proof.Machine
end

