-- ==== Sys2Proof/Machine/StartUp.lean ====
section
/-! DEFINITION. Holding and starting the part: RESET_N_ASSERTED, POWER_LOSS, START, RESTART_START (R170 to R177, and the start
rules R10, R12, R39, R54, R88, R105, R140, R156, R163). -/

namespace Sys2Proof.Machine

/-! ## Held (R174, R175) -/

/-- The part is held: every block at its start value, and a write in progress cut short (assumption 3). -/
def hold (s : State) : State := State.blocksAtStart true s.pins (areasAfterCut s) s.free s.pending

/-- RESET_N_ASSERTED (R175). -/
def execResetNAsserted (s : State) : Host.Outcome State Fault Refusal := .next (hold s)

/-- POWER_LOSS (R174, R175). -/
def execPowerLoss (s : State) : Host.Outcome State Fault Refusal := .next (hold s)

/-! ## Steps 1 to 3: start values, straps, image (R170, R171, R175) -/

/-- Step 1: every block takes its start values. -/
def clearBlocks (s : State) : State := State.blocksAtStart false s.pins (areasAfterCut s) s.free s.pending

/-- Step 2: what the straps give. -/
def readStraps (st : Straps) (s : State) : State :=
  { s with id := { station := st.id.toNat, group := st.grp.toNat, fast := st.rate } }

/-- The part goes to CONFIG_FAULT until the next start (R170). -/
def configFault (s : State) : State := { s with line := { s.line with state := .configFault } }

/-- Step 3: the fields of a good image, clamped, and the blocks sized for its strings (R171). -/
def readImage (im : Image) (s : State) : State :=
  let cfg := clampSettings im.fields
  { s with
    cfg := cfg
    clampCount := clampCount im.fields
    intake := Intake.start cfg.stringCount
    monitor := Monitor.start cfg.stringCount }

/-! ## Step 4: the retained pages (R175) -/

/-- What the memory answers for a page: its content, or none for a bad CRC or no answer. -/
def pageRead (unanswered : List PageId) (areas : List (Option PageContent)) (p : PageId) : Option PageContent :=
  if unanswered.contains p then none else areas.getD (pageIndex p) none

/-- The zero values of a lost cabinet page. -/
def lostCabinetPage : CabinetPage where
  hours := 0
  staticCount := 0
  breakerCount := 0
  testDue := 0
  equalizeDue := 0
  remaining := 0
  testLatch := false
  visitCounter := 0
  itemCounter := 0

/-- A cabinet page's content. -/
def PageContent.cabinet? : PageContent → Option CabinetPage
  | .cabinet p => some p
  | .string _ => none
  | .queue _ => none

/-- A string page's content. -/
def PageContent.string? : PageContent → Option StringPage
  | .cabinet _ => none
  | .string p => some p
  | .queue _ => none

/-- A queue page's content. -/
def PageContent.queue? : PageContent → Option (List PageItem)
  | .cabinet _ => none
  | .string _ => none
  | .queue l => some l

/-- A good page of its own kind has been read. -/
def pageGood (unanswered : List PageId) (areas : List (Option PageContent)) (p : PageId) : Bool :=
  match p, pageRead unanswered areas p with
  | .cabinet, some (.cabinet _) => true
  | .string _, some (.string _) => true
  | .queue _, some (.queue _) => true
  | _, _ => false

/-- The owners of the cabinet page take its values (R175). -/
def restoreCabinet (p : CabinetPage) (s : State) : State :=
  { s with
    clock := { s.clock with hours := p.hours, hoursAtStart := p.hours }
    cond := { s.cond with
      equalizeDue := p.equalizeDue, testLatch := p.testLatch, testDue := p.testDue, remainingField := p.remaining }
    bypass := { s.bypass with staticCount := p.staticCount, breakerCount := p.breakerCount }
    visits := { s.visits with counter := p.visitCounter }
    queue := { s.queue with counter := p.itemCounter } }

/-- An account from its page, its volatile fields at their start values and its figures not yet computed (R12). -/
def restoredAccount (p : StringPage) : Account :=
  { wear := p.wear
    residue := p.residue
    event := .idle
    charge := 0
    tail := 0
    events := p.events
    measured := p.measured
    lastTest := p.lastTest
    testCharge := p.testCharge
    testEndHour := p.testEndHour
    installHour := p.installHour
    reviewCrossed := p.reviewCrossed
    replaceCrossed := p.replaceCrossed
    health := 0
    available := 0 }

/-- The accounts of the configured strings are filled (R12). -/
def restoreStrings (unanswered : List PageId) (s : State) : State :=
  { s with accounts := { s.accounts with
      strings := (List.range s.cfg.stringCount).map fun i =>
        restoredAccount (((pageRead unanswered s.port.areas (.string i)).bind PageContent.string?).getD lostStringPage) } }

/-- The pages that are lost at this start, in page order (R175). -/
def lostPages (unanswered : List PageId) (s : State) : List PageId :=
  (configuredPages s.cfg.stringCount).filter fun p => !pageGood unanswered s.port.areas p

/-- A lost page is marked DIRTY, and RECORD_LOST is raised once (R175). -/
def markLost (lost : List PageId) (s : State) : State :=
  let t := lost.foldl (fun t p => markDirty p t) s
  if lost.isEmpty then t else setCondition .recordLost true t

/-! ## Step 5: the queue (R176) -/

/-- The target exists at a part with `n` strings. -/
def Target.exists (n : Nat) : Target → Bool
  | .string i => i < n
  | .staticSwitch => true
  | .breaker => true
  | .nothing => true

/-- An item as it is restored: OPEN (R176). -/
def restoredItem (p : PageItem) : Item :=
  { number := p.number, kind := p.kind, target := p.target, severity := p.severity, raised := p.raised, taken := none,
    repeats := p.repeats }

/-- A stored item is appended, unless its kind and target or its number are held already, or its string does not exist (R176). -/
def restoreItem (n : Nat) (items : List Item) (p : PageItem) : List Item :=
  if items.any (fun it => it.kind == p.kind && it.target == p.target) || items.any (fun it => it.number == p.number)
    || !p.target.exists n
  then items else items ++ [restoredItem p]

/-- The items that a queue page gives: at most the eight it has places for (assumption 28). -/
def pageItems (unanswered : List PageId) (areas : List (Option PageContent)) (q : Nat) : List PageItem :=
  (((pageRead unanswered areas (.queue q)).bind PageContent.queue?).getD []).take 8

/-- The queue is restored from its pages, a page whose places the restore has changed is marked DIRTY, and the mark is taken anew
(R162, R176). -/
def restoreQueue (unanswered : List PageId) (s : State) : State :=
  let areas := s.port.areas
  let items := ([0, 1, 2].flatMap (pageItems unanswered areas)).foldl (restoreItem s.cfg.stringCount) []
  let t := { s with queue := { s.queue with items := items } }
  let changed := [0, 1, 2].filter fun q => queuePage q items != pageItems unanswered areas q
  takeMark (changed.foldl (fun t q => markDirty (.queue q) t) t)

/-! ## Step 6: the start-time reckonings (R12, R54, R138, R175) -/

/-- The next due hours of R54: a schedule that is on and has none counts from now, and one that is off has none. -/
def restoreDueHours (s : State) : State :=
  let fresh (interval due : Nat) : Bool := 0 < interval && due == 0
  let due (interval due : Nat) : Nat := if interval = 0 then 0 else if due = 0 then addHours s.clock.hours interval else due
  let t := { s with cond := { s.cond with
    equalizeDue := due s.cfg.equalizeInterval s.cond.equalizeDue
    testDue := due s.cfg.testInterval s.cond.testDue } }
  if fresh s.cfg.equalizeInterval s.cond.equalizeDue || fresh s.cfg.testInterval s.cond.testDue
  then markDirty .cabinet t else t

/-- The equalize latch that the remaining minutes field restores (R54). -/
def restoreLatch (s : State) : State :=
  if 0 < s.cond.remainingField
  then setLatch { origin := .schedule, minutes := s.cond.remainingField } s else s

/-- Health, available charge, energy and crossings of every string (R12). -/
def recomputeAll (s : State) : State := (List.range s.accounts.strings.length).foldl (fun t i => recompute i t) s

/-- RECORD_CHECK is raised if a page was lost (R175). -/
def raiseRecordCheck (lost : List PageId) (s : State) : State :=
  if lost.isEmpty then s else raiseItem .recordCheck .nothing 3 s

/-- Step 6, in the order of R175 (assumption 11). -/
def reckon (lost : List PageId) (s : State) : State :=
  raiseRecordCheck lost (raiseServiceItems (overdueCheck (dueCheck (restoreLatch (restoreDueHours (recomputeAll s))))))

/-! ## Step 7: JOINING (R175) -/

/-- The timers that run from JOINING, with the line state (R4, R14, R81, R83, R144, R173). -/
def startTimers (s : State) : State :=
  { s with
    line := { s.line with state := .joining, statusTimer := seconds 1, joiningTimer := seconds 4 }
    intake := { s.intake with second := seconds 1 }
    accounts := { s.accounts with second := seconds 1 }
    clock := { s.clock with hourTimer := seconds 3600 }
    visits := { s.visits with settleTimer := some 5 } }

/-- The breaker contacts as they stand: a position, and no operation (R128). -/
def readContacts (s : State) : State :=
  let t := takeContacts s.pins.mbpCl s.pins.mbpOp s
  match t.bypass.position with
  | .closed => confirmClosed t
  | .opened => confirmOpen t
  | .transit => t
  | .disagree => t
  | .unknown => t

/-- JOINING is entered: the timers start, the inputs are taken as they stand, and the conditions follow (R124, R128, R137,
R175). -/
def enterJoining (s : State) : State := refresh (readContacts (takeMains s.pins.mainsOk (startTimers s)))

/-- Steps 4 to 7 with a good image (R175). -/
def bringUp (unanswered : List PageId) (s : State) : State :=
  let lost := lostPages unanswered s
  let page := ((pageRead unanswered s.port.areas .cabinet).bind PageContent.cabinet?).getD lostCabinetPage
  let t := restoreQueue unanswered (markLost lost (restoreStrings unanswered (restoreCabinet page s)))
  settlePort [] (enterJoining (reckon lost t))

/-- A start, in the order of R175: straps, image, pages, queue, reckonings, JOINING; or CONFIG_FAULT. -/
def startPart (st : Straps) (image : Option Image) (unanswered : List PageId) (s : State) : State :=
  let t := readStraps st (clearBlocks s)
  if !isStation st.id.toNat then configFault t
  else
    match image with
    | none => configFault t
    | some im => if imageGood im then bringUp unanswered (readImage im t) else configFault t

/-! ## The commands -/

/-- START: power-on, or release of RESET_N (R175). `image` is none where the memory failed to answer a byte of it. -/
def execStart (straps : Straps) (image : Option Image) (unanswered : List PageId) (s : State) :
    Host.Outcome State Fault Refusal :=
  .next (startPart straps image unanswered s)

/-- A restart's start is taken: the wait is on, the write list is empty with no write in progress, and the RESULT awaited has
left the queue (R177). -/
def restartReady (s : State) : Bool :=
  s.port.restartWait && s.port.list.isEmpty && s.port.writing.isNone && !s.line.tx.any TxFrame.awaited

/-- RESTART_START (R177). -/
def execRestartStart (straps : Straps) (image : Option Image) (unanswered : List PageId) (s : State) :
    Host.Outcome State Fault Refusal :=
  .next (if restartReady s then startPart straps image unanswered s else s)

end Sys2Proof.Machine
end

