-- ==== Sys2Proof/Machine/Records.lean ====
section
/-! DEFINITION. The records that READ gives (R169), laid out from the rules that list their figures: R11, R13, R31, R51, R71,
R87, R93, R103, R123, R139, R155, R168. Where those rules leave the packing open, assumptions 12 and 13 say what is done: a
set of flags in one byte from bit 0, a time left in whole seconds rounded up, an absent figure 0, states numbered from 0 in the
order in which the manual lists them. -/

namespace Sys2Proof.Machine

/-! ## Small figures -/

/-- One byte. -/
def byte (n : Nat) : List Byte := bytesOf 1 n

/-- A byte of flags, the first in bit 0. -/
def flagByte (bs : List Bool) : List Byte := byte (flags bs)

/-- A timer's time left in seconds, rounded up; 0 when it is stopped. -/
def secondsLeft (t : Timer) : Nat := ((t.getD 0) + 9) / 10

/-- A run of bytes brought to a length with zero bytes. -/
def padTo (n : Nat) (bs : List Byte) : List Byte := bs ++ List.replicate (n - bs.length) 0

/-- Section `i` of a block's figures: 36 bytes (11.2). -/
def section36 (i : Nat) (bs : List Byte) : List Byte := padTo 36 ((bs.drop (36 * i)).take 36)

/-- A set of stations 1..24 in three bytes, station n in bit n - 1. -/
def stationSet (ns : List Nat) : List Byte :=
  bytesOf 3 (((List.range 24).map fun i => if ns.contains (i + 1) then 2 ^ i else 0).sum)

/-! ## Numbers of states, kinds, origins and results -/

/-- LIVE and STALE after EMPTY (6.1). -/
def PeerState.number : PeerState → Nat
  | .empty => 0
  | .live => 1
  | .stale => 2

/-- NONE, USABLE, LOST (R6). -/
def TempState.number : TempState → Nat
  | .untaken => 0
  | .usable => 1
  | .lost => 2

/-- NONE, PASSED, ENDED, ABORTED (2.1). -/
def TestResult.number : TestResult → Nat
  | .untested => 0
  | .passed => 1
  | .ended => 2
  | .aborted => 3

/-- SCHEDULE, DEPTH, TERMINAL (3.1). -/
def EqualizeOrigin.number : EqualizeOrigin → Nat
  | .schedule => 0
  | .depth => 1
  | .terminal => 2

/-- SCHEDULE, TERMINAL (3.1). -/
def TestOrigin.number : TestOrigin → Nat
  | .schedule => 0
  | .terminal => 1

/-- CLAIMED, MANUAL, ADOPTED (3.1). -/
def WithdrawalOrigin.number : WithdrawalOrigin → Nat
  | .claimed => 0
  | .manual => 1
  | .adopted => 2

/-- TRANSFERRING, WITHDRAWN, RETURNING, STUCK (3.1). -/
def Phase.number : Phase → Nat
  | .transferring => 0
  | .withdrawn => 1
  | .returning => 2
  | .stuck => 3

/-- STARTING, CONFIG_FAULT, JOINING, ACTIVE, MUTED (R83). -/
def LineState.number : LineState → Nat
  | .starting => 0
  | .configFault => 1
  | .joining => 2
  | .active => 3
  | .muted => 4

/-- WITHDRAW, TEST (7.1). -/
def claimKindNumber : ClaimKind → Nat
  | .withdraw => 0
  | .test => 1

/-- SCHEDULE, TERMINAL, KEY (7.1). -/
def ClaimOrigin.number : ClaimOrigin → Nat
  | .schedule => 0
  | .terminal => 1
  | .key => 2

/-- NONE, COMMITTED, YIELDED, NO_CONSENT, ABANDONED (7.1). -/
def ClaimResult.number : ClaimResult → Nat
  | .none => 0
  | .committed => 1
  | .yielded => 2
  | .noConsent => 3
  | .abandoned => 4

/-- CLOSED, OPEN, TRANSIT, DISAGREE, UNKNOWN (R128). -/
def Position.number : Position → Nat
  | .closed => 0
  | .opened => 1
  | .transit => 2
  | .disagree => 3
  | .unknown => 4

/-- CLOSED, OPEN, UNKNOWN (R128). -/
def Confirmed.number : Confirmed → Nat
  | .closed => 0
  | .opened => 1
  | .unknown => 2

/-- A pulse, 0 for none: MBPC, MBPO (R129). -/
def pulseNumber : Option PulseKind → Nat
  | none => 0
  | some .mbpc => 1
  | some .mbpo => 2

/-- lost, restored (R127). -/
def mainsKindNumber : MainsKind → Nat
  | .lost => 0
  | .restored => 1

/-- SERVICE, WITHDRAW, NORMAL, in the order of section 9.4. -/
def KeyPosition.number : KeyPosition → Nat
  | .service => 0
  | .withdraw => 1
  | .normal => 2

/-! ## String, item, visit, history, peer -/

/-- The intake's figures of a string (R11). That the reading flag shows 1 for PRESENT and 0 for ABSENT is the model's choice: R169 gives a
flag one bit and does not say which state is the 1 (assumption 12). -/
def readingBytes (s : State) (i : Nat) (r : Reading) : List Byte :=
  bytesOf 2 r.voltage ++ signedBytes 2 r.current ++ flagByte [r.present] ++ signedBytes 2 r.temp ++ byte r.tempAge
    ++ byte r.tempState.number ++ signedBytes 2 (accountingTemp s i)

/-- The account record of a string (2.1, R13). -/
def accountBytes (a : Account) : List Byte :=
  bytesOf 3 a.wear ++ bytesOf 3 a.residue ++ byte (match a.event with | .idle => 0 | .inEvent => 1) ++ bytesOf 4 a.charge
    ++ byte a.tail ++ bytesOf 2 a.events ++ byte a.measured ++ byte a.lastTest.number ++ bytesOf 4 a.testCharge
    ++ bytesOf 3 a.testEndHour ++ bytesOf 3 a.installHour ++ flagByte [a.reviewCrossed, a.replaceCrossed] ++ byte a.health
    ++ bytesOf 2 a.available

/-- String i's record, both sections: the intake figures of R11 and then the account, as R169's table names the two rules, though R13 lists
them the other way round (assumption 12). -/
def stringBytes (s : State) (i : Nat) : List Byte :=
  readingBytes s i (s.intake.readings.getD i Reading.start)
    ++ (s.accounts.strings[i]?.map accountBytes).getD []

/-- An item (R168, 10.1). -/
def itemBytes (it : Item) : List Byte :=
  bytesOf 2 it.number ++ byte it.kind.number ++ byte it.target.number ++ byte it.severity ++ bytesOf 4 it.raised
    ++ byte (flag it.taken.isSome) ++ bytesOf 2 (it.taken.getD 0) ++ byte it.repeats

/-- A done list, one pair to two bytes (11.2). -/
def doneBytes (done : List (ItemKind × Target)) : List Byte :=
  done.flatMap fun d => byte d.1.number ++ byte d.2.number

/-- The numbers of the items that a visit has taken, in the raise order of the queue, which R155 leaves open (assumption 12). -/
def takenNumbers (number : Nat) (items : List Item) : List Nat :=
  (items.filter fun it => it.taken == some number).map Item.number

/-- The open visit's record, both sections (R155, 9.1). The done list keeps eight places of two bytes, zero where no pair stands, so that
the figures after it keep their places (assumption 12). -/
def visitBytes (s : State) (v : Visit) : List Byte :=
  bytesOf 2 v.number ++ bytesOf 2 v.technician ++ byte v.origin.number ++ bytesOf 4 v.opened ++ bytesOf 2 v.planned
    ++ byte (flag v.overdue) ++ byte (takenNumbers v.number s.queue.items).length ++ padTo 16 (doneBytes v.done)
    ++ byte v.doneCount ++ flagByte [v.used, v.closePending] ++ bytesOf 4 ((v.closing.map Closing.time).getD 0)
    ++ byte ((v.closing.map fun c => c.reason.number).getD 0) ++ bytesOf 2 (secondsLeft s.visits.overdueTimer)
    ++ (takenNumbers v.number s.queue.items).flatMap (bytesOf 2)

/-- A history entry's four parts (11.2). -/
def historyBytes (v : Visit) : List Byte :=
  historyPart0 v ++ padTo 9 (bytesOf 4 v.opened ++ bytesOf 2 v.planned ++ byte v.doneCount) ++ doneBytes v.done

/-- A peer entry (R93). -/
def peerBytes (p : Peer) : List Byte :=
  let n := p.notice
  byte p.state.number ++ byte n.group ++ byte n.mode.code
    ++ flagByte [n.testing, n.equalizing, n.visitOpen, n.visitRequest]
    ++ byte ((n.claim.map fun c => kindCode c.kind).getD 0) ++ byte ((n.claim.map fun c => flag c.holding).getD 0)
    ++ byte n.consent ++ bytesOf 2 n.load ++ bytesOf 2 n.rating ++ bytesOf 2 n.energy ++ byte n.minHealth ++ byte n.level
    ++ bytesOf 2 p.since

/-! ## Conditions and counters -/

/-- The conditions record (R168, R87). The level of ALERT_N is shown as a flag, 1 for asserted (assumption 12). -/
def conditionBytes (s : State) : List Byte :=
  bytesOf 2 (flags (allConditions.map Condition.latched)) ++ bytesOf 2 (flags (allConditions.map s.monitor.active.get))
    ++ allConditions.flatMap (fun k => byte (levelOf s.cfg k)) ++ byte s.highestLevel ++ byte s.cfg.alertThreshold
    ++ flagByte [s.alert] ++ flagByte s.monitor.hot ++ bytesOf 2 s.cfg.hotLimit ++ bytesOf 2 s.monitor.lineErrors

/-- The counters record, its rules in the order in which R169's table names them and each rule's counts in the order in which that
rule lists them (R2, R76, R80, R138, R160, R171). R2 lists the burst counts by its checks, R11 in another order, and the model follows
R2, as it follows R80 and R160 before R87 and R168 (assumption 12). -/
def counterBytes (s : State) : List Byte :=
  [s.intake.shapeDiscards, s.intake.crcDiscards, s.intake.accepted, s.line.received, s.line.crcFailures,
    s.line.lengthFailures, s.line.contentDiscards, s.line.addressDiscards, s.line.displaced, s.line.drops, s.line.sent,
    s.line.losses, s.line.abandoned, s.bypass.staticCount, s.bypass.breakerCount, s.queue.displaced,
    s.queue.overflow].flatMap (bytesOf 2) ++ byte s.clampCount

/-! ## The cabinet summary (11.2) -/

/-- Sample intake, E and the runtime figure (R11, R13, R31). -/
def intakeBytes (s : State) : List Byte :=
  byte (match s.intake.loadState with | .valid => 0 | .degraded => 1) ++ bytesOf 2 s.loadValue ++ byte s.intake.loadAge
    ++ byte s.intake.burstAge ++ flagByte [s.intake.gap] ++ bytesOf 2 s.accounts.energy
    ++ bytesOf 2 (runtimeOf s.accounts.energy s.loadValue)

/-- The seconds that the restore qualification timer has counted, in whole seconds, and 0 while it is stopped (R124, assumption 12). -/
def qualCount (s : State) : Nat :=
  match s.bypass.qualTimer with
  | none => 0
  | some left => (100 - left) / 10

/-- A frame's kind, numbered in the order of 3.1. -/
def Frame.number : Frame → Nat
  | .equalize _ => 0
  | .test _ => 1
  | .withdrawal _ => 2
  | .discharge _ => 3

/-- A frame of the stack with every field of its kind (R51, 3.1); `top` says whether it is the top frame. -/
def frameBytes (s : State) (f : Frame) (top : Bool) : List Byte :=
  byte f.number ++ byte f.level ++
  match f with
  | .equalize e =>
    bytesOf 4 e.pushed ++ bytesOf 2 e.remaining ++ byte (e.minute / 10) ++ byte e.origin.number ++ byte (flag !top)
  | .test t =>
    bytesOf 4 t.pushed ++ bytesOf 2 t.elapsed ++ t.strings.flatMap (fun q => bytesOf 4 q.qt)
      ++ flagByte (t.strings.map TestString.reached) ++ byte t.origin.number
  | .withdrawal w =>
    bytesOf 4 w.pushed ++ byte w.origin.number ++ byte w.phase.number ++ bytesOf 2 (w.owner.getD 0)
      ++ flagByte [w.returnRequested] ++ byte (secondsLeft w.timer)
  | .discharge d => bytesOf 4 d.pushed ++ bytesOf 4 d.pushed ++ byte (qualCount s)

/-- The frames, bottom first. -/
def framesBytes (s : State) : List Byte :=
  (s.stack.frames.zipIdx.map fun e => frameBytes s e.1 (e.2 == 0)).reverse.flatten

/-- Activity stack (R51). -/
def stackBytes (s : State) : List Byte :=
  byte s.stack.frames.length ++ byte (topLevel s.stack.frames) ++ framesBytes s ++ flagByte [s.stack.dischargeDeferred]
    ++ byte (flag s.stack.withdrawalDeferred.isSome)
    ++ byte ((s.stack.withdrawalDeferred.map WithdrawalOrigin.number).getD 0) ++ flagByte [s.stack.settle]

/-- What a TEST frame counts for string `i`, with its reference charge (R71). -/
def testBytes (s : State) (f : TestFrame) : List Byte :=
  bytesOf 2 f.elapsed
    ++ (f.strings.zipIdx.map fun q =>
      bytesOf 4 q.1.qt ++ flagByte [q.1.reached] ++ bytesOf 4 (referenceCharge s.cfg q.2)).flatten

/-- Conditioning controller (R71). Of the two next due hours, whose order R71 leaves open, the equalize stands first, as in 4.1
(assumption 12). -/
def conditioningBytes (s : State) : List Byte :=
  byte (flag s.cond.latch.isSome) ++ byte ((s.cond.latch.map fun l => l.origin.number).getD 0)
    ++ bytesOf 2 ((s.cond.latch.map EqualizeLatch.minutes).getD 0) ++ flagByte [s.cond.testLatch]
    ++ bytesOf 3 s.cond.equalizeDue ++ bytesOf 3 s.cond.testDue ++ byte (flag s.cond.waiting)
    ++ flagByte [s.cond.overdueRaised] ++ (s.test?.map (testBytes s)).getD []

/-- Line controller (R87). The bit rate is a byte, 0 for 125 kbit/s and 1 for 250 kbit/s (assumption 12). -/
def lineBytes (s : State) : List Byte :=
  byte s.line.state.number ++ byte (flag s.id.fast) ++ flagByte [s.line.synchronised] ++ byte s.line.tx.length
    ++ byte (secondsLeft s.line.statusTimer)

/-- Support evaluator (R103). The entries of R stand by ascending station number, an order that R103 leaves open (assumption 12). -/
def supportBytes (s : State) : List Byte :=
  let o := onlineSet s
  let r := remainingSet s s.id.station
  byte (members s).length ++ byte ((memberPeers s).countP fun e => e.2.state == .live)
    ++ byte ((memberPeers s).countP fun e => e.2.state == .stale) ++ stationSet (o.map Member.station)
    ++ bytesOf 3 (ratingSum o) ++ bytesOf 3 (groupLoad s) ++ byte (flag !(presentCheck s))
    ++ byte (firstFailure .withdraw s s.id.station) ++ byte (firstFailure .test s s.id.station)
    ++ r.flatMap fun m =>
      let share := shareOf (groupLoad s) (ratingSum r) m
      byte m.station ++ bytesOf 3 share ++ bytesOf 2 (runtimeOf m.energy share)

/-- An entry of the claim list (R123). -/
def entryBytes (e : ClaimEntry) : List Byte :=
  byte e.station ++ byte (claimKindNumber e.kind) ++ byte e.key ++ byte (flag e.holding) ++ bytesOf 4 e.confirmed

/-- The own claim's figures, all 0 while IDLE (R123). -/
def ownClaimBytes (s : State) : List Byte :=
  match s.claims.own with
  | none => List.replicate 11 0
  | some c =>
    byte (if c.holding then 2 else 1) ++ byte (claimKindNumber c.kind) ++ byte c.origin.number ++ bytesOf 2 (c.owner.getD 0)
      ++ byte (keyOf c.kind s.id.station) ++ flagByte [c.announced] ++ stationSet c.heard
      ++ byte (secondsLeft s.claims.window)

/-- Claim controller (R123). The claim list keeps four places of eight bytes, zero where no entry stands (assumption 12). -/
def claimBytes (s : State) : List Byte :=
  ownClaimBytes s ++ padTo 32 (s.claims.list.flatMap entryBytes) ++ byte (s.claims.consent.getD 0)
    ++ byte s.claims.last.number ++ byte ((s.claims.lastKind.map claimKindNumber).getD 0)
    ++ byte (secondsLeft s.claims.spacing) ++ flagByte [s.claims.latch]

/-- The last floor mains report and the floor mains count (R127). -/
def reportBytes (s : State) : List Byte :=
  (match s.bypass.report with
  | none => List.replicate 7 0
  | some r => byte r.source ++ byte (mainsKindNumber r.kind) ++ byte r.group ++ bytesOf 4 r.time) ++ bytesOf 2 s.bypass.reportCount

/-- The WITHDRAWAL frame as the bypass controller shows it, all 0 with none (R139). Of the frame fields of R51 those that R139 has
already listed are not shown twice (assumption 12). -/
def withdrawalBytes (s : State) : List Byte :=
  match s.withdrawal? with
  | none => List.replicate 12 0
  | some w =>
    byte w.phase.number ++ flagByte [w.returnRequested] ++ byte (secondsLeft w.timer)
      ++ byte (Frame.withdrawal w).number ++ byte (Frame.withdrawal w).level ++ bytesOf 4 w.pushed ++ byte w.origin.number
      ++ bytesOf 2 (w.owner.getD 0)

/-- Bypass controller (R139). -/
def bypassBytes (s : State) : List Byte :=
  byte (match s.bypass.mains with | .present => 0 | .lost => 1)
    ++ flagByte [s.bypass.lossTimer.isSome, s.bypass.qualTimer.isSome] ++ byte (qualCount s) ++ reportBytes s
    ++ byte s.bypass.position.number ++ byte s.bypass.confirmed.number ++ flagByte [s.bypass.recovery.isSome]
    ++ byte (secondsLeft s.bypass.recovery) ++ byte (pulseNumber (s.bypass.pulse.map Pulse.kind))
    ++ byte (pulseNumber s.bypass.waitingPulse) ++ withdrawalBytes s ++ flagByte [s.pins.bypLoad]
    ++ bytesOf 2 s.bypass.staticCount ++ bytesOf 2 s.bypass.breakerCount

/-- Visit controller and work queue (R155, R168). The mark is a flag, 1 for RAISED (assumption 12). -/
def visitQueueBytes (s : State) : List Byte :=
  byte s.visits.stable.number
    ++ flagByte [s.pins.keyS, s.pins.keyW, s.visits.settleTimer.isSome, s.visits.requestHeld]
    ++ bytesOf 2 s.visits.counter ++ byte s.queue.items.length ++ byte (severeCount s.queue.items)
    ++ byte (urgentCount s.queue.items) ++ flagByte [s.queue.mark] ++ byte s.cfg.riseCount ++ byte s.cfg.fallCount
    ++ bytesOf 2 s.queue.counter

/-- The 36 data bytes of section `i` of the cabinet summary, none above 15 (11.2). -/
def summarySection (i : Nat) (s : State) : Option (List Byte) :=
  if i = 0 then some (section36 0 (intakeBytes s))
  else if i ≤ 2 then some (section36 (i - 1) (stackBytes s))
  else if i ≤ 4 then some (section36 (i - 3) (conditioningBytes s))
  else if i = 5 then some (section36 0 (lineBytes s))
  else if i ≤ 10 then some (section36 (i - 6) (supportBytes s))
  else if i ≤ 12 then some (section36 (i - 11) (claimBytes s))
  else if i ≤ 14 then some (section36 (i - 13) (bypassBytes s))
  else if i = 15 then some (section36 0 (visitQueueBytes s))
  else none

/-! ## READ (R169) -/

/-- What a READ finds, by the checks of R169 in their order. -/
inductive ReadOutcome where
  | bad
  | notFound
  | noVisit
  | found (data : List Byte)
deriving DecidableEq, Repr

/-- A figure that an index names, or NOT_FOUND. -/
def foundOr : Option (List Byte) → ReadOutcome
  | some data => .found data
  | none => .notFound

/-- String s's record by sections: s the first, 4 + s the second (11.2). -/
def readString (i : Nat) (s : State) : ReadOutcome :=
  if i < s.cfg.stringCount then .found (section36 0 (stringBytes s i))
  else if 4 ≤ i ∧ i < 4 + s.cfg.stringCount then .found (section36 1 (stringBytes s (i - 4)))
  else .notFound

/-- The visit record by sections (R155). -/
def readVisit (i : Nat) (s : State) : ReadOutcome :=
  if 1 < i then .notFound
  else
    match s.visits.current with
    | none => .noVisit
    | some v => .found (section36 i (visitBytes s v))

/-- A peer record, index 1..24 (R93). -/
def readPeer (i : Nat) (s : State) : ReadOutcome :=
  if isStation i then .found (section36 0 (peerBytes (s.peer i))) else .notFound

/-- The checks of READ, and the 36 data bytes of the record's four parts (R169). -/
def readRecord (kind index : Nat) (s : State) : ReadOutcome :=
  match kind with
  | 0 => foundOr (summarySection index s)
  | 1 => readString index s
  | 2 => foundOr (s.queue.items[index]?.map fun it => section36 0 (itemBytes it))
  | 3 => readVisit index s
  | 4 => foundOr (s.visits.history[index]?.map fun v => section36 0 (historyBytes v))
  | 5 => readPeer index s
  | 6 => if index = 0 then .found (section36 0 (conditionBytes s)) else .notFound
  | 7 => if index = 0 then .found (section36 0 (counterBytes s)) else .notFound
  | _ => .bad

/-- The four RECORD frames of a READ, part 0 first (R85, R169). -/
def recordFrames (term kind index : Nat) (data : List Byte) : List TxFrame :=
  (List.range 4).map fun p =>
    newFrame .record term (recordPayload kind index p ((data.drop (9 * p)).take 9))

end Sys2Proof.Machine
end

