-- ==== Sys2Proof/Machine/Requests.lean ====
section
/-! DEFINITION. Request handling: result codes, the checks of an arriving REQUEST, the answer memory and the RESULT (R85,
R86, 5.9.4, 11.1). What each request does when it is served stands in VisitRequests.lean and StationRequests.lean. -/

namespace Sys2Proof.Machine

/-- The result codes (11.1). -/
inductive ResultCode where
  | done
  | started
  | busy
  | level
  | inhibited
  | state
  | notFound
  | noVisit
  | limit
  | bad
  | joining
deriving DecidableEq, Repr

/-- The number of a result code (5.9.4). -/
def ResultCode.number : ResultCode → Nat
  | .done => 0
  | .started => 1
  | .busy => 2
  | .level => 3
  | .inhibited => 4
  | .state => 5
  | .notFound => 6
  | .noVisit => 7
  | .limit => 8
  | .bad => 9
  | .joining => 10

/-- The number of argument bytes that a request code has, none for a code that is not one of the fourteen (5.9.4). -/
def argCount (code : Nat) : Option Nat :=
  match code with
  | 1 => some 4
  | 2 => some 2
  | 3 => some 2
  | 4 => some 2
  | 5 => some 2
  | 6 => some 2
  | 7 => some 0
  | 8 => some 0
  | 9 => some 0
  | 10 => some 0
  | 11 => some 2
  | 12 => some 1
  | 13 => some 2
  | 14 => some 0
  | _ => none

/-- A served request: the state it leaves, its result code and its data, and whether a restart awaits the RESULT (R85). -/
structure Served where
  state : State
  code : ResultCode
  data : List Byte
  awaited : Bool

/-- A request answered with a code alone. -/
def answer (c : ResultCode) (s : State) : Served := { state := s, code := c, data := [], awaited := false }

/-- The payload of a REQUEST (5.9.4). -/
def requestPayload (code tag : Byte) (args : List Byte) : List Byte := code :: tag :: args

/-- The payload of a RESULT (5.9.4). -/
def resultPayload (code tag : Byte) (r : ResultCode) (data : List Byte) : List Byte :=
  code :: tag :: BitVec.ofNat 8 r.number :: data

/-- A RESULT is handed over to the terminal that asked. -/
def handResult (term : Nat) (payload : List Byte) (awaited : Bool) (s : State) : State :=
  handFrame { newFrame .result term payload with awaited := awaited } s

/-- The RESULT stored for a request that repeats the terminal's last (R86). -/
def storedResult (term : Nat) (request : List Byte) (s : State) : Option (List Byte) :=
  (s.line.answers.find? fun a => a.term == term && a.request == request).map Answer.result

/-- A terminal's slot takes a request and its RESULT, replacing what was there (R86). -/
def storeAnswer (term : Nat) (request result : List Byte) (s : State) : State :=
  { s with line := { s.line with
      answers := { term := term, request := request, result := result }
        :: s.line.answers.filter fun a => a.term != term } }

/-- What the checks of R85 make of a REQUEST of a code and its arguments, at a station that answers. -/
inductive RequestCheck where
  | bad
  | repeated (result : List Byte)
  | served
deriving DecidableEq, Repr

/-- Checks 1 and 2 of R85, in their order. -/
def checkRequest (term : Nat) (code tag : Byte) (args : List Byte) (s : State) : RequestCheck :=
  if argCount code.toNat ≠ some args.length then .bad
  else
    match storedResult term (requestPayload code tag args) s with
    | some r => .repeated r
    | none => .served

/-- An arriving REQUEST other than READ: a frame that a station takes is counted; a MUTED station discards it; and otherwise it is answered
BAD, answered again, or served, its RESULT stored and handed over (R76, R85, R86). -/
def request (term : Nat) (code tag : Byte) (args : List Byte) (serve : State → Served) (s : State) : State :=
  if !requestWellFormed term args || !s.receiving then s
  else
    let t := countReceived s
    if !t.sending then t
    else
      match checkRequest term code tag args t with
      | .bad => handResult term (resultPayload code tag .bad []) false t
      | .repeated r => handResult term r false t
      | .served =>
        let r := serve t
        let result := resultPayload code tag r.code r.data
        finish s (handResult term result r.awaited (storeAnswer term (requestPayload code tag args) result r.state))

/-- A 16-bit argument (5.9.4). -/
def arg16 (args : List Byte) (i : Nat) : Nat := natOf ((args.drop (2 * i)).take 2)

end Sys2Proof.Machine
end

