-- ==== Sys2Proof/Machine/VisitRequests.lean ====
section
/-! DEFINITION. The requests of a service visit: VISIT_OPEN, VISIT_CLOSE, ITEM_TAKE, ITEM_DONE, ITEM_RETURN (R141, R148 to
R152). -/

namespace Sys2Proof.Machine

/-! ## Visits (R141, R152) -/

/-- VISIT_OPEN at its owner (R141). -/
def serveVisitOpen (term technician planned : Nat) (s : State) : Served :=
  if planned < 1 ∨ 480 < planned then answer .bad s
  else if s.visitOpen then answer .busy s
  else
    let t := openVisit (.terminal term) technician planned s
    { state := t, code := .done, data := bytesOf 2 t.visits.counter, awaited := false }

/-- A visit was opened by a terminal. -/
def VisitOrigin.isTerminalOrigin : VisitOrigin → Bool
  | .terminal _ => true
  | .key => false

/-- The open visit closes by VISIT_CLOSE, in the order of R153: what may start while no visit is open starts before the key opens one. -/
def closeByTerminal (s : State) : State := reopenForKey (startActivities (endVisit .terminal s))

/-- VISIT_CLOSE at its owner (R152). -/
def serveVisitClose (number : Nat) (s : State) : Served :=
  if number = 0 then answer .bad s
  else
    match s.visits.current with
    | none => answer .noVisit s
    | some v =>
      if number ≠ v.number then answer .notFound s
      else if !v.origin.isTerminalOrigin then answer .state s
      else if ownsWithdrawal v.number s then answer .state s
      else answer .done (closeByTerminal s)

/-! ## Items (R148 to R151) -/

/-- The visit's TAKEN count: the items of the queue that name it (9.1). -/
def takenCount (number : Nat) (s : State) : Nat := s.queue.items.countP fun it => it.taken == some number

/-- Checks 1 to 3 of the item requests: the item number, the open visit, and the item with its place (R148). -/
def withItem (number : Nat) (s : State) (f : Visit → Nat → Item → Served) : Served :=
  if number = 0 then answer .bad s
  else
    match s.visits.current with
    | none => answer .noVisit s
    | some v =>
      match findNumber number s.queue.items with
      | none => answer .notFound s
      | some place =>
        match s.queue.items[place]? with
        | none => answer .notFound s
        | some it => f v place it

/-- ITEM_TAKE at its owner (R148). -/
def serveItemTake (number : Nat) (s : State) : Served :=
  withItem number s fun v place it =>
    if it.taken.isSome then answer .state s
    else if 8 ≤ takenCount v.number s then answer .limit s
    else answer .done (changePlace place (fun u => { u with taken := some v.number }) s)

/-- ITEM_RETURN at its owner (R149). -/
def serveItemReturn (number : Nat) (s : State) : Served :=
  withItem number s fun _ place it =>
    if it.taken.isNone then answer .state s else answer .done (changePlace place untake s)

/-- A done item enters the visit's done list and count (R150 step 2). -/
def recordDone (it : Item) (v : Visit) : Visit :=
  { v with
    done := if v.done.length < 8 then v.done ++ [(it.kind, it.target)] else v.done
    doneCount := satAdd 255 v.doneCount 1 }

/-- A string is replaced: its account, the next test due hour, and the immediate write of both pages (R36, R70, R151). -/
def replaceTarget (t : Target) (s : State) : State :=
  match t with
  | .string i => askWrite .cabinet (moveTestDue (replaceString i s))
  | .staticSwitch => s
  | .breaker => s
  | .nothing => s

/-- The effect of marking an item of a kind done (R151). -/
def doneEffect (k : ItemKind) (target : Target) (s : State) : State :=
  match k with
  | .stringReplace => replaceTarget target s
  | .stringReview => s
  | .staticSwitchService => writeSoon .cabinet { s with bypass := { s.bypass with staticCount := 0 } }
  | .breakerService => writeSoon .cabinet { s with bypass := { s.bypass with breakerCount := 0 } }
  | .transferCheck => setCondition .transferFault false s
  | .sensorCheck => s
  | .recordCheck => setCondition .recordLost false s
  | .testOverdue => s

/-- ITEM_DONE at its owner (R150). -/
def serveItemDone (number : Nat) (s : State) : Served :=
  withItem number s fun _ place it =>
    if it.taken.isNone then answer .state s
    else if it.kind = .stringReplace ∧ (s.hasTest || s.hasDischarge) then answer .busy s
    else answer .done (takeMark (doneEffect it.kind it.target (changeVisit (recordDone it) (removePlace place s))))

/-! ## The commands -/

/-- VISIT_OPEN, request code 1 (R141). -/
def execVisitOpen (term : Nat) (tag : Byte) (args : List Byte) (s : State) : Host.Outcome State Fault Refusal :=
  .next (request term 1 tag args (serveVisitOpen term (arg16 args 0) (arg16 args 1)) s)

/-- VISIT_CLOSE, request code 2 (R152). -/
def execVisitClose (term : Nat) (tag : Byte) (args : List Byte) (s : State) : Host.Outcome State Fault Refusal :=
  .next (request term 2 tag args (serveVisitClose (arg16 args 0)) s)

/-- ITEM_TAKE, request code 3 (R148). -/
def execItemTake (term : Nat) (tag : Byte) (args : List Byte) (s : State) : Host.Outcome State Fault Refusal :=
  .next (request term 3 tag args (serveItemTake (arg16 args 0)) s)

/-- ITEM_DONE, request code 4 (R150, R151). -/
def execItemDone (term : Nat) (tag : Byte) (args : List Byte) (s : State) : Host.Outcome State Fault Refusal :=
  .next (request term 4 tag args (serveItemDone (arg16 args 0)) s)

/-- ITEM_RETURN, request code 5 (R149). -/
def execItemReturn (term : Nat) (tag : Byte) (args : List Byte) (s : State) : Host.Outcome State Fault Refusal :=
  .next (request term 5 tag args (serveItemReturn (arg16 args 0)) s)

end Sys2Proof.Machine
end

