-- ==== Sys2Proof/Machine/StationRequests.lean ====
section
/-! DEFINITION. The requests that act on the station: WITHDRAW, RETURN, TEST_NOW, EQUALIZE_NOW, STOP, CLEAR, FORGET, READ,
RESTART, and a request code that is none of the fourteen (R57, R61, R68, R85, R92, R132, R136, R167, R169, R177). -/

namespace Sys2Proof.Machine

/-! ## WITHDRAW (R136, R154) and RETURN (R132) -/

/-- The number of the open visit. -/
def openNumber (s : State) : Option Nat := s.visits.current.map Visit.number

/-- WITHDRAW at its owner, with visit number `n`, 0 for none (R136, R154). -/
def serveWithdraw (n : Nat) (s : State) : Served :=
  if s.line.state = .joining then answer .joining s
  else if n ≠ 0 ∧ openNumber s ≠ some n then answer .noVisit s
  else if s.hasWithdrawal then
    if n ≠ 0 ∧ ownerless s then answer .done (assignWithdrawal s) else answer .state s
  else if 2 ≤ topLevel s.stack.frames then answer .level s
  else if !claimsIdle s || listForbids s .withdraw then answer .busy s
  else if s.monitor.active.inhibitsWithdraw then answer .inhibited s
  else answer .started (makeClaim .withdraw .terminal (if n = 0 then none else some n) s)

/-- The result that the phase of the WITHDRAWAL frame gives a return (R132). -/
def returnCode (s : State) : ResultCode :=
  match s.withdrawal? with
  | none => .state
  | some w =>
    match w.phase with
    | .transferring => .started
    | .withdrawn => .started
    | .returning => .busy
    | .stuck => .busy

/-- RETURN at its owner (R132). -/
def serveReturn (s : State) : Served :=
  if s.line.state = .joining then answer .joining s else answer (returnCode s) (askReturn s)

/-! ## TEST_NOW, EQUALIZE_NOW, STOP (R57, R61, R68) -/

/-- The result that a failed check of TEST_NOW gives (R61). -/
def testNowCode : Nat → ResultCode
  | 1 => .joining
  | 2 => .state
  | 3 => .state
  | 4 => .level
  | 5 => .busy
  | 6 => .inhibited
  | _ => .started

/-- TEST_NOW at its owner (R61). -/
def serveTestNow (s : State) : Served :=
  if testNowFailure s ≠ 0 then answer (testNowCode (testNowFailure s)) s
  else if s.stack.settle then answer .started { s with cond := { s.cond with waiting := true } }
  else answer .started (makeClaim .test .terminal none s)

/-- EQUALIZE_NOW at its owner (R57, R56). -/
def serveEqualizeNow (s : State) : Served :=
  answer .done (setLatch { origin := .terminal, minutes := fullMinutes s.cfg } s)

/-- STOP at its owner (R68). -/
def serveStop (s : State) : Served :=
  if s.hasEqualize || s.hasTest || s.cond.waiting
  then answer .done (dropWaiting (endTest .aborted (abortEqualize s)))
  else answer .state s

/-! ## CLEAR (R167) and FORGET (R92) -/

/-- The conditions that a CLEAR of a set makes inactive: the latched ones that it names and that are active (R167). -/
def clearedBy (named : Nat) (c : Conditions) : List Condition :=
  allConditions.filter fun k => named.testBit k.bit && k.latched && c.get k

/-- A set of conditions as its 16 bits (5.9.4). -/
def conditionSet (ks : List Condition) : Nat := flags (allConditions.map fun k => ks.contains k)

/-- CLEAR at its owner, with the named set (R167). Clearing CLAIM_CONFLICT clears the conflict latch (R121). -/
def serveClear (named : Nat) (s : State) : Served :=
  let cleared := clearedBy named s.monitor.active
  let t := cleared.foldl (fun t k => setCondition k false t) s
  let t := if named.testBit Condition.lineErrors.bit then { t with monitor := { t.monitor with lineErrors := 0 } } else t
  let t := if cleared.contains .claimConflict then { t with claims := { t.claims with latch := false } } else t
  { state := t, code := .done, data := bytesOf 2 (conditionSet cleared), awaited := false }

/-- FORGET at its owner, with a station number (R92). -/
def serveForget (n : Nat) (s : State) : Served :=
  if !isStation n then answer .bad s
  else
    match (s.peer n).state with
    | .empty => answer .notFound s
    | .live => answer .state s
    | .stale => answer .done (setPeer n Peer.blank s)

/-! ## RESTART (R177) -/

/-- The restart wait begins: every DIRTY page is listed and the wear second timer stops (R177). -/
def beginRestart (s : State) : State :=
  listDirty { s with
    port := { s.port with restartWait := true }
    accounts := { s.accounts with second := none } }

/-- RESTART at its owner (R177). Only the RESULT of the RESTART that begins the wait is awaited (R85). -/
def serveRestart (s : State) : Served :=
  if s.port.restartWait then answer .started s
  else if !s.stackEmpty || s.claims.own.isSome then answer .state s
  else { answer .started (beginRestart s) with awaited := true }

/-! ## READ (R169) -/

/-- READ: the RESULT, and for a record found its four parts. A READ changes no block and no answer memory (R85, R86, R169). -/
def serveRead (term : Nat) (tag : Byte) (kind index : Nat) (s : State) : State :=
  match readRecord kind index s with
  | .bad => handResult term (resultPayload 13 tag .bad []) false s
  | .notFound => handResult term (resultPayload 13 tag .notFound []) false s
  | .noVisit => handResult term (resultPayload 13 tag .noVisit []) false s
  | .found data =>
    (recordFrames term kind index data).foldl (fun t f => handFrame f t)
      (handResult term (resultPayload 13 tag .done (byte kind ++ byte index)) false s)

/-- A READ arrives (R85, R86). -/
def requestRead (term : Nat) (tag : Byte) (args : List Byte) (s : State) : State :=
  if !requestWellFormed term args || !s.receiving then s
  else
    let t := countReceived s
    if !t.sending then t
    else if args.length ≠ 2 then handResult term (resultPayload 13 tag .bad []) false t
    else serveRead term tag (args.getD 0 0).toNat (args.getD 1 0).toNat t

/-! ## The commands -/

/-- WITHDRAW, request code 6 (R136, R154). -/
def execWithdraw (term : Nat) (tag : Byte) (args : List Byte) (s : State) : Host.Outcome State Fault Refusal :=
  .next (request term 6 tag args (serveWithdraw (arg16 args 0)) s)

/-- RETURN, request code 7 (R132). -/
def execReturn (term : Nat) (tag : Byte) (args : List Byte) (s : State) : Host.Outcome State Fault Refusal :=
  .next (request term 7 tag args serveReturn s)

/-- TEST_NOW, request code 8 (R61). -/
def execTestNow (term : Nat) (tag : Byte) (args : List Byte) (s : State) : Host.Outcome State Fault Refusal :=
  .next (request term 8 tag args serveTestNow s)

/-- EQUALIZE_NOW, request code 9 (R57). -/
def execEqualizeNow (term : Nat) (tag : Byte) (args : List Byte) (s : State) : Host.Outcome State Fault Refusal :=
  .next (request term 9 tag args serveEqualizeNow s)

/-- STOP, request code 10 (R68). -/
def execStop (term : Nat) (tag : Byte) (args : List Byte) (s : State) : Host.Outcome State Fault Refusal :=
  .next (request term 10 tag args serveStop s)

/-- CLEAR, request code 11 (R167). -/
def execClear (term : Nat) (tag : Byte) (args : List Byte) (s : State) : Host.Outcome State Fault Refusal :=
  .next (request term 11 tag args (serveClear (arg16 args 0)) s)

/-- FORGET, request code 12 (R92). -/
def execForget (term : Nat) (tag : Byte) (args : List Byte) (s : State) : Host.Outcome State Fault Refusal :=
  .next (request term 12 tag args (serveForget (args.headD 0).toNat) s)

/-- READ, request code 13 (R169). -/
def execRead (term : Nat) (tag : Byte) (args : List Byte) (s : State) : Host.Outcome State Fault Refusal :=
  .next (requestRead term tag args s)

/-- RESTART, request code 14 (R177). -/
def execRestart (term : Nat) (tag : Byte) (args : List Byte) (s : State) : Host.Outcome State Fault Refusal :=
  .next (request term 14 tag args serveRestart s)

/-- A request code that is none of the fourteen: answered BAD, and not served (R85). A code from 1 to 14 is not such a command
(assumption 1). -/
def execUnknownRequestCode (term : Nat) (code tag : Byte) (args : List Byte) (s : State) :
    Host.Outcome State Fault Refusal :=
  .next (if (argCount code.toNat).isSome then s else request term code tag args (answer .bad) s)

end Sys2Proof.Machine
end

