-- ==== Sys2Proof/Machine/Dispatch.lean ====
section
/-! DEFINITION. One arm for each command: a call of its meaning. -/

namespace Sys2Proof.Machine

def exec (i : Instr) (s : State) : Host.Outcome State Fault Refusal :=
  match i with
  | .resetNAsserted => Sys2Proof.Machine.execResetNAsserted s
  | .start straps image unanswered => Sys2Proof.Machine.execStart straps image unanswered s
  | .restartStart straps image unanswered => Sys2Proof.Machine.execRestartStart straps image unanswered s
  | .measurementBurst bytes extraBits early => Sys2Proof.Machine.execMeasurementBurst bytes extraBits early s
  | .intakeSecondTimerExpiry => Sys2Proof.Machine.execIntakeSecondTimerExpiry s
  | .wearSecondTimerExpiry => Sys2Proof.Machine.execWearSecondTimerExpiry s
  | .equalizeMinuteTimerExpiry => Sys2Proof.Machine.execEqualizeMinuteTimerExpiry s
  | .testSecondTimerExpiry => Sys2Proof.Machine.execTestSecondTimerExpiry s
  | .frameStart => Sys2Proof.Machine.execFrameStart s
  | .arbitrationLoss => Sys2Proof.Machine.execArbitrationLoss s
  | .frameAbandoned => Sys2Proof.Machine.execFrameAbandoned s
  | .frameSent => Sys2Proof.Machine.execFrameSent s
  | .lineSynchronised => Sys2Proof.Machine.execLineSynchronised s
  | .frameRejected frame => Sys2Proof.Machine.execFrameRejected frame s
  | .statusReceived source payload => Sys2Proof.Machine.execStatusReceived source payload s
  | .duplicateNumberHeard => Sys2Proof.Machine.execDuplicateNumberHeard s
  | .claimReceived source kind => Sys2Proof.Machine.execClaimReceived source kind s
  | .releaseReceived source kind => Sys2Proof.Machine.execReleaseReceived source kind s
  | .mainsReceived source kind => Sys2Proof.Machine.execMainsReceived source kind s
  | .resultRecordReceived => Sys2Proof.Machine.execResultRecordReceived s
  | .statusTimerExpiry => Sys2Proof.Machine.execStatusTimerExpiry s
  | .joiningTimerExpiry => Sys2Proof.Machine.execJoiningTimerExpiry s
  | .staleTimerExpiry station => Sys2Proof.Machine.execStaleTimerExpiry station s
  | .claimWindowTimerExpiry => Sys2Proof.Machine.execClaimWindowTimerExpiry s
  | .spacingTimerExpiry => Sys2Proof.Machine.execSpacingTimerExpiry s
  | .confirmationTimerExpiry station => Sys2Proof.Machine.execConfirmationTimerExpiry station s
  | .mainsOkChange level => Sys2Proof.Machine.execMainsOkChange level s
  | .mainsLossTimerExpiry => Sys2Proof.Machine.execMainsLossTimerExpiry s
  | .mainsQualificationTimerExpiry => Sys2Proof.Machine.execMainsQualificationTimerExpiry s
  | .breakerContactChange mbpCl mbpOp => Sys2Proof.Machine.execBreakerContactChange mbpCl mbpOp s
  | .disagreeTimerExpiry => Sys2Proof.Machine.execDisagreeTimerExpiry s
  | .pulseEnd => Sys2Proof.Machine.execPulseEnd s
  | .transferTimeout => Sys2Proof.Machine.execTransferTimeout s
  | .returnTimeout => Sys2Proof.Machine.execReturnTimeout s
  | .recoveryWaitExpiry => Sys2Proof.Machine.execRecoveryWaitExpiry s
  | .bypLoadChange level => Sys2Proof.Machine.execBypLoadChange level s
  | .keyInputChange keyS keyW => Sys2Proof.Machine.execKeyInputChange keyS keyW s
  | .keySettleTimerExpiry => Sys2Proof.Machine.execKeySettleTimerExpiry s
  | .overdueTimerExpiry => Sys2Proof.Machine.execOverdueTimerExpiry s
  | .hourTimerExpiry => Sys2Proof.Machine.execHourTimerExpiry s
  | .memoryWriteDone => Sys2Proof.Machine.execMemoryWriteDone s
  | .memoryWriteFail => Sys2Proof.Machine.execMemoryWriteFail s
  | .visitOpen term tag args => Sys2Proof.Machine.execVisitOpen term tag args s
  | .visitClose term tag args => Sys2Proof.Machine.execVisitClose term tag args s
  | .itemTake term tag args => Sys2Proof.Machine.execItemTake term tag args s
  | .itemDone term tag args => Sys2Proof.Machine.execItemDone term tag args s
  | .itemReturn term tag args => Sys2Proof.Machine.execItemReturn term tag args s
  | .withdraw term tag args => Sys2Proof.Machine.execWithdraw term tag args s
  | .returnRequest term tag args => Sys2Proof.Machine.execReturn term tag args s
  | .testNow term tag args => Sys2Proof.Machine.execTestNow term tag args s
  | .equalizeNow term tag args => Sys2Proof.Machine.execEqualizeNow term tag args s
  | .stop term tag args => Sys2Proof.Machine.execStop term tag args s
  | .clear term tag args => Sys2Proof.Machine.execClear term tag args s
  | .forget term tag args => Sys2Proof.Machine.execForget term tag args s
  | .read term tag args => Sys2Proof.Machine.execRead term tag args s
  | .restart term tag args => Sys2Proof.Machine.execRestart term tag args s
  | .unknownRequestCode term code tag args => Sys2Proof.Machine.execUnknownRequestCode term code tag args s
  | .powerLoss => Sys2Proof.Machine.execPowerLoss s

end Sys2Proof.Machine
end

