-- ==== Sys2Proof/Safety.lean ====
section
/-! DEFINITION. What holds of a sound state: the bounds and relations that the manual's rules state of the whole part, each as
a property of a state. -/

namespace Sys2Proof.Safety

open Sys2Proof.Machine

/-! ## Sound states -/

/-- The seven configurations of the activity stack, top frame first (R38). -/
def legalFrames : List Frame → Bool
  | [] => true
  | [_] => true
  | [.withdrawal _, .equalize _] => true
  | [.discharge _, .equalize _] => true
  | _ => false

/-- The frame of a claimed activity: a TEST, or a WITHDRAWAL of origin CLAIMED (R45). -/
def isClaimedFrame : Frame → Bool
  | .equalize _ => false
  | .test _ => true
  | .withdrawal w => w.origin == .claimed
  | .discharge _ => false

/-- The stack stands in one of its seven configurations, the claim controller is HOLDING exactly when a claimed activity's frame is on
it, and a withdrawal deferral has origin MANUAL or ADOPTED (R38, R45). -/
def StackSound (s : State) : Prop :=
  legalFrames s.stack.frames = true ∧ s.holding = s.stack.frames.any isClaimedFrame
    ∧ s.stack.withdrawalDeferred ≠ some .claimed

/-- The transmit queue holds at most six frames, at most one waiting STATUS, and at most one frame in flight (R79, R80). -/
def QueueBounded (s : State) : Prop :=
  s.line.tx.length ≤ 6 ∧ s.line.tx.countP TxFrame.isWaitingStatus ≤ 1 ∧ s.line.tx.countP TxFrame.inFlight ≤ 1

/-- A station that does not send has an empty transmit queue (R79, R83, R84). -/
def SilentEmpty (s : State) : Prop := s.sending = false → s.line.tx = []

/-- Every TAKEN item names the open visit (R156). -/
def takenByOpen (s : State) (it : Item) : Prop := ∀ n, it.taken = some n → s.visits.current.map Visit.number = some n

/-- The work queue holds at most 24 items, no two of one kind and target, and every TAKEN item names the open visit (R156). -/
def ItemsSound (s : State) : Prop :=
  s.queue.items.length ≤ 24
    ∧ s.queue.items.Pairwise (fun a b => (a.kind, a.target) ≠ (b.kind, b.target))
    ∧ ∀ it ∈ s.queue.items, takenByOpen s it

/-- At most four entries stand in the claim list, in key order, no two of one claimant (R112). -/
def ClaimListSound (s : State) : Prop :=
  s.claims.list.length ≤ 4
    ∧ s.claims.list.Pairwise (fun a b => a.station ≠ b.station)
    ∧ s.claims.list.Pairwise (fun a b => a.key ≤ b.key)

/-- The consent is what R114 gives on the state as it stands (R115). -/
def ConsentCurrent (s : State) : Prop := s.claims.consent = consentOf s

/-- Every follow condition is as its owner's state has it (R163). -/
def ConditionsFollow (s : State) : Prop := s.monitor.active = followed s

/-- A pulse waits only while one of the other kind is asserted (R129). -/
def PulsesSound (s : State) : Prop :=
  match s.bypass.waitingPulse with
  | none => True
  | some k => ∃ p, s.bypass.pulse = some p ∧ p.kind ≠ k

/-- The own entry of the peer table is EMPTY (R88). -/
def OwnEntryEmpty (s : State) : Prop := (s.peer s.id.station).state = .empty

/-- Wear and residue lie in their ranges, and a saturated string's residue is 0 (R18, R19). -/
def wearInRange (wear residue : Nat) : Prop := wear ≤ 1000000 ∧ residue < 921600 ∧ (wear = 1000000 → residue = 0)

/-- A page's content keeps the bounds of R18 and R19. -/
def contentInRange : PageContent → Prop
  | .cabinet _ => True
  | .string p => wearInRange p.wear p.residue
  | .queue _ => True

/-- Wear and residue lie in their ranges in every account and in every page of the serial memory and of a write (R18, R19). -/
def WearSound (s : State) : Prop :=
  (∀ a ∈ s.accounts.strings, wearInRange a.wear a.residue)
    ∧ (∀ c, some c ∈ s.port.areas → contentInRange c)
    ∧ (∀ w, s.port.writing = some w → contentInRange w.content)

/-- A part that does not run has every block at its start value, but for the straps read, the line state, the pins, the serial
memory and the waiting commands (R175, and R170 for CONFIG_FAULT). -/
def IdleAtStart (s : State) : Prop :=
  s.running = false →
    s = { State.blocksAtStart s.held s.pins s.port.areas s.free s.pending with
          id := s.id, line := { Line.start with state := s.line.state } }

/-- CLAIM_CONFLICT is active exactly while the conflict latch is set (R121). -/
def ConflictLatched (s : State) : Prop := s.monitor.active.claimConflict = s.claims.latch

/-- The mains is lost exactly while a DISCHARGE frame stands or the discharge deferral is set, and the deferral is set only over a
WITHDRAWAL frame (R42, R125, R126). -/
def DischargeSound (s : State) : Prop :=
  legalFrames s.stack.frames = true
    ∧ (s.bypass.mains = .lost ↔ s.hasDischarge = true ∨ s.stack.dischargeDeferred = true)
    ∧ (s.stack.dischargeDeferred = true → s.hasWithdrawal = true)

/-- A CLAIMING claim whose kind is inhibited or that is outranked in the list (R118). -/
def mustYield (s : State) : Bool :=
  match s.claims.own with
  | none => false
  | some c => !c.holding && (outranked s c.kind || s.monitor.active.inhibitsClaim c.kind)

/-- Nothing is left due at the end of an event: no commit, no equalize start, no claim of a waiting or latched test or of the
key, no yield, and no TEST frame that a condition or its own support check aborts (R57, R60, R61, R67, R102, R116, R118, R146). -/
def NothingDue (s : State) : Prop :=
  commitReady s = false ∧ equalizeReady s = false ∧ waitingReady s = false ∧ testClaimReady s = false
    ∧ keyClaimReady s = false ∧ mustYield s = false
    ∧ (s.hasTest = true → testBarred s = false ∧ supports .test s s.id.station = true)

/-! ## The end of an event

An event's own effect leaves a state `u`; the end of the event leads from `u` to the state `t` it answers. -/

/-- What the end of an event cannot change: everything of `u` but the frames and the settle flag, the claim controller, the latches,
the accounts with the work queue, the pulses, the open visit's fields, the active conditions, the frames handed to the transmit
queue, and the write list with its page states. -/
def Aftermath (u t : State) : Prop :=
  t = { u with
    accounts := { t.accounts with second := u.accounts.second }
    stack := { u.stack with frames := t.stack.frames, settle := t.stack.settle }
    cond := { t.cond with equalizeDue := u.cond.equalizeDue }
    line := { u.line with tx := t.line.tx, displaced := t.line.displaced, drops := t.line.drops }
    claims := t.claims
    bypass := { u.bypass with pulse := t.bypass.pulse, waitingPulse := t.bypass.waitingPulse }
    visits := { u.visits with current := t.visits.current }
    queue := t.queue
    monitor := { u.monitor with active := t.monitor.active }
    port := { u.port with states := t.port.states, list := t.port.list, writing := t.port.writing }
    free := t.free }

/-- No claim, test, latch, waiting test or held request stands, and no equalize that STRING_HOT would abort. -/
def Quiet (u : State) : Prop :=
  u.claims.own = none ∧ u.hasTest = false ∧ u.cond.latch = none ∧ u.cond.testLatch = false ∧ u.cond.waiting = false
    ∧ u.visits.requestHeld = false ∧ (u.hasEqualize = true → u.monitor.hot.any id = false)

/-- With nothing standing that an event could further, its end takes the follow conditions and the consent anew, may queue a
STATUS, and begins page writes; everything else of `u` stays. -/
def QuietAftermath (u t : State) : Prop :=
  t = { u with
    claims := { u.claims with consent := t.claims.consent }
    line := { u.line with tx := t.line.tx, drops := t.line.drops }
    monitor := { u.monitor with active := followed u }
    port := { u.port with states := t.port.states, list := t.port.list, writing := t.port.writing } }

/-- The state `t` is `u` after the end of an event. -/
def After (u t : State) : Prop := Aftermath u t ∧ (Quiet u → QuietAftermath u t)

/-! ## Requests -/

/-- A request is one that a station serves: from a terminal, at a station that receives and sends, and not a repeat (R85, R86). -/
def Servable (term : Nat) (code tag : Byte) (args : List Byte) (s : State) : Prop :=
  isTerminal term = true ∧ s.receiving = true ∧ s.sending = true ∧ storedResult term (code :: tag :: args) s = none

/-- The request has been counted and its RESULT stored in the terminal's slot (R76, R86). -/
def answered (term : Nat) (code tag : Byte) (args : List Byte) (r : Byte) (data : List Byte) (s : State) : State :=
  { s with line := { s.line with
      received := inc16 s.line.received
      answers := { term := term, request := code :: tag :: args, result := code :: tag :: r :: data }
        :: s.line.answers.filter fun a => a.term != term } }

/-- The fourteen requests with the code and the number of argument bytes of each (5.9.4). -/
def requestForms (term : Nat) (tag : Byte) (args : List Byte) : List (Instr × Byte × Nat) :=
  [(.visitOpen term tag args, 1#8, 4), (.visitClose term tag args, 2#8, 2), (.itemTake term tag args, 3#8, 2),
   (.itemDone term tag args, 4#8, 2), (.itemReturn term tag args, 5#8, 2), (.withdraw term tag args, 6#8, 2),
   (.returnRequest term tag args, 7#8, 0), (.testNow term tag args, 8#8, 0), (.equalizeNow term tag args, 9#8, 0),
   (.stop term tag args, 10#8, 0), (.clear term tag args, 11#8, 2), (.forget term tag args, 12#8, 1),
   (.read term tag args, 13#8, 2), (.restart term tag args, 14#8, 0)]

/-- An item of a kind and target stands in the queue with at least a severity. -/
def HasItem (k : ItemKind) (t : Target) (severity : Nat) (s : State) : Prop :=
  ∃ it ∈ s.queue.items, it.kind = k ∧ it.target = t ∧ severity ≤ it.severity

/-- The frame that a WITHDRAWAL may stand on: nothing, or one EQUALIZE (R38). -/
def equalizeAtMost : List Frame → Bool
  | [] => true
  | [.equalize _] => true
  | _ => false

/-- The RESULT for a request, as the line controller takes it (R85). -/
def resultFrame (term : Nat) (code tag : Byte) (r : Byte) (data : List Byte) : TxFrame :=
  newFrame .result term (code :: tag :: r :: data)

/-- A request has been refused with a result code: its RESULT is stored and handed over, and the owning block does nothing. -/
def Refused (term : Nat) (code tag : Byte) (args : List Byte) (r : Byte) (s t : State) : Prop :=
  After (answered term code tag args r [] s) t
    ∧ (Quiet s → s.line.tx.length < 6 → resultFrame term code tag r [] ∈ t.line.tx)

/-! ## Tests -/

/-- Nothing aborts a TEST frame: no condition that does is active, and the own test check passes (R67, R102). -/
def TestStands (s : State) : Prop :=
  ConditionsFollow s ∧ testBarred s = false ∧ supports .test s s.id.station = true

/-- What a TEST frame counts for its strings after a sample, each against its reference charge (R62, R63 steps 1 and 2). -/
def afterSample (cfg : Settings) (bs : List BurstString) (qs : List TestString) : List TestString :=
  (List.zip bs qs).zipIdx.map fun e =>
    let qt := if e.1.1.current < 0 then min 4294967295 (e.1.2.qt + e.1.1.current.natAbs) else e.1.2.qt
    { qt := qt, reached := e.1.2.reached || decide ((rawString cfg e.2).ratedAh * 36000 * cfg.testReference / 1000 ≤ qt) }

/-- A test has ended with a result on what its strings had counted: the frame and its timer are gone, the claim is released, the schedule
has moved on, and every string's record is taken (R45, R64, R65; due hours saturate, assumption 21). -/
def TestEnded (result : TestResult) (qs : List TestString) (s t : State) : Prop :=
  t.hasTest = false ∧ t.cond.testSecond = none ∧ t.claims.own = none ∧ t.claims.spacing = some 50
    ∧ t.cond.testDue = (if s.cfg.testInterval = 0 then 0 else min 1000000 (s.clock.hours + s.cfg.testInterval))
    ∧ t.cond.testLatch = false ∧ t.cond.overdueRaised = false
    ∧ ∀ (i : Nat) (a : Account), s.accounts.strings[i]? = some a →
      let qt := (qs[i]?.map TestString.qt).getD 0
      ∃ b, t.accounts.strings[i]? = some b ∧ b.lastTest = result ∧ b.testCharge = qt ∧ b.testEndHour = s.clock.hours
        ∧ b.measured = (if result = .passed then 100
            else min 100 (qt * 100 / ((stringSettings s i).ratedAh * 36000 * s.cfg.testReference / 1000)))

/-! ## The breaker -/

/-- The bypass controller once a pulse of a kind has been asked for: issued at once, made to wait behind a pulse of the other kind, or already
there (R129). -/
def pulseAsked (k : PulseKind) (b : Bypass) : Bypass :=
  match b.pulse with
  | none => { b with pulse := some { kind := k, left := 5 } }
  | some p => if p.kind = k ∨ b.waitingPulse = some k then b else { b with waitingPulse := some k }

/-- An event has left the WITHDRAWAL frame as `w`, from a state `u` before its end: nothing differs from `u` but what the end of an event
changes, the bypass controller stands as in `u`, a HOLDING claim stays, and the frame is `w`, unless a held request gives it an owner
(R146). -/
def WithdrawalIs (w : WithdrawalFrame) (u t : State) : Prop :=
  After u t ∧ t.bypass = u.bypass ∧ (u.holding = true → t.claims.own = u.claims.own)
    ∧ (w.owner ≠ none ∨ u.visits.requestHeld = false → t.withdrawal? = some w)

/-- An event that began in `s` has removed the WITHDRAWAL frame `w`, and has left `u` before its end: no such frame stands, a DISCHARGE frame
stands if it was deferred (R42, R44), the claim of a CLAIMED frame is released with its spacing and leaves its last result (R45, R119, R120), and
nothing else differs from `u`, but where the removal closes the key visit that owned the frame and waited for it (R154). -/
def WithdrawalRemoved (w : WithdrawalFrame) (s u t : State) : Prop :=
  let closesVisit := ∃ v, s.visits.current = some v ∧ w.owner = some v.number ∧ v.origin = .key ∧ v.closePending = true
  t.hasWithdrawal = false ∧ t.hasDischarge = s.stack.dischargeDeferred ∧ t.bypass = u.bypass
    ∧ (w.origin = .claimed → t.claims.own = none ∧ t.claims.spacing = some 50 ∧ t.claims.last = s.claims.last)
    ∧ (¬closesVisit → Aftermath { u with stack := { u.stack with dischargeDeferred := false } } t)

/-- The WITHDRAWAL frame `w` is CLAIMED with its claim HOLDING, or it is not and no own claim stands (R45). -/
def ClaimedOrFree (w : WithdrawalFrame) (s : State) : Prop :=
  w.origin = .claimed ∧ s.holding = true ∨ w.origin ≠ .claimed ∧ s.claims.own = none

/-- The contacts show a confirmed position: it is taken, the disagree timer stops, and an operation is counted after the other
confirmed position (R128, R138). -/
def breakerTaken (closed : Bool) (s : State) : State :=
  let t : State := { s with
    pins := { s.pins with mbpCl := closed, mbpOp := !closed }
    bypass := { s.bypass with position := if closed then .closed else .opened, disagree := none } }
  let t := if s.bypass.confirmed = (if closed then .opened else .closed) then countOperation t else t
  { t with bypass := { t.bypass with confirmed := if closed then .closed else .opened } }

end Sys2Proof.Safety
end

