-- ==== Sys2Proof/Certificates/Slice0/Obligations.lean ====
section
/-! DEFINITION. The statements for the provers, in the order: the step, what every step keeps, the layouts, and then the
commands family by family. A statement about a command says that it answers a next state, what that state is, and what it
leaves: `After u t` says that nothing differs from `u` but what the end of an event changes (Sys2Proof/Safety.lean). -/

open Sys2Proof Sys2Proof.Machine Sys2Proof.Safety

/-! ## The step -/

/-- A step is `exec` on the command at the front, with the rest of the queue. -/
def Obligations.StepRunsTheFrontCommand : Prop :=
  ∀ (c : Instr) (rest : List Instr) (s : State), s.pending = c :: rest → step s = exec c { s with pending := rest }

/-- With no command waiting a step counts a tenth of a second of running time on every clock and timer, and counts nothing
while the part does not run. That it does so is the model's choice (assumption 2). -/
def Obligations.EmptyQueueCountsATenth : Prop :=
  ∀ s : State, s.pending = [] →
    ∃ t, step s = .next t
      ∧ (s.running = false → t = s)
      ∧ (s.running = true → t = { s with
          clock := { s.clock with tenths := s.clock.tenths + 1, hourTimer := s.clock.hourTimer.map (· - 1) }
          intake := { s.intake with second := s.intake.second.map (· - 1) }
          accounts := { s.accounts with second := s.accounts.second.map (· - 1) }
          stack := { s.stack with frames := tickFrames s.stack.frames }
          cond := { s.cond with testSecond := s.cond.testSecond.map (· - 1) }
          line := { s.line with
            statusTimer := s.line.statusTimer.map (· - 1), joiningTimer := s.line.joiningTimer.map (· - 1) }
          peers := s.peers.map tickPeer
          claims := { s.claims with
            window := s.claims.window.map (· - 1)
            spacing := s.claims.spacing.map (· - 1)
            list := s.claims.list.map fun e => { e with timer := e.timer.map (· - 1) } }
          bypass := { s.bypass with
            lossTimer := s.bypass.lossTimer.map (· - 1)
            qualTimer := s.bypass.qualTimer.map (· - 1)
            disagree := s.bypass.disagree.map (· - 1)
            recovery := s.bypass.recovery.map (· - 1)
            pulse := s.bypass.pulse.map fun p => { p with left := p.left - 1 } }
          visits := { s.visits with
            overdueTimer := s.visits.overdueTimer.map (· - 1), settleTimer := s.visits.settleTimer.map (· - 1) } })

/-- Every command has a next state, and leaves the commands that wait as they are: no event stops the part. -/
def Obligations.EveryCommandCompletes : Prop :=
  ∀ (c : Instr) (s : State), ∃ t, exec c s = .next t ∧ t.pending = s.pending

/-! ## What every step keeps -/

/-- The stack stands in one of the seven configurations of R38, HOLDING goes with a claimed activity's frame (R45), and the withdrawal
deferral is never of origin CLAIMED (R38). -/
def Obligations.StepKeepsStackSound : Prop := ∀ s t : State, StackSound s → step s = .next t → StackSound t

/-- The transmit queue keeps its bounds (R79, R80), and is empty at a station that does not send (R83, R84). -/
def Obligations.StepKeepsLineSound : Prop :=
  ∀ s t : State, QueueBounded s → SilentEmpty s → step s = .next t → QueueBounded t ∧ SilentEmpty t

/-- The work queue keeps the bounds of R156. -/
def Obligations.StepKeepsItemsSound : Prop := ∀ s t : State, ItemsSound s → step s = .next t → ItemsSound t

/-- The claim list keeps its bound, one entry a claimant, and its key order (R106, R112). -/
def Obligations.StepKeepsClaimListSound : Prop := ∀ s t : State, ClaimListSound s → step s = .next t → ClaimListSound t

/-- The consent is at every moment what R114 gives, and the conflict latch goes with CLAIM_CONFLICT (R115, R121). -/
def Obligations.StepKeepsConsentCurrent : Prop :=
  ∀ s t : State, ConsentCurrent s → ConflictLatched s → step s = .next t → ConsentCurrent t ∧ ConflictLatched t

/-- The follow conditions are at every moment as their owners' states have them (R163). -/
def Obligations.StepKeepsConditionsFollow : Prop :=
  ∀ s t : State, ConditionsFollow s → step s = .next t → ConditionsFollow t

/-- Each commit, start, claim, yield and abort that the rules make at the first moment their conditions hold has been made by the
end of every step. That the end of the event is where the model looks for them is its own choice (assumption 30). -/
def Obligations.StepLeavesNothingDue : Prop :=
  ∀ s t : State, NothingDue s → StackSound s → IdleAtStart s → step s = .next t → NothingDue t

/-- Wear and residue keep their ranges in every account and every page (R18, R19). -/
def Obligations.StepKeepsWearSound : Prop := ∀ s t : State, WearSound s → step s = .next t → WearSound t

/-- The own entry of the peer table stays EMPTY (R88), and a pulse waits only behind one of the other kind: MBPC and MBPO are not
asserted together (R129). -/
def Obligations.StepKeepsOwnEntryAndPulses : Prop :=
  ∀ s t : State, OwnEntryEmpty s → PulsesSound s → step s = .next t → OwnEntryEmpty t ∧ PulsesSound t

/-- The mains monitor, the DISCHARGE frame and the discharge deferral keep in step (R42, R125, R126). -/
def Obligations.StepKeepsDischargeSound : Prop := ∀ s t : State, DischargeSound s → step s = .next t → DischargeSound t

/-- A part that is held, starting or in CONFIG_FAULT keeps every block at its start value (R170, R175). That a reset clears the blocks
at once, and not only at the start that follows, is the model's choice (assumption 3). -/
def Obligations.StepKeepsIdleAtStart : Prop := ∀ s t : State, IdleAtStart s → step s = .next t → IdleAtStart t

/-- The state after reset, as assumption 3 has it, has every property that the steps keep. -/
def Obligations.ResetIsSound : Prop :=
  StackSound State.reset ∧ QueueBounded State.reset ∧ SilentEmpty State.reset ∧ ItemsSound State.reset
    ∧ ClaimListSound State.reset ∧ ConsentCurrent State.reset ∧ ConflictLatched State.reset ∧ ConditionsFollow State.reset
    ∧ NothingDue State.reset ∧ WearSound State.reset ∧ OwnEntryEmpty State.reset ∧ PulsesSound State.reset
    ∧ DischargeSound State.reset ∧ IdleAtStart State.reset

/-! ## Layouts -/

/-- A notice with every figure in its range is read back from its twelve bytes (5.9.3). -/
def Obligations.NoticeReadsBack : Prop :=
  ∀ n : Notice, n.group < 4 → n.consent ≤ 24 → n.minHealth ≤ 100 → n.level ≤ 3 → n.load < 65536 → n.rating < 65536 →
    n.energy < 65536 → (encodeNotice n).length = 12 ∧ decodeNotice (encodeNotice n) = some n

/-- A frame as a station sends it passes the seven checks at every station (R72, R76, R77): a MAINS, CLAIM or RELEASE of a kind, a
STATUS, and a RESULT or RECORD of a suitable length. -/
def Obligations.SentFramesAreValid : Prop :=
  ∀ (own other : Nat) (f : TxFrame), isStation own = true →
    (f.cls = .mains ∨ f.cls = .claim ∨ f.cls = .release) ∧ f.dest = 31 ∧ (f.payload = [1#8] ∨ f.payload = [2#8])
      ∨ f.cls = .status ∧ f.dest = 31 ∧ f.payload.length = 12 ∧ (decodeNotice f.payload).isSome = true
      ∨ f.cls = .result ∧ isTerminal f.dest = true ∧ 3 ≤ f.payload.length ∧ f.payload.length ≤ 12
      ∨ f.cls = .record ∧ 25 ≤ f.dest ∧ f.dest ≤ 31 ∧ f.payload.length = 12 →
    checkFrame other (f.wire own) = none

/-! ## Sample intake (chapter 1) -/

/-- The checks of a complete burst in their order, each with the one count it raises (R2). A discarded burst changes nothing else. -/
def Obligations.BurstChecks : Prop :=
  ∀ (bytes : List Byte) (extra : Nat) (s : State), s.running = true → extra < 8 →
    let malformed := extra ≠ 0 ∨ bytes.length < 11 ∨ 29 < bytes.length
    let badCrc := crc8 bytes.dropLast ≠ bytes.getLastD 0
    let other := bytes.headD 0 ≠ 0x5C#8 ∨ (bytes.getD 3 0).toNat ≠ s.cfg.stringCount
      ∨ bytes.length ≠ 5 + 6 * s.cfg.stringCount
    let shapeDiscard : Host.Outcome State Fault Refusal := .next
      { s with intake := { s.intake with shapeDiscards := min 65535 (s.intake.shapeDiscards + 1) } }
    (malformed → exec (.measurementBurst bytes extra false) s = shapeDiscard)
      ∧ (¬malformed → badCrc → exec (.measurementBurst bytes extra false) s = .next
          { s with intake := { s.intake with crcDiscards := min 65535 (s.intake.crcDiscards + 1) } })
      ∧ (¬malformed → ¬badCrc → other → exec (.measurementBurst bytes extra false) s = shapeDiscard)
      ∧ (¬malformed → ¬badCrc → ¬other → ∃ t, exec (.measurementBurst bytes extra false) s = .next t
          ∧ t.intake.accepted = min 65535 (s.intake.accepted + 1)
          ∧ t.intake.shapeDiscards = s.intake.shapeDiscards ∧ t.intake.crcDiscards = s.intake.crcDiscards)

/-- What the intake holds after an accepted burst, string by string, with the hot flags, and what the burst leaves (R3, R5, R6,
R8, R164). -/
def Obligations.AcceptedBurstIsHeld : Prop :=
  ∀ (bytes : List Byte) (load : Nat) (bs : List BurstString) (s : State), s.running = true →
    checkBurst s.cfg.stringCount bytes 0 = .accepted load bs →
    ∃ t, exec (.measurementBurst bytes 0 false) s = .next t
      ∧ Aftermath { s with intake := t.intake, monitor := { s.monitor with hot := t.monitor.hot } } t
      ∧ t.intake.burstAge = 0 ∧ t.intake.gap = false ∧ t.intake.second = s.intake.second
      ∧ (load = 65535 → t.intake.load = s.intake.load ∧ t.intake.loadAge = s.intake.loadAge
          ∧ t.intake.loadState = s.intake.loadState)
      ∧ (load ≠ 65535 → t.intake.load = load ∧ t.intake.loadAge = 0 ∧ t.intake.loadState = .valid)
      ∧ (∀ (i : Nat) (b : BurstString) (r : Reading), bs[i]? = some b → s.intake.readings[i]? = some r → t.intake.readings[i]? = some
          { voltage := b.voltage
            current := b.current
            present := true
            temp := if b.temp = -32768 then r.temp else b.temp
            tempAge := if b.temp = -32768 then r.tempAge else 0
            tempState := if b.temp = -32768 then r.tempState else .usable })
      ∧ (∀ (i : Nat) (b : BurstString) (h : Bool), bs[i]? = some b → s.monitor.hot[i]? = some h → t.monitor.hot[i]? = some
          (if b.temp = -32768 then h else if (s.cfg.hotLimit : Int) < b.temp then true
            else if b.temp < (s.cfg.hotLimit : Int) - 8 then false else h))

/-- The discharge events of a sample (R20 to R25): nothing in IDLE above the threshold, the start at it, charge and tail in an open
event, and at a tail of 30 the end with its wear, its count and, from depth 500, an equalize latch, which may start at once. -/
def Obligations.SampleRunsDischargeEvents : Prop :=
  ∀ (bytes : List Byte) (load : Nat) (bs : List BurstString) (s : State) (i : Nat) (a : Account) (b : BurstString),
    s.running = true → checkBurst s.cfg.stringCount bytes 0 = .accepted load bs → s.accounts.strings[i]? = some a →
    bs[i]? = some b →
    let draws := b.current ≤ -(s.cfg.dischargeThreshold : Int)
    let charge := if b.current < 0 then min 4294967295 (a.charge + b.current.natAbs) else a.charge
    let depth := min 1000 (charge * 1000 / ((stringSettings s i).ratedAh * 36000))
    let weight := if depth < 200 then 8 else if depth < 500 then 16 else if depth < 800 then 24 else 32
    let wear := min 1000000 (a.wear + s.cfg.cycleCost * depth * weight / 16000)
    ∃ t c, exec (.measurementBurst bytes 0 false) s = .next t ∧ t.accounts.strings[i]? = some c
      ∧ (a.event = .idle → ¬draws → c.event = .idle ∧ c.charge = a.charge ∧ c.tail = a.tail ∧ c.wear = a.wear
          ∧ c.residue = a.residue ∧ c.events = a.events)
      ∧ (a.event = .idle → draws → c.event = .inEvent ∧ c.charge = b.current.natAbs ∧ c.tail = 0 ∧ c.wear = a.wear
          ∧ c.residue = a.residue ∧ c.events = a.events)
      ∧ (a.event = .inEvent → draws ∨ a.tail < 29 → c.event = .inEvent ∧ c.charge = charge
          ∧ c.tail = (if draws then 0 else a.tail + 1) ∧ c.wear = a.wear ∧ c.residue = a.residue ∧ c.events = a.events)
      ∧ (a.event = .inEvent → ¬draws → a.tail = 29 → c.event = .idle ∧ c.charge = 0 ∧ c.tail = 0 ∧ c.wear = wear
          ∧ c.residue = (if wear = 1000000 then 0 else a.residue) ∧ c.events = min 65535 (a.events + 1)
          ∧ (500 ≤ depth → t.cond.latch.isSome = true ∨ t.hasEqualize = true))

/-- The intake second (R4): every age rises by one, the limits of R5, R6 and R8 are applied to the new ages, and each string that
enters LOST and a gap that begins raise their SENSOR_CHECK items, in ascending order of the strings (assumption 11). -/
def Obligations.IntakeSecondAges : Prop :=
  ∀ s : State, s.intake.second.isSome = true →
    let age (n : Nat) : Nat := min 255 (n + 1)
    let lost := (s.intake.readings.zipIdx.filter fun r => r.1.tempState != .lost && decide (60 < age r.1.tempAge)).map Prod.snd
    let aged : State := { s with intake := { s.intake with
      burstAge := age s.intake.burstAge
      gap := s.intake.gap || decide (5 < age s.intake.burstAge)
      loadAge := age s.intake.loadAge
      loadState := if 5 < age s.intake.loadAge then .degraded else s.intake.loadState
      readings := s.intake.readings.map fun r =>
        { r with tempAge := age r.tempAge, tempState := if 60 < age r.tempAge then .lost else r.tempState }
      second := some 10 } }
    let raised := lost.foldl (fun u i => raiseItem .sensorCheck (.string i) 2 u) aged
    ∃ t, exec .intakeSecondTimerExpiry s = .next t
      ∧ After (if s.intake.gap = false ∧ 5 < age s.intake.burstAge then raiseItem .sensorCheck .nothing 2 raised else raised) t

/-! ## String accounts (chapter 2) -/

/-- The accounting temperature of a configured string (R7). -/
def Obligations.AccountingTemperature : Prop :=
  ∀ (s : State) (i : Nat) (r : Reading), s.intake.readings[i]? = some r →
    (r.tempState = .usable → s.intake.gap = false → accountingTemp s i = r.temp)
      ∧ (r.tempState ≠ .usable ∨ s.intake.gap = true → accountingTemp s i = 180)

/-- The temperature factor between 5.0 °C and 65.0 °C (R15). -/
def Obligations.FactorFollowsTheLine : Prop :=
  ∀ t : Int, 20 ≤ t → t ≤ 260 → ∃ k f : Int, t - 100 = 40 * k + f ∧ 0 ≤ f ∧ f ≤ 39 ∧
    let m := 256 + 256 * f.toNat / 40
    256 ≤ m ∧ m ≤ 505 ∧ (0 ≤ k → tempFactor t = m * 2 ^ k.toNat)
      ∧ (k < 0 → tempFactor t = (fun n => n / 2)^[(-k).toNat] m)

/-- The temperature factor outside that span, at its ends, and its range everywhere (R16). -/
def Obligations.FactorIsClamped : Prop :=
  (∀ t : Int, t < 20 → tempFactor t = 64) ∧ (∀ t : Int, 260 < t → tempFactor t = 4096)
    ∧ tempFactor 20 = 64 ∧ tempFactor 260 = 4096 ∧ ∀ t : Int, 64 ≤ tempFactor t ∧ tempFactor t ≤ 4096

/-- A wear second on every configured string (R14, R17 to R19): the increment, the carry, and the bound, with the page marked dirty
when the account changes. The account's event, count and install hour stay. -/
def Obligations.WearSecondCountsTime : Prop :=
  ∀ s : State, s.accounts.second.isSome = true →
    ∃ t, exec .wearSecondTimerExpiry s = .next t
      ∧ Aftermath { s with accounts := { s.accounts with second := some 10 } } t
      ∧ ∀ (i : Nat) (a : Account), s.accounts.strings[i]? = some a →
        let inc := (if s.equalizeTop then 2 else 1) * tempFactor (accountingTemp s i)
        let sum := a.residue + inc
        ∃ b, t.accounts.strings[i]? = some b
          ∧ (1000000 ≤ a.wear → b.wear = a.wear ∧ b.residue = 0)
          ∧ (a.wear < 1000000 → sum < 921600 → b.wear = a.wear ∧ b.residue = sum)
          ∧ (a.wear < 1000000 → 921600 ≤ sum →
              b.wear = a.wear + 1 ∧ b.residue = if a.wear + 1 = 1000000 then 0 else sum - 921600)
          ∧ b.event = a.event ∧ b.charge = a.charge ∧ b.tail = a.tail ∧ b.events = a.events
          ∧ b.installHour = a.installHour
          ∧ (s.port.states.length = 8 → i < 4 → (b.wear ≠ a.wear ∨ b.residue ≠ a.residue) →
              pageState (.string i) t ≠ .clean)

/-- Depth and weight of an event, and the bound of its wear (R23, R24). -/
def Obligations.DepthAndWeight : Prop :=
  ∀ q rated cost : Nat, 1 ≤ rated → rated ≤ 65535 → q ≤ 4294967295 → cost ≤ 4095 →
    let d := depthOf (rated * 36000) q
    d = min 1000 (q * 1000 / (rated * 36000))
      ∧ (q = 4294967295 → d = 1000)
      ∧ (q < rated * 36 → d = 0)
      ∧ (d < 200 → weightOf d = 8) ∧ (200 ≤ d → d < 500 → weightOf d = 16) ∧ (500 ≤ d → d < 800 → weightOf d = 24)
      ∧ (800 ≤ d → weightOf d = 32)
      ∧ dischargeWear cost d = cost * d * weightOf d / 16000 ∧ dischargeWear cost d ≤ 8190

/-- A health recompute of one string (R28 to R30, R32, R33): its health, available charge and crossing flags, the energy, and the
item of a threshold newly crossed, a replacement before a review. Nothing else changes but the page states. -/
def Obligations.RecomputeCrossesThresholds : Prop :=
  ∀ (s : State) (i : Nat) (a : Account), s.accounts.strings[i]? = some a →
    let life := s.cfg.designLife
    let h := min ((life - min a.wear life) * 100 / life) a.measured
    let b : Account := { a with
      health := h
      available := (stringSettings s i).ratedAh * h / 100
      reviewCrossed := decide (h ≤ s.cfg.reviewThreshold)
      replaceCrossed := decide (h ≤ s.cfg.replaceThreshold) }
    let all := s.accounts.strings.set i b
    let u : State := { s with accounts := { s.accounts with
      strings := all
      energy := min 65535 ((List.zipWith (fun x c => x.available * c.nominalV) all s.cfg.strings).sum / 100) } }
    let v := if b.reviewCrossed = a.reviewCrossed ∧ b.replaceCrossed = a.replaceCrossed then u else markDirty (.string i) u
    recompute i s =
      if b.replaceCrossed = true ∧ a.replaceCrossed = false then raiseItem .stringReplace (.string i) 3 v
      else if b.reviewCrossed = true ∧ a.reviewCrossed = false then raiseItem .stringReview (.string i) 1 v
      else v

/-! ## Conditioning (chapters 3 and 4) -/

/-- The minute of a running equalize (R47, R58): the decrement, or at the last minute the pop with the schedule moved on. That the
due hour stops at 1,000,000 is assumption 21. -/
def Obligations.EqualizeMinuteCounts : Prop :=
  ∀ (s : State) (f : EqualizeFrame) (rest : List Frame), s.stack.frames = .equalize f :: rest →
    (2 ≤ f.remaining → ∃ t, exec .equalizeMinuteTimerExpiry s = .next t
      ∧ After { s with
          stack := { s.stack with frames := .equalize { f with remaining := f.remaining - 1, minute := 0 } :: rest }
          cond := { s.cond with remainingField := f.remaining - 1 } } t
      ∧ (s.port.states.length = 8 → pageState .cabinet t ≠ .clean))
    ∧ (f.remaining ≤ 1 → rest = [] → ∃ t, exec .equalizeMinuteTimerExpiry s = .next t
      ∧ After { s with
          stack := { s.stack with frames := [], settle := s.stack.settle || s.line.state != .muted }
          cond := { s.cond with
            remainingField := 0
            equalizeDue := if s.cfg.equalizeInterval = 0 then 0
              else min 1000000 (s.clock.hours + s.cfg.equalizeInterval)
            latch := s.cond.latch.filter fun l => l.origin != .schedule } } t
      ∧ (s.port.states.length = 8 → pageState .cabinet t ≠ .clean))

/-- The run of a test (R62 to R65): its second counts, and at the limit ends it ENDED; a sample adds its charges, ends it PASSED once every
string has reached its reference, ends it ENDED at a string's end voltage, and otherwise leaves it running. The sample is one that does not
bar the test at once: of one that does, assumption 8 leaves open whether the test takes it. Due hours saturate (assumption 21). -/
def Obligations.TestRunIsCounted : Prop :=
  ∀ (s : State) (f : TestFrame), s.stack.frames = [.test f] → s.holding = true →
    (s.cond.testSecond.isSome = true →
      (f.elapsed + 1 < s.cfg.testLimit * 60 → TestStands s → ∃ t, exec .testSecondTimerExpiry s = .next t
        ∧ Aftermath { s with cond := { s.cond with testSecond := some 10 } } t
        ∧ t.stack.frames = [.test { f with elapsed := f.elapsed + 1 }] ∧ t.cond.testSecond = some 10
        ∧ t.claims.own = s.claims.own)
      ∧ (s.cfg.testLimit * 60 ≤ f.elapsed + 1 → ∃ t, exec .testSecondTimerExpiry s = .next t
        ∧ Aftermath s t ∧ TestEnded .ended f.strings s t))
    ∧ ∀ (bytes : List Byte) (load : Nat) (bs : List BurstString), s.running = true →
      checkBurst s.cfg.stringCount bytes 0 = .accepted load bs → f.strings.length = bs.length →
      barsTest bs (sampleAccounts bs { s with intake := takeBurst load bs s.intake }) = false →
      let qs := afterSample s.cfg bs f.strings
      let spent := ∃ (i : Nat) (b : BurstString), bs[i]? = some b ∧ b.voltage ≤ (stringSettings s i).endVoltage
      ∃ t, exec (.measurementBurst bytes 0 false) s = .next t
        ∧ ((∀ q ∈ qs, q.reached = true) → TestEnded .passed qs s t)
        ∧ (¬(∀ q ∈ qs, q.reached = true) → spent → TestEnded .ended qs s t)
        ∧ (¬(∀ q ∈ qs, q.reached = true) → ¬spent → TestStands s → t.stack.frames = [.test { f with strings := qs }]
            ∧ t.cond.testSecond = s.cond.testSecond ∧ t.claims.own = s.claims.own)

/-! ## The floor line (chapter 5) -/

/-- At the next idle the oldest frame of the lowest class goes in flight, if the station sends, is synchronised and has none in
flight (R73, R74, R79); otherwise nothing changes (assumption 1). -/
def Obligations.LowestClassOldestStarts : Prop :=
  (∀ (s : State) (place : Nat) (f : TxFrame), s.sending = true → s.line.synchronised = true →
    (∀ g ∈ s.line.tx, g.inFlight = false) → s.line.tx[place]? = some f → (∀ g ∈ s.line.tx, f.cls.code ≤ g.cls.code) →
    (∀ (j : Nat) (g : TxFrame), j < place → s.line.tx[j]? = some g → g.cls ≠ f.cls) →
    exec .frameStart s = .next { s with line := { s.line with tx := s.line.tx.set place { f with inFlight := true } } })
  ∧ ∀ s : State, s.sending = false ∨ s.line.synchronised = false ∨ s.line.tx = []
      ∨ s.line.tx.any TxFrame.inFlight = true → exec .frameStart s = .next s

/-- A frame that loses arbitration stays, but for a STATUS while a newer one waits (R74, R80); an abandoned frame leaves (R75), and
a CLAIM of the claim now standing is handed over afresh (R109; at once, as assumption 15 has it). -/
def Obligations.FrameNotSent : Prop :=
  ∀ (s : State) (place : Nat) (f : TxFrame), s.line.tx[place]? = some f → f.inFlight = true →
    (∀ (j : Nat) (g : TxFrame), j < place → s.line.tx[j]? = some g → g.inFlight = false) →
    (∀ c, s.claims.own = some c → c.owed = false) →
    exec .arbitrationLoss s = .next { s with line := { s.line with
        tx := if f.cls = .status ∧ s.line.tx.any TxFrame.isWaitingStatus = true then s.line.tx.eraseIdx place
          else s.line.tx.set place { f with inFlight := false }
        losses := min 65535 (s.line.losses + 1) } }
    ∧ (f.cls ≠ .claim ∨ f.fresh = false ∨ s.claims.own = none → exec .frameAbandoned s = .next { s with line := { s.line with
        tx := s.line.tx.eraseIdx place, abandoned := min 65535 (s.line.abandoned + 1) } })
    ∧ ∀ c, f.cls = .claim → f.fresh = true → s.claims.own = some c → c.holding = false → s.claims.window.isSome = true →
        s.sending = true → s.line.tx.length ≤ 6 →
        exec .frameAbandoned s = .next { s with line := { s.line with
          tx := s.line.tx.eraseIdx place ++ [newFrame .claim 31 [match c.kind with | .withdraw => 1#8 | .test => 2#8]]
          abandoned := min 65535 (s.line.abandoned + 1) } }

/-- A frame sent to its end leaves the queue and is counted; a STATUS starts the status timer again and, built after the settle flag
was last set, clears it; the CLAIM of the claim now standing announces it (R50, R75, R81, R109). From then on the STATUS of a member puts
its source into the heard set, and before that it does not (R109). -/
def Obligations.FrameSentIsReported : Prop :=
  (∀ (s : State) (place : Nat) (f : TxFrame), s.line.tx[place]? = some f → f.inFlight = true →
    (∀ (j : Nat) (g : TxFrame), j ≠ place → s.line.tx[j]? = some g → g.inFlight = false) →
    let still := s.hasTest = false ∧ (s.hasEqualize = true → s.monitor.hot.any id = false)
    ∃ t, exec .frameSent s = .next t
      ∧ After { s with
          line := { s.line with
            tx := s.line.tx.eraseIdx place
            sent := min 65535 (s.line.sent + 1)
            statusTimer := if f.cls = .status then some 10 else s.line.statusTimer }
          stack := { s.stack with settle := s.stack.settle && !(f.cls == .status && f.fresh) }
          claims := { s.claims with own :=
            if f.cls = .claim ∧ f.fresh = true then s.claims.own.map fun c => { c with announced := true }
            else s.claims.own } } t
      ∧ (∀ g ∈ t.line.tx, g.inFlight = false)
      ∧ (Quiet s → ConditionsFollow s → ConsentCurrent s → t.line.tx = s.line.tx.eraseIdx place)
      ∧ (f.cls = .status → f.fresh = true → still → t.stack.settle = false)
      ∧ ∀ c, f.cls = .claim → f.fresh = true → s.claims.own = some c → c.holding = false → c.owed = false → still →
          ConditionsFollow s → ConsentCurrent s → mustYield s = false →
          (∃ e ∈ memberPeers s, e.2.state = .live ∧ e.1 ∉ c.heard) →
          t.claims.own = some { c with announced := true } ∧ t.line.tx = s.line.tx.eraseIdx place)
  ∧ ∀ (s : State) (source : Nat) (payload : List Byte) (n : Notice) (c : OwnClaim), s.receiving = true →
    isStation source = true → source ≠ s.id.station → source ≤ s.peers.length → decodeNotice payload = some n →
    n.group = s.id.group → s.claims.own = some c →
    let heard := if c.announced = true ∧ source ∉ c.heard then source :: c.heard else c.heard
    ∃ t, exec (.statusReceived source payload) s = .next t
      ∧ (∀ d, t.claims.own = some d → d.heard = heard)
      ∧ (c.kind = .withdraw → c.holding = false → c.owed = false → n.claim = none → n.consent ≠ s.id.station →
          ConditionsFollow s → mustYield s = false → t.claims.own = some { c with heard := heard })

/-- The seven checks of a received frame in their order, each with the one count it raises, the line errors, and the loss of
synchronisation, which the model takes from any end bits that are not all recessive (R73, R76, R78, assumption 18). -/
def Obligations.RejectedFrameIsCounted : Prop :=
  ∀ (s : State) (f : RxFrame), s.receiving = true → f.wellFormed = true →
    let cls := f.cls.toNat
    let n := min 65535 (s.monitor.lineErrors + 1)
    let monitor : Monitor := { s.monitor with
      lineErrors := n
      active := { s.monitor.active with lineErrors := s.monitor.active.lineErrors || n == 16 } }
    let unframed := 12 < f.len.toNat ∨ f.ends ≠ 7#3
    let badCrc := f.crc ≠ crc16 (coveredBits f)
    let noClass := 6 < cls
    let badLength := lengthSuits cls f.len.toNat = false
    let badAddress := addressSuits s.id.station cls f.src.toNat f.dst.toNat = false
    let badContent := contentSuits cls f.payload = false
    let lengthFailure : State := { s with
      monitor := monitor
      line := { s.line with lengthFailures := min 65535 (s.line.lengthFailures + 1) } }
    let contentDiscard : State := { s with
      line := { s.line with contentDiscards := min 65535 (s.line.contentDiscards + 1) } }
    (unframed → exec (.frameRejected f) s = .next { lengthFailure with line := { lengthFailure.line with
        synchronised := s.line.synchronised && f.ends == 7#3 } })
      ∧ (¬unframed → badCrc → exec (.frameRejected f) s = .next { s with
          monitor := monitor
          line := { s.line with crcFailures := min 65535 (s.line.crcFailures + 1) } })
      ∧ (¬unframed → ¬badCrc → noClass → exec (.frameRejected f) s = .next contentDiscard)
      ∧ (¬unframed → ¬badCrc → ¬noClass → badLength → exec (.frameRejected f) s = .next lengthFailure)
      ∧ (¬unframed → ¬badCrc → ¬noClass → ¬badLength → badAddress → exec (.frameRejected f) s = .next { s with
          line := { s.line with addressDiscards := min 65535 (s.line.addressDiscards + 1) } })
      ∧ (¬unframed → ¬badCrc → ¬noClass → ¬badLength → ¬badAddress → badContent →
          exec (.frameRejected f) s = .next contentDiscard)

/-- Synchronisation, and the count of a valid RESULT or RECORD, on which no block acts (R73, R77). -/
def Obligations.ReceiverCounts : Prop :=
  (∀ s : State, s.running = true →
    exec .lineSynchronised s = .next { s with line := { s.line with synchronised := true } })
  ∧ ∀ s : State, s.receiving = true →
    exec .resultRecordReceived s = .next { s with line := { s.line with received := min 65535 (s.line.received + 1) } }

/-- The status timer builds a STATUS and starts again, and a STATUS replaces the one that waits, joins a queue with room, or is
dropped and counted (R80, R81); and a change of mode, claim or consent queues a STATUS with the new value (R82). -/
def Obligations.StatusNoticesAreQueued : Prop :=
  (∀ s : State, s.line.statusTimer.isSome = true → s.sending = true →
    let f := newFrame .status 31 (encodeNotice (buildNotice s))
    (s.line.tx.any TxFrame.isWaitingStatus = true → exec .statusTimerExpiry s = .next { s with line := { s.line with
        statusTimer := some 10, tx := s.line.tx.map fun g => if g.isWaitingStatus then f else g } })
    ∧ (s.line.tx.any TxFrame.isWaitingStatus = false → s.line.tx.length < 6 →
        exec .statusTimerExpiry s = .next { s with line := { s.line with
          statusTimer := some 10, tx := s.line.tx ++ [f] } })
    ∧ (s.line.tx.any TxFrame.isWaitingStatus = false → 6 ≤ s.line.tx.length →
        exec .statusTimerExpiry s = .next { s with line := { s.line with
          statusTimer := some 10, drops := min 65535 (s.line.drops + 1) } }))
  ∧ ∀ before s : State, s.sending = true → (s.mode ≠ before.mode ∨ announcedClaim s ≠ announcedClaim before
        ∨ s.claims.consent ≠ before.claims.consent) →
      (s.line.tx.any TxFrame.isWaitingStatus = true ∨ s.line.tx.length < 6) →
      ∃ f ∈ (announceChange before s).line.tx, f.isWaitingStatus = true ∧ f.payload = encodeNotice (buildNotice s)

/-- The end of JOINING (R83, R135): ACTIVE, or MUTED as before; a closed breaker is adopted, or its push deferred under a
DISCHARGE. -/
def Obligations.JoiningEnds : Prop :=
  ∀ s : State, s.line.joiningTimer.isSome = true → s.line.state = .joining ∨ s.line.state = .muted →
    let u : State := { s with line := { s.line with
      joiningTimer := none, state := if s.line.state = .joining then .active else .muted } }
    let adopted : Frame := .withdrawal
      { pushed := s.now, origin := .adopted, phase := .withdrawn, owner := none, returnRequested := false, timer := none }
    ∃ t, exec .joiningTimerExpiry s = .next t
      ∧ (s.bypass.position ≠ .closed → After u t)
      ∧ (s.bypass.position = .closed → equalizeAtMost s.stack.frames = true →
          After { u with stack := { s.stack with frames := adopted :: s.stack.frames } } t)
      ∧ (s.bypass.position = .closed → s.hasDischarge = true →
          After { u with stack := { s.stack with
            withdrawalDeferred := some (s.stack.withdrawalDeferred.getD .adopted) } } t)

/-- A second station with the own number mutes the station (R84, R122): DUPLICATE_ID, an empty queue, a stopped status timer, a clear
settle flag, no consent, and a CLAIMING claim ABANDONED; a station already MUTED only counts the frame. -/
def Obligations.DuplicateMutes : Prop :=
  ∀ s : State, s.receiving = true →
    let counted := min 65535 (s.line.received + 1)
    (s.sending = false → exec .duplicateNumberHeard s = .next { s with line := { s.line with received := counted } })
    ∧ (s.sending = true → ∃ t, exec .duplicateNumberHeard s = .next t
        ∧ After { s with
            line := { s.line with state := .muted, tx := [], statusTimer := none, received := counted }
            stack := { s.stack with settle := false }
            monitor := { s.monitor with active := { s.monitor.active with duplicateId := true } }
            claims := match s.claims.own with
              | none => s.claims
              | some c => if c.holding then s.claims else { s.claims with
                  own := none
                  window := none
                  list := s.claims.list.filter fun e => e.station != s.id.station
                  spacing := some 50
                  last := .abandoned
                  lastKind := some c.kind } } t
        ∧ t.line.tx = [] ∧ t.stack.settle = false ∧ t.claims.consent = none
        ∧ t.monitor.active.duplicateId = true
        ∧ (∀ c, t.claims.own = some c → c.holding = true))

/-! ## Peer table and group support (chapter 6) -/

/-- A valid STATUS refreshes its station's entry (R89), and its claim field is taken into the claim list of its own group, or the
station leaves the list (R90, R111, R113). An entry confirmed, or made with room, stands after the event, unless a claim that the station itself
makes in that event needs the fourth place. At the bound of four a notice without entry takes the place of the worst CLAIMING entry if it is
HOLDING or has the better key, and is not entered otherwise, nor among four holders; where that entry is the own one, the own claim yields (R112,
R118). A second holder is a conflict: CLAIM_CONFLICT, the latch, and no consent (R121). -/
def Obligations.StatusRefreshesPeer : Prop :=
  ∀ (s : State) (source : Nat) (payload : List Byte) (n : Notice), s.receiving = true → isStation source = true →
    source ≠ s.id.station → decodeNotice payload = some n →
    let u : State := { s with
      peers := s.peers.set (source - 1) { state := .live, notice := n, since := 0, staleTimer := some 40 }
      line := { s.line with received := min 65535 (s.line.received + 1) } }
    ∃ t, exec (.statusReceived source payload) s = .next t
      ∧ Aftermath u t
      ∧ (findEntry source s.claims.list = none → n.claim = none ∨ n.group ≠ s.id.group → After u t)
      ∧ (n.claim = none ∨ n.group ≠ s.id.group → findEntry source t.claims.list = none)
      ∧ ∀ a, n.claim = some a → n.group = s.id.group →
          let e : ClaimEntry :=
            { station := source, kind := a.kind, holding := a.holding, confirmed := s.now, timer := some 100 }
          let dropped := s.claims.list.filter fun x => x.station != source
          let noneOwn := a.holding = true ∨ claimsIdle s = false
          (findEntry source s.claims.list ≠ none ∨ s.claims.list.length < 4 → noneOwn ∨ dropped.length < 3 →
              findEntry source t.claims.list = some e)
          ∧ (∀ pre w post, s.claims.list = pre ++ w :: post → s.claims.list.length = 4 →
              findEntry source s.claims.list = none → w.holding = false → (∀ x ∈ post, x.holding = true) →
              let enters := a.holding = true ∨ keyOf a.kind source < keyOf w.kind w.station
              (¬enters → After u t ∧ findEntry source t.claims.list = none)
              ∧ (enters → w.station ≠ s.id.station → findEntry w.station t.claims.list = none
                  ∧ (noneOwn → findEntry source t.claims.list = some e))
              ∧ (enters → w.station = s.id.station → s.claiming = true →
                  t.claims.own = none ∧ t.claims.last = .yielded ∧ t.claims.spacing = some 50
                    ∧ findEntry source t.claims.list = some e ∧ findEntry s.id.station t.claims.list = none))
          ∧ (s.claims.list.length = 4 → findEntry source s.claims.list = none → (∀ x ∈ s.claims.list, x.holding = true) →
              findEntry source t.claims.list = none)
          ∧ (∀ x ∈ s.claims.list, a.holding = true → x.holding = true → x.station ≠ source →
              findEntry source s.claims.list ≠ none ∨ s.claims.list.length < 4 →
              t.claims.latch = true ∧ t.monitor.active.claimConflict = true ∧ t.claims.consent = none)

/-- A LIVE entry goes STALE and keeps its figures; a member of the own group raises PEER_LOST and leaves the claim list (R91). -/
def Obligations.PeerGoesStale : Prop :=
  ∀ (s : State) (n : Nat), (s.peer n).state = .live → (s.peer n).staleTimer.isSome = true → n ≠ s.id.station →
    let u : State := { s with peers := s.peers.set (n - 1) { s.peer n with state := .stale, staleTimer := none } }
    ∃ t, exec (.staleTimerExpiry n) s = .next t
      ∧ ((s.peer n).notice.group ≠ s.id.group → After u t)
      ∧ ((s.peer n).notice.group = s.id.group → After { u with
          monitor := { s.monitor with active := { s.monitor.active with peerLost := true } }
          claims := { s.claims with list := s.claims.list.filter fun e => e.station != n } } t
        ∧ t.monitor.active.peerLost = true ∧ findEntry n t.claims.list = none)

/-- The withdrawal and test checks of a station, as the four conditions on the remaining online set (R97 to R99). -/
def Obligations.SupportChecks : Prop :=
  ∀ (s : State) (station : Nat),
    let r := (onlineSet s).filter fun m => m.station != station
    let load := ((members s).map Member.counts).sum
    let total := (r.map Member.rating).sum
    let share (m : Member) := (load * m.rating + total - 1) / total
    let meets (m : Member) := s.cfg.minRuntime ≤ if share m = 0 then 999 else min 999 (m.energy * 60 / share m)
    let common := r ≠ [] ∧ (∀ m ∈ members s, m.mode ≠ .discharging ∧ m.mode ≠ .onBypass) ∧ total ≠ 0 ∧ ∀ m ∈ r, meets m
    (supports .withdraw s station = true ↔ common ∧ load * (100 + s.cfg.reserve) ≤ total * 100)
      ∧ (supports .test s station = true ↔ common)

/-! ## Claims and consent (chapter 7) -/

/-- The keys of claims and their order (R106). -/
def Obligations.KeysRankClaims : Prop :=
  ∀ m n : Nat, isStation m = true → isStation n = true →
    keyOf .withdraw m = 0 * 32 + m ∧ keyOf .test m = 1 * 32 + m
      ∧ 1 ≤ keyOf .withdraw m ∧ keyOf .withdraw m ≤ 24 ∧ 33 ≤ keyOf .test m ∧ keyOf .test m ≤ 56
      ∧ keyOf .withdraw m < keyOf .test n
      ∧ (∀ k, m < n → keyOf k m < keyOf k n)
      ∧ ∀ k l, keyOf k m = keyOf l n → k = l ∧ m = n

/-- A CLAIM of a LIVE peer of the own group enters the list or confirms its CLAIMING entry, and is ignored from a holder or an unknown
station (R110). An entry confirmed, or made with room, stands after the event, unless a claim that the station itself makes in that event
needs the fourth place. At the bound of four a CLAIM without entry takes the place of the worst CLAIMING entry if its key is better, and is
not entered if it is not; where that entry is the own one, the own claim yields (R112, R118). A RELEASE and a confirmation that runs out
remove the entry (R113). -/
def Obligations.ClaimListFollowsFrames : Prop :=
  ∀ (s : State) (n : Nat) (k : ClaimKind), isStation n = true → n ≠ s.id.station →
    let counted : State := { s with line := { s.line with received := min 65535 (s.line.received + 1) } }
    let known := (s.peer n).state = .live ∧ (s.peer n).notice.group = s.id.group
    let dropped := s.claims.list.filter fun e => e.station != n
    (s.receiving = true → ¬known → exec (.claimReceived n k) s = .next counted)
    ∧ (∀ e, s.receiving = true → known → findEntry n s.claims.list = some e → e.holding = true →
        ∃ t, exec (.claimReceived n k) s = .next t ∧ After counted t ∧ findEntry n t.claims.list = some e)
    ∧ (s.receiving = true → known → (∀ e, findEntry n s.claims.list = some e → e.holding = false) →
        findEntry n s.claims.list ≠ none ∨ s.claims.list.length < 4 →
        let e : ClaimEntry := { station := n, kind := k, holding := false, confirmed := s.now, timer := some 100 }
        ∃ t, exec (.claimReceived n k) s = .next t
          ∧ After { counted with claims := { s.claims with list := insertEntry e dropped } } t
          ∧ (claimsIdle s = false ∨ dropped.length < 3 → findEntry n t.claims.list = some e))
    ∧ (∀ pre w post, s.receiving = true → known → findEntry n s.claims.list = none → s.claims.list = pre ++ w :: post →
        s.claims.list.length = 4 → w.holding = false → (∀ x ∈ post, x.holding = true) →
        let e : ClaimEntry := { station := n, kind := k, holding := false, confirmed := s.now, timer := some 100 }
        ∃ t, exec (.claimReceived n k) s = .next t
          ∧ (keyOf w.kind w.station ≤ keyOf k n → After counted t ∧ findEntry n t.claims.list = none)
          ∧ (keyOf k n < keyOf w.kind w.station → w.station ≠ s.id.station →
              After { counted with claims := { s.claims with
                list := insertEntry e (s.claims.list.filter fun x => x.station != w.station) } } t
              ∧ findEntry w.station t.claims.list = none
              ∧ (claimsIdle s = false → findEntry n t.claims.list = some e))
          ∧ (keyOf k n < keyOf w.kind w.station → w.station = s.id.station → s.claiming = true →
              t.claims.own = none ∧ t.claims.last = .yielded ∧ t.claims.spacing = some 50
              ∧ findEntry n t.claims.list = some e ∧ findEntry s.id.station t.claims.list = none))
    ∧ (s.receiving = true → ∃ t, exec (.releaseReceived n k) s = .next t
        ∧ After { counted with claims := { s.claims with list := dropped } } t ∧ findEntry n t.claims.list = none)
    ∧ (∀ e, findEntry n s.claims.list = some e → e.timer.isSome = true →
        ∃ t, exec (.confirmationTimerExpiry n) s = .next t
          ∧ After { s with claims := { s.claims with list := dropped } } t ∧ findEntry n t.claims.list = none)

/-- The window of a CLAIMING claim runs out: NO_CONSENT, RELEASE, the entry gone, the spacing started (R118); the spacing runs out
(R120). -/
def Obligations.ClaimWindowAndSpacing : Prop :=
  (∀ (s : State) (c : OwnClaim), s.claims.own = some c → c.holding = false → s.claims.window.isSome = true →
    s.line.tx.length < 6 →
    ∃ t, exec .claimWindowTimerExpiry s = .next t
      ∧ After { s with claims := { s.claims with
          own := none
          window := none
          list := s.claims.list.filter fun e => e.station != s.id.station
          spacing := some 50
          last := .noConsent
          lastKind := some c.kind } } t
      ∧ t.claims.own = none ∧ t.claims.spacing = some 50 ∧ t.claims.last = .noConsent
      ∧ (s.sending = true →
          newFrame .release 31 [match c.kind with | .withdraw => 1#8 | .test => 2#8] ∈ t.line.tx))
  ∧ ∀ s : State, s.claims.spacing.isSome = true →
    ∃ t, exec .spacingTimerExpiry s = .next t ∧ After { s with claims := { s.claims with spacing := none } } t

/-- The conditions of commit (R116), that a station with no LIVE member beside it never commits, and the consent, which makes a peer's
commit (R114): none while it is held back, the HOLDING entry's claimant, or else the best entry's if its support check passes. That of two
HOLDING entries it names the one with the better key is the model's choice (assumption 34). -/
def Obligations.CommitConditions : Prop :=
  (∀ s : State, commitReady s = true ↔ ∃ c, s.claims.own = some c ∧ c.holding = false ∧ c.announced = true
    ∧ s.claims.window.isSome = true ∧ supports c.kind s s.id.station = true
    ∧ ∀ n p, (n, p) ∈ memberPeers s → p.state = .live → n ∈ c.heard ∧ p.notice.consent = s.id.station)
  ∧ (∀ s : State, (∀ e ∈ memberPeers s, e.2.state ≠ .live) → commitReady s = false)
  ∧ ∀ s : State, ClaimListSound s →
    let c := s.monitor.active
    let gives := s.line.state = .active ∧ s.claims.latch = false
      ∧ c.mainsLost = false ∧ c.onBypass = false ∧ c.claimConflict = false
    let list := s.claims.list
    let key (e : ClaimEntry) : Nat := keyOf e.kind e.station
    (¬gives → consentOf s = none)
    ∧ (gives → list = [] → consentOf s = none)
    ∧ ∀ e ∈ list, gives →
      (e.holding = true → (∀ x ∈ list, x.holding = true → x ≠ e → key e < key x) → consentOf s = some e.station)
      ∧ ((∀ x ∈ list, x.holding = false) → (∀ x ∈ list, x ≠ e → key e < key x) →
          consentOf s = if supports e.kind s e.station = true then some e.station else none)

/-- A commit in one event (R117): the frame with the owner that the claim carries, the test second, or the close pulse, which may have to wait
(R129), with the transfer wait and the owner visit's withdrawal used (R154), HOLDING with its list entry, the window stopped, COMMITTED; a push
that the stack refuses to a claim of either kind ends it ABANDONED with no frame and no pulse (R40); and a commit beside another holder is a
conflict (R121). -/
def Obligations.CommitIsOneEvent : Prop :=
  (∀ (s : State) (c : OwnClaim), s.claims.own = some c → conflictWith s.id.station
      (s.claims.list.map fun e => if e.station = s.id.station then { e with holding := true } else e) = false →
    let held : Claims := { s.claims with
      own := some { c with holding := true, owed := false }
      list := s.claims.list.map fun e => if e.station = s.id.station then { e with holding := true } else e
      window := none
      last := .committed
      lastKind := some c.kind }
    let test : TestFrame :=
      { pushed := s.now
        elapsed := 0
        strings := s.accounts.strings.map fun _ => { qt := 0, reached := false }
        origin := if c.origin = .schedule then .schedule else .terminal }
    let withdrawal : WithdrawalFrame :=
      { pushed := s.now
        origin := .claimed
        phase := .transferring
        owner := c.owner
        returnRequested := false
        timer := some (10 * s.cfg.transferTimeout) }
    (c.kind = .test → s.stack.frames = [] → commit s = { s with
      claims := held
      cond := { s.cond with testSecond := some 10 }
      stack := { s.stack with frames := [.test test] } })
    ∧ (c.kind = .withdraw → equalizeAtMost s.stack.frames = true → commit s = { s with
      claims := held
      bypass := pulseAsked .mbpc s.bypass
      visits := { s.visits with
        current := s.visits.current.map fun v => if c.owner = some v.number then { v with used := true } else v }
      stack := { s.stack with frames := .withdrawal withdrawal :: s.stack.frames } }))
  ∧ (∀ (s : State) (c : OwnClaim), s.claims.own = some c → c.holding = false →
    c.kind = .test ∧ s.stack.frames ≠ []
      ∨ c.kind = .withdraw ∧ (∃ f rest, s.stack.frames = f :: rest ∧ f.isEqualize = false) →
    (commit s).stack = s.stack ∧ (commit s).bypass = s.bypass ∧ (commit s).visits = s.visits ∧ (commit s).cond = s.cond
      ∧ (commit s).claims.own = none ∧ (commit s).claims.window = none ∧ (commit s).claims.spacing = some 50
      ∧ (commit s).claims.last = .abandoned ∧ (commit s).claims.lastKind = some c.kind
      ∧ findEntry s.id.station (commit s).claims.list = none)
  ∧ ∀ (s : State) (c : OwnClaim), s.claims.own = some c →
    c.kind = .test ∧ s.stack.frames = [] ∨ c.kind = .withdraw ∧ equalizeAtMost s.stack.frames = true →
    (∃ e ∈ s.claims.list, e.station = s.id.station) →
    (∃ e ∈ s.claims.list, e.station ≠ s.id.station ∧ e.holding = true) →
    (commit s).holding = true ∧ (commit s).claims.latch = true ∧ (commit s).monitor.active.claimConflict = true

/-! ## Pins, mains and the breaker (chapter 8) -/

/-- What five events do, exactly: a change of MAINS_OK (R124), a change of the key inputs (R144), the end of a pulse (R129), the
disagree timer (R128), and a MAINS frame of another station (R127). A pin already at the level is no event (assumption 1). Then what drives the
six outputs in every state (R48, R129, R162, R166, R175), with the highest level (R166) and the own mode (R49). -/
def Obligations.PinEventsAreTaken : Prop :=
  (∀ (level : Bool) (s : State),
    let u : State := { s with pins := { s.pins with mainsOk := level } }
    (level = s.pins.mainsOk → exec (.mainsOkChange level) s = .next s)
    ∧ (level ≠ s.pins.mainsOk → s.running = false → exec (.mainsOkChange level) s = .next u)
    ∧ (level ≠ s.pins.mainsOk → s.running = true → s.bypass.mains = .present → exec (.mainsOkChange level) s = .next
        { u with bypass := { s.bypass with lossTimer := if level then none else some 1 } })
    ∧ (level ≠ s.pins.mainsOk → s.running = true → s.bypass.mains = .lost → exec (.mainsOkChange level) s = .next
        { u with bypass := { s.bypass with qualTimer := if level then some 100 else none } }))
  ∧ (∀ (keyS keyW : Bool) (s : State),
    let u : State := { s with pins := { s.pins with keyS := keyS, keyW := keyW } }
    (keyS = s.pins.keyS ∧ keyW = s.pins.keyW → exec (.keyInputChange keyS keyW) s = .next s)
    ∧ (¬(keyS = s.pins.keyS ∧ keyW = s.pins.keyW) → s.running = false → exec (.keyInputChange keyS keyW) s = .next u)
    ∧ (¬(keyS = s.pins.keyS ∧ keyW = s.pins.keyW) → s.running = true → exec (.keyInputChange keyS keyW) s = .next
        { u with visits := { s.visits with settleTimer := some 5 } }))
  ∧ (∀ s : State, (s.bypass.pulse = none → exec .pulseEnd s = .next s)
    ∧ (s.bypass.pulse ≠ none → exec .pulseEnd s = .next { s with bypass := { s.bypass with
        pulse := s.bypass.waitingPulse.map fun k => { kind := k, left := 5 }, waitingPulse := none } }))
  ∧ (∀ s : State, s.bypass.disagree.isSome = true → exec .disagreeTimerExpiry s = .next
      { s with bypass := { s.bypass with position := .disagree, disagree := none } })
  ∧ (∀ (n : Nat) (k : MainsKind) (s : State), s.receiving = true → isStation n = true → n ≠ s.id.station →
      exec (.mainsReceived n k) s = .next { s with
        line := { s.line with received := min 65535 (s.line.received + 1) }
        bypass := { s.bypass with
          report := some
            { source := n
              kind := k
              group := if (s.peer n).state = .empty then 255 else (s.peer n).notice.group
              time := s.now }
          reportCount := min 65535 (s.bypass.reportCount + 1) } })
  ∧ ∀ s : State,
    let joined := s.line.state = .joining ∨ s.line.state = .active ∨ s.line.state = .muted
    let c := s.monitor.active
    let active := [c.mainsLost, c.onBypass, c.stringHot, c.tempLost, c.sampleGap, c.recordLost, c.peerLost, c.redundancyLost,
      c.claimConflict, c.duplicateId, c.transferFault, c.uncommandedBypass, c.visitOverdue, c.queueFull, c.stringWeak,
      c.lineErrors]
    let level (n : Nat) : Nat := s.cfg.levels.getD (n / 2) 0
    let withdrawn := ∃ w, Frame.withdrawal w ∈ s.stack.frames
    let discharging := ∃ d, Frame.discharge d ∈ s.stack.frames
    (s.eqz = true ↔ joined ∧ ∃ f rest, s.stack.frames = .equalize f :: rest)
    ∧ (s.tst = true ↔ joined ∧ ∃ f rest, s.stack.frames = .test f :: rest)
    ∧ (s.mbpc = true ↔ ∃ p, s.bypass.pulse = some p ∧ p.kind = .mbpc)
    ∧ (s.mbpo = true ↔ ∃ p, s.bypass.pulse = some p ∧ p.kind = .mbpo)
    ∧ (s.svc = true ↔ s.held = false ∧ s.queue.mark = true)
    ∧ (s.alert = true ↔ s.held = false
        ∧ (¬joined ∨ ∃ n : Nat, active.getD n false = true ∧ s.cfg.alertThreshold ≤ level n))
    ∧ (∀ n : Nat, active.getD n false = true → level n ≤ s.highestLevel)
    ∧ (s.highestLevel ≠ 0 → ∃ n : Nat, active.getD n false = true ∧ level n = s.highestLevel)
    ∧ (s.line.state = .joining → s.mode = .joining)
    ∧ (s.line.state ≠ .joining → withdrawn → s.mode = .withdrawn)
    ∧ (s.line.state ≠ .joining → ¬withdrawn → s.pins.bypLoad = true → s.mode = .onBypass)
    ∧ (s.line.state ≠ .joining → ¬withdrawn → s.pins.bypLoad = false → discharging → s.mode = .discharging)
    ∧ (s.line.state ≠ .joining → ¬withdrawn → s.pins.bypLoad = false → ¬discharging → s.mode = .online)

/-- The mains is taken as lost (R125): DISCHARGE is pushed over nothing or an EQUALIZE, aborts a TEST, and is deferred by a
WITHDRAWAL (R41, R42). It is taken as restored (R126): the DISCHARGE is popped and a deferred WITHDRAWAL taken up while the breaker is
closed, or the discharge deferral ends (R44). Both send MAINS from an ACTIVE station. -/
def Obligations.MainsLostAndRestored : Prop :=
  (∀ s : State, s.bypass.lossTimer.isSome = true → s.line.tx.length < 6 →
    let m : State := { s with bypass := { s.bypass with mains := .lost, lossTimer := none } }
    ∃ t, exec .mainsLossTimerExpiry s = .next t
      ∧ (equalizeAtMost s.stack.frames = true →
          After { m with stack := { s.stack with frames := .discharge { pushed := s.now } :: s.stack.frames } } t)
      ∧ (s.hasWithdrawal = true → After { m with stack := { s.stack with dischargeDeferred := true } } t)
      ∧ (∀ f, s.stack.frames = [.test f] → s.holding = true →
          Aftermath m t ∧ t.hasTest = false ∧ t.hasDischarge = true ∧ t.cond.testSecond = none ∧ t.claims.own = none
            ∧ ∀ (i : Nat) (a : Account), s.accounts.strings[i]? = some a →
              ∃ b, t.accounts.strings[i]? = some b ∧ b.lastTest = .aborted ∧ b.measured = a.measured
                ∧ b.testCharge = (f.strings[i]?.map TestString.qt).getD 0)
      ∧ t.bypass.mains = .lost ∧ t.monitor.active.mainsLost = true
      ∧ (s.line.state = .active → newFrame .mains 31 [1#8] ∈ t.line.tx))
  ∧ ∀ s : State, s.bypass.qualTimer.isSome = true → s.line.tx.length < 6 →
    let m : State := { s with bypass := { s.bypass with mains := .present, qualTimer := none } }
    let adopted (o : WithdrawalOrigin) : Frame := .withdrawal
      { pushed := s.now, origin := o, phase := .withdrawn, owner := none, returnRequested := false, timer := none }
    ∃ t, exec .mainsQualificationTimerExpiry s = .next t
      ∧ (∀ d rest, s.stack.frames = .discharge d :: rest → equalizeAtMost rest = true →
          After { m with stack := { s.stack with
            frames := match s.stack.withdrawalDeferred with
              | some o => if s.bypass.position = .closed then adopted o :: rest else rest
              | none => rest
            withdrawalDeferred := none
            settle := s.stack.settle || s.line.state != .muted } } t)
      ∧ (s.hasDischarge = false → After { m with stack := { s.stack with dischargeDeferred := false } } t)
      ∧ t.bypass.mains = .present ∧ t.monitor.active.mainsLost = false
      ∧ (s.line.state = .active → newFrame .mains 31 [2#8] ∈ t.line.tx)

/-- The contacts of the breaker (R128) where no activity or movement follows, the count of its operations (R138), and the static
switch (R137, R138): its count, its item, and the abort of a test by ON_BYPASS (R67). Contacts and a level already taken are no event (assumption 1). -/
def Obligations.BreakerAndStaticSwitch : Prop :=
  (∀ (cl op : Bool) (s : State),
    let u : State := { s with pins := { s.pins with mbpCl := cl, mbpOp := op } }
    let same := cl = s.pins.mbpCl ∧ op = s.pins.mbpOp
    (same → exec (.breakerContactChange cl op) s = .next s)
    ∧ (¬same → s.running = false → exec (.breakerContactChange cl op) s = .next u)
    ∧ (¬same → s.running = true → ∃ t, exec (.breakerContactChange cl op) s = .next t
        ∧ (cl = op → s.bypass.position = .transit → After u t)
        ∧ (cl = op → s.bypass.position = .disagree → After { u with bypass := { s.bypass with disagree := none } } t)
        ∧ (cl = op → s.bypass.position ≠ .transit → s.bypass.position ≠ .disagree →
            After { u with bypass := { s.bypass with position := .transit, disagree := some 10 } } t)
        ∧ (cl = true → op = false → s.bypass.position ≠ .closed → s.hasWithdrawal = false →
            s.bypass.recovery.isSome = true ∨ s.pastJoining = false → After (breakerTaken true s) t)
        ∧ (cl = false → op = true → s.bypass.position ≠ .opened → s.hasWithdrawal = false →
            let b := breakerTaken false s
            After { b with bypass := { b.bypass with recovery := none } } t)))
  ∧ (∀ (closed : Bool) (s : State),
    let other : Confirmed := if closed then .opened else .closed
    let n := min 65535 (s.bypass.breakerCount + 1)
    (breakerTaken closed s).bypass.breakerCount = (if s.bypass.confirmed = other then n else s.bypass.breakerCount)
      ∧ (s.bypass.confirmed = other → s.queue.items.length < 24 → n = s.cfg.breakerInterval → s.bypass.breakerCount < n →
          HasItem .breakerService .breaker 2 (breakerTaken closed s)))
  ∧ ∀ (level : Bool) (s : State),
    let u : State := { s with pins := { s.pins with bypLoad := level } }
    let n := min 65535 (s.bypass.staticCount + 1)
    (level = s.pins.bypLoad → exec (.bypLoadChange level) s = .next s)
    ∧ (level ≠ s.pins.bypLoad → s.running = false → exec (.bypLoadChange level) s = .next u)
    ∧ (level ≠ s.pins.bypLoad → s.running = true → ∃ t, exec (.bypLoadChange level) s = .next t
        ∧ t.monitor.active.onBypass = level
        ∧ (level = false → After u t)
        ∧ (level = true → Aftermath { u with bypass := { s.bypass with staticCount := n } } t ∧ t.hasTest = false
            ∧ (s.hasTest = false → s.queue.items.length < 24 → n = s.cfg.staticInterval → s.bypass.staticCount < n →
                HasItem .staticSwitchService .staticSwitch 2 t)))

/-- A WITHDRAWAL frame through its phases (R130, R131, R133): closed in TRANSFERRING, open in RETURNING or STUCK, and the two timeouts with
TRANSFER_FAULT and its item. A removal releases the claim of a CLAIMED frame (R45, R119), takes up a deferred DISCHARGE (R42, R44), and
closes no visit but a key visit with close-pending set (R154). -/
def Obligations.TransferAndReturn : Prop :=
  ∀ (s : State) (w : WithdrawalFrame) (rest : List Frame), s.stack.frames = .withdrawal w :: rest → equalizeAtMost rest = true →
    let wait : Timer := some (10 * s.cfg.transferTimeout)
    let become (w : WithdrawalFrame) (s : State) : State :=
      { s with stack := { s.stack with frames := .withdrawal w :: rest } }
    (s.running = true → ¬(s.pins.mbpCl = true ∧ s.pins.mbpOp = false) → s.bypass.position ≠ .closed →
      w.phase = .transferring → ∃ t, exec (.breakerContactChange true false) s = .next t
        ∧ (w.returnRequested = false →
            let next : WithdrawalFrame := { w with phase := .withdrawn, timer := none }
            WithdrawalIs next (become next (breakerTaken true s)) t)
        ∧ (w.returnRequested = true →
            let next : WithdrawalFrame := { w with phase := .returning, returnRequested := false, timer := wait }
            let b := breakerTaken true s
            WithdrawalIs next (become next { b with bypass := pulseAsked .mbpo b.bypass }) t))
    ∧ (s.running = true → ¬(s.pins.mbpCl = false ∧ s.pins.mbpOp = true) → s.bypass.position ≠ .opened →
        w.phase = .returning ∨ w.phase = .stuck → ClaimedOrFree w s →
        let b := breakerTaken false s
        ∃ t, exec (.breakerContactChange false true) s = .next t
          ∧ WithdrawalRemoved w s { b with bypass := { b.bypass with recovery := none } } t)
    ∧ (w.phase = .transferring → w.timer.isSome = true → w.origin = .claimed → s.holding = true →
        ∃ t, exec .transferTimeout s = .next t
          ∧ WithdrawalRemoved w s { s with bypass := { pulseAsked .mbpo s.bypass with recovery := wait } } t
          ∧ t.monitor.active.transferFault = true ∧ (s.queue.items.length < 24 → HasItem .transferCheck .breaker 3 t))
    ∧ (w.phase = .returning → w.timer.isSome = true →
        let next : WithdrawalFrame := { w with phase := .stuck, timer := none }
        ∃ t, exec .returnTimeout s = .next t
          ∧ WithdrawalIs next (raiseItem .transferCheck .breaker 3 { become next s with
              monitor := { s.monitor with active := { s.monitor.active with transferFault := true } } }) t
          ∧ t.monitor.active.transferFault = true
          ∧ (s.queue.items.length < 24 → HasItem .transferCheck .breaker 3 t))

/-- A movement of the breaker that nothing commanded (R131, R134): a closure pushes a WITHDRAWAL of origin MANUAL, or defers it under a
DISCHARGE (R43); an opening in WITHDRAWN pops the frame, of any origin, with or without an owner or a deferred DISCHARGE; a recovery wait
that ends on a closed breaker is such a closure. Each raises UNCOMMANDED_BYPASS and its item. While the deferral is set a closure without an
opening before it is none. That the push of a wait that ends over a WITHDRAWAL frame changes nothing is the model's reading (assumptions 20
and 32), and so is a closure or an opening from TRANSIT after the same last confirmed position (assumption 31). -/
def Obligations.UncommandedMovement : Prop :=
  ∀ s : State,
    let raised (b : State) : State := raiseItem .breakerService .breaker 3
      { b with monitor := { b.monitor with active := { b.monitor.active with uncommandedBypass := true } } }
    let manual : Frame := .withdrawal
      { pushed := s.now, origin := .manual, phase := .withdrawn, owner := none, returnRequested := false, timer := none }
    let pushed (b : State) : State := { b with stack := { b.stack with frames := manual :: s.stack.frames } }
    let deferred (b : State) : State := { b with stack := { b.stack with
      withdrawalDeferred := some (s.stack.withdrawalDeferred.getD .manual) } }
    let reported (t : State) : Prop := t.monitor.active.uncommandedBypass = true
      ∧ (s.hasTest = false → s.queue.items.length < 24 → HasItem .breakerService .breaker 3 t)
    let closed (b t : State) : Prop := reported t
      ∧ (equalizeAtMost s.stack.frames = true → After (pushed (raised b)) t)
      ∧ (s.hasDischarge = true → After (deferred (raised b)) t)
      ∧ (∀ f, s.stack.frames = [.test f] → s.holding = true →
          t.hasTest = false ∧ t.hasWithdrawal = true ∧ t.claims.own = none)
    (s.running = true → ¬(s.pins.mbpCl = true ∧ s.pins.mbpOp = false) → s.bypass.position ≠ .closed → s.hasWithdrawal = false →
      ∃ t, exec (.breakerContactChange true false) s = .next t
        ∧ (s.stack.withdrawalDeferred ≠ none → s.bypass.confirmed = .closed → After (breakerTaken true s) t)
        ∧ (s.stack.withdrawalDeferred = none ∨ s.bypass.confirmed ≠ .closed → s.bypass.recovery = none →
            s.pastJoining = true → closed (breakerTaken true s) t))
    ∧ (∀ w rest, s.stack.frames = .withdrawal w :: rest → equalizeAtMost rest = true → s.running = true →
        ¬(s.pins.mbpCl = false ∧ s.pins.mbpOp = true) → s.bypass.position ≠ .opened → s.pastJoining = true →
        w.phase = .withdrawn → ClaimedOrFree w s →
        let b := breakerTaken false s
        ∃ t, exec (.breakerContactChange false true) s = .next t ∧ reported t
          ∧ WithdrawalRemoved w s { b with bypass := { b.bypass with recovery := none } } t)
    ∧ (s.bypass.recovery.isSome = true →
        let u : State := { s with bypass := { s.bypass with recovery := none } }
        ∃ t, exec .recoveryWaitExpiry s = .next t
          ∧ (s.bypass.position ≠ .closed → After u t)
          ∧ (s.bypass.position = .closed → closed u t
            ∧ (s.hasWithdrawal = true → s.hasDischarge = false → After (raised u) t)))

/-! ## Visits (chapter 9) -/

/-- The key's settled moves (R144 to R147): nothing at two inputs or at the stable position; out of NORMAL a key visit opens (R142); to
WITHDRAW the request is held, a WITHDRAWAL without owner is given the visit, and a claim is made where R107 lets one be; out of
WITHDRAW a return is asked; to NORMAL a key visit closes, or waits for the frame it owns. And the overdue timer (R143). -/
def Obligations.KeyMovesAndOverdueVisit : Prop :=
  (∀ s : State, s.visits.settleTimer.isSome = true →
    let stands (p : KeyPosition) : Prop :=
      s.pins.keyS = (p == .service) ∧ s.pins.keyW = (p == .withdraw)
    let settled (p : KeyPosition) : State := { s with visits := { s.visits with settleTimer := none, stable := p } }
    let back (w : WithdrawalFrame) : WithdrawalFrame :=
      { w with phase := .returning, returnRequested := false, timer := some (10 * s.cfg.transferTimeout) }
    let returning (w : WithdrawalFrame) (rest : List Frame) (u : State) : State := { u with
      stack := { u.stack with frames := .withdrawal (back w) :: rest }
      bypass := { u.bypass with pulse := some { kind := .mbpo, left := 5 } } }
    let number := if 65535 ≤ s.visits.counter then 1 else s.visits.counter + 1
    ∃ t, exec .keySettleTimerExpiry s = .next t
      ∧ (s.pins.keyS = true → s.pins.keyW = true → After (settled s.visits.stable) t)
      ∧ (stands s.visits.stable → After (settled s.visits.stable) t)
      ∧ (∀ p, stands p → p ≠ .normal → s.visits.stable = .normal → s.visits.current = none →
          Aftermath { settled p with visits := { (settled p).visits with
            counter := number
            overdueTimer := some (10 * ((s.cfg.keyPlanned + 15) * 60))
            requestHeld := s.visits.requestHeld || p == .withdraw } } t
          ∧ t.hasTest = false
          ∧ ∃ used, t.visits.current = some
            { number := number
              technician := 0
              origin := .key
              opened := s.now
              planned := s.cfg.keyPlanned
              overdue := false
              done := []
              doneCount := 0
              used := used
              closePending := false
              closing := none })
      ∧ (∀ v, stands .withdraw → s.visits.stable = .service → s.visits.current = some v →
          Aftermath { settled .withdraw with visits := { (settled .withdraw).visits with requestHeld := true } } t
          ∧ (∀ w rest, s.stack.frames = .withdrawal w :: rest → equalizeAtMost rest = true → w.owner = none →
              t.withdrawal? = some { w with owner := some v.number } ∧ t.visits.current = some { v with used := true })
          ∧ (Quiet s → ConditionsFollow s → s.stack.frames = [] → mayClaim s .withdraw = true →
              ∃ c, t.claims.own = some c ∧ c.kind = .withdraw ∧ c.origin = .key ∧ c.owner = some v.number
                ∧ c.holding = false))
      ∧ (stands .service → s.visits.stable = .withdraw → s.claiming = false →
          let u : State := { settled .service with visits := { (settled .service).visits with requestHeld := false } }
          (s.hasWithdrawal = false → After u t)
          ∧ ∀ w rest, s.stack.frames = .withdrawal w :: rest → equalizeAtMost rest = true → w.phase = .withdrawn →
              s.bypass.pulse = none → After (returning w rest u) t)
      ∧ (∀ v, stands .normal → s.visits.stable = .service → s.visits.current = some v → v.origin = .key →
          (s.hasWithdrawal = false → s.hasTest = false →
            Aftermath { settled .normal with visits := { (settled .normal).visits with
              history := ({ v with closePending := true, closing := some { time := s.now, reason := .key } }
                :: s.visits.history).take 8
              overdueTimer := none
              requestHeld := false } } t
            ∧ t.visits.current = none ∧ ∀ it ∈ t.queue.items, it.taken ≠ some v.number)
          ∧ ∀ w rest, s.stack.frames = .withdrawal w :: rest → equalizeAtMost rest = true → w.phase = .withdrawn →
              w.owner = some v.number → s.bypass.pulse = none →
              After (returning w rest { settled .normal with visits := { (settled .normal).visits with
                current := some { v with closePending := true } } }) t))
  ∧ ∀ s : State, s.visits.overdueTimer.isSome = true →
    ∃ t, exec .overdueTimerExpiry s = .next t
      ∧ After { s with visits := { s.visits with
          overdueTimer := none, current := s.visits.current.map fun v => { v with overdue := true } } } t
      ∧ t.monitor.active.visitOverdue = s.visits.current.isSome

/-- VISIT_OPEN and VISIT_CLOSE: each refusal with its code, in the order of the checks, and the visit that opens or closes (R141, R142,
R152, R153). The byte of the closing record that packs origin, state, reason and use is laid out by assumption 12. -/
def Obligations.VisitRequests : Prop :=
  (∀ (s : State) (term : Nat) (tag a b c d : Byte), Servable term 1#8 tag [a, b, c, d] s →
    let planned := 256 * c.toNat + d.toNat
    let number := if 65535 ≤ s.visits.counter then 1 else s.visits.counter + 1
    ∃ t, exec (.visitOpen term tag [a, b, c, d]) s = .next t
      ∧ (planned < 1 ∨ 480 < planned → Refused term 1#8 tag [a, b, c, d] 9#8 s t)
      ∧ (1 ≤ planned → planned ≤ 480 → s.visits.current.isSome = true → Refused term 1#8 tag [a, b, c, d] 2#8 s t)
      ∧ (1 ≤ planned → planned ≤ 480 → s.visits.current = none →
          Aftermath (answered term 1#8 tag [a, b, c, d] 0#8 [BitVec.ofNat 8 (number / 256), BitVec.ofNat 8 number]
            { s with visits := { s.visits with
              counter := number, overdueTimer := some (10 * ((planned + 15) * 60)) } }) t
          ∧ t.hasTest = false ∧ t.cond.waiting = false
          ∧ (∀ k, s.claims.own = some k → k.kind = .test → k.holding = false →
              t.claims.own = none ∧ t.claims.last = .abandoned)
          ∧ ∃ used, t.visits.current = some
            { number := number
              technician := 256 * a.toNat + b.toNat
              origin := .terminal term
              opened := s.now
              planned := planned
              overdue := false
              done := []
              doneCount := 0
              used := used
              closePending := false
              closing := none }))
  ∧ ∀ (s : State) (term : Nat) (tag a b : Byte), Servable term 2#8 tag [a, b] s →
    let n := 256 * a.toNat + b.toNat
    ∃ t, exec (.visitClose term tag [a, b]) s = .next t
      ∧ (n = 0 → Refused term 2#8 tag [a, b] 9#8 s t)
      ∧ (n ≠ 0 → s.visits.current = none → Refused term 2#8 tag [a, b] 7#8 s t)
      ∧ ∀ v, n ≠ 0 → s.visits.current = some v →
        (n ≠ v.number → Refused term 2#8 tag [a, b] 6#8 s t)
        ∧ (n = v.number → v.origin = .key ∨ (∃ w, s.withdrawal? = some w ∧ w.owner = some n) →
            Refused term 2#8 tag [a, b] 5#8 s t)
        ∧ (n = v.number → ∀ k, v.origin = .terminal k → (∀ w, s.withdrawal? = some w → w.owner ≠ some n) →
            s.visits.stable = .normal → s.hasTest = false →
            let closed : Visit := { v with closing := some { time := s.now, reason := .terminal } }
            Aftermath (answered term 2#8 tag [a, b] 0#8 [] { s with visits := { s.visits with
              history := (closed :: s.visits.history).take 8, overdueTimer := none, requestHeld := false } }) t
            ∧ t.visits.current = none ∧ (∀ it ∈ t.queue.items, it.taken ≠ some n)
            ∧ (Quiet s → s.line.tx.length < 6 →
                newFrame .record 31 (recordPayload 4 0 0 (historyPart0 closed)) ∈ t.line.tx))

/-- ITEM_TAKE, ITEM_DONE and ITEM_RETURN: the refusals in their order (R148 to R150), the changed queue and mark (R161, R162), and what
marking an item done brings about (R151), with the string replaced as R36 and R70 say. That the due hour stops at
1,000,000 is assumption 21. -/
def Obligations.ItemRequests : Prop :=
  ∀ (s : State) (term : Nat) (tag a b : Byte),
    let n := 256 * a.toNat + b.toNat
    let found (place : Nat) (it : Item) : Prop := n ≠ 0 ∧ s.queue.items[place]? = some it ∧ it.number = n
      ∧ ∀ (j : Nat) (x : Item), j < place → s.queue.items[j]? = some x → x.number ≠ n
    let changed (items : List Item) : State := { s with queue := { s.queue with items := items } }
    (∀ i code, (i, code) ∈ [(Instr.itemTake term tag [a, b], 3#8), (.itemDone term tag [a, b], 4#8),
        (.itemReturn term tag [a, b], 5#8)] → Servable term code tag [a, b] s →
      ∃ t, exec i s = .next t
        ∧ (n = 0 → Refused term code tag [a, b] 9#8 s t)
        ∧ (n ≠ 0 → s.visits.current = none → Refused term code tag [a, b] 7#8 s t)
        ∧ (n ≠ 0 → s.visits.current.isSome = true → (∀ it ∈ s.queue.items, it.number ≠ n) →
            Refused term code tag [a, b] 6#8 s t))
    ∧ ∀ (v : Visit) (place : Nat) (it : Item), s.visits.current = some v → found place it →
      let mine := s.queue.items.countP fun x => x.taken == some v.number
      (Servable term 3#8 tag [a, b] s → ∃ t, exec (.itemTake term tag [a, b]) s = .next t
        ∧ (it.taken ≠ none → Refused term 3#8 tag [a, b] 5#8 s t)
        ∧ (it.taken = none → 8 ≤ mine → Refused term 3#8 tag [a, b] 8#8 s t)
        ∧ (it.taken = none → mine < 8 → After (answered term 3#8 tag [a, b] 0#8 []
            (changed (s.queue.items.set place { it with taken := some v.number }))) t))
      ∧ (Servable term 5#8 tag [a, b] s → ∃ t, exec (.itemReturn term tag [a, b]) s = .next t
        ∧ (it.taken = none → Refused term 5#8 tag [a, b] 5#8 s t)
        ∧ (it.taken ≠ none → After (answered term 5#8 tag [a, b] 0#8 []
            (changed (s.queue.items.set place { it with taken := none }))) t))
      ∧ (Servable term 4#8 tag [a, b] s →
        let kept := s.queue.items.eraseIdx place
        let severe := kept.countP fun x => 2 ≤ x.severity
        let u : State := { s with
          queue := { s.queue with
            items := kept
            mark := if kept.any (fun x => x.severity == 3) = true ∨ s.cfg.riseCount ≤ severe then true
              else if severe < s.cfg.fallCount then false else s.queue.mark }
          visits := { s.visits with current := some { v with
            done := if v.done.length < 8 then v.done ++ [(it.kind, it.target)] else v.done
            doneCount := min 255 (v.doneCount + 1) } } }
        let done (u t : State) : Prop := After (answered term 4#8 tag [a, b] 0#8 [] u) t
        ∃ t, exec (.itemDone term tag [a, b]) s = .next t
          ∧ (it.taken = none → Refused term 4#8 tag [a, b] 5#8 s t)
          ∧ (it.taken ≠ none → it.kind = .stringReplace → s.hasTest = true ∨ s.hasDischarge = true →
              Refused term 4#8 tag [a, b] 2#8 s t)
          ∧ (it.taken ≠ none → it.kind = .stringReview ∨ it.kind = .sensorCheck ∨ it.kind = .testOverdue → done u t)
          ∧ (it.taken ≠ none → it.kind = .staticSwitchService →
              done { u with bypass := { s.bypass with staticCount := 0 } } t)
          ∧ (it.taken ≠ none → it.kind = .breakerService → done { u with bypass := { s.bypass with breakerCount := 0 } } t)
          ∧ (it.taken ≠ none → it.kind = .transferCheck → done { u with
              monitor := { s.monitor with active := { s.monitor.active with transferFault := false } } } t)
          ∧ (it.taken ≠ none → it.kind = .recordCheck → done { u with
              monitor := { s.monitor with active := { s.monitor.active with recordLost := false } } } t)
          ∧ (∀ i x, it.taken ≠ none → it.kind = .stringReplace → it.target = .string i → s.hasTest = false →
              s.hasDischarge = false → s.accounts.strings[i]? = some x → 0 < s.cfg.designLife →
              Aftermath (answered term 4#8 tag [a, b] 0#8 [] u) t
              ∧ t.cond.testDue = (if s.cfg.testInterval = 0 then 0 else min 1000000 (s.clock.hours + s.cfg.testInterval))
              ∧ t.accounts.strings[i]? = some { x with
                  wear := 0
                  residue := 0
                  events := 0
                  measured := 100
                  lastTest := .untested
                  testCharge := 0
                  testEndHour := 0
                  installHour := s.clock.hours
                  reviewCrossed := decide (100 ≤ s.cfg.reviewThreshold)
                  replaceCrossed := decide (100 ≤ s.cfg.replaceThreshold)
                  health := 100
                  available := (stringSettings s i).ratedAh }))

/-! ## The station's requests -/

/-- WITHDRAW and RETURN: the refusals in their order, the claim that WITHDRAW makes or the frame whose owner it sets, and what RETURN asks
of each phase (R132, R136, R154). -/
def Obligations.WithdrawAndReturnRequests : Prop :=
  (∀ (s : State) (term : Nat) (tag a b : Byte), Servable term 6#8 tag [a, b] s →
    let n := 256 * a.toNat + b.toNat
    let refused (r : Byte) (t : State) : Prop := Refused term 6#8 tag [a, b] r s t
    let visitGood := n = 0 ∨ s.visits.current.map Visit.number = some n
    let busy := s.claims.own ≠ none ∨ s.claims.spacing ≠ none
      ∨ ∃ e ∈ s.claims.list, e.holding = true ∨ keyOf e.kind e.station < s.id.station
    let c := s.monitor.active
    let inhibited := (c.mainsLost || c.onBypass || c.claimConflict || c.transferFault || c.uncommandedBypass) = true
    ∃ t, exec (.withdraw term tag [a, b]) s = .next t
      ∧ (s.line.state = .joining → refused 10#8 t)
      ∧ (s.line.state ≠ .joining →
        (¬visitGood → refused 7#8 t)
        ∧ (∀ w rest, visitGood → s.stack.frames = .withdrawal w :: rest → equalizeAtMost rest = true →
            (n = 0 ∨ w.owner ≠ none → refused 5#8 t)
            ∧ ∀ v, n ≠ 0 → w.owner = none → s.visits.current = some v →
                let next : WithdrawalFrame := { w with owner := some n }
                WithdrawalIs next (answered term 6#8 tag [a, b] 0#8 [] { s with
                  stack := { s.stack with frames := .withdrawal next :: rest }
                  visits := { s.visits with current := some { v with used := true } } }) t
                ∧ t.visits.current = some { v with used := true })
        ∧ (visitGood → s.hasWithdrawal = false →
          (∀ d rest, s.stack.frames = .discharge d :: rest → refused 3#8 t)
          ∧ (topLevel s.stack.frames < 2 → busy → refused 2#8 t)
          ∧ (topLevel s.stack.frames < 2 → ¬busy → inhibited → refused 4#8 t)
          ∧ (topLevel s.stack.frames < 2 → ¬busy → ¬inhibited → ConditionsFollow s →
              Aftermath (answered term 6#8 tag [a, b] 1#8 [] s) t
              ∧ t.claims.window = some 50
              ∧ (∃ k, t.claims.own = some k ∧ k.kind = .withdraw ∧ k.origin = .terminal
                  ∧ k.owner = (if n = 0 then none else some n) ∧ k.holding = false ∧ k.announced = false ∧ k.heard = [])
              ∧ findEntry s.id.station t.claims.list = some
                  { station := s.id.station, kind := .withdraw, holding := false, confirmed := s.now, timer := none }
              ∧ (s.line.tx.length < 6 → newFrame .claim 31 [1#8] ∈ t.line.tx)))))
  ∧ ∀ (s : State) (term : Nat) (tag : Byte), Servable term 7#8 tag [] s →
    let refused (r : Byte) (t : State) : Prop := Refused term 7#8 tag [] r s t
    ∃ t, exec (.returnRequest term tag []) s = .next t
      ∧ (s.line.state = .joining → refused 10#8 t)
      ∧ (s.line.state ≠ .joining →
        (s.hasWithdrawal = false → refused 5#8 t)
        ∧ ∀ w rest, s.stack.frames = .withdrawal w :: rest → equalizeAtMost rest = true →
          let become (w : WithdrawalFrame) (b : Bypass) : State :=
            { s with stack := { s.stack with frames := .withdrawal w :: rest }, bypass := b }
          (w.phase = .returning ∨ w.phase = .stuck → refused 2#8 t ∧ t.bypass = s.bypass
            ∧ (w.owner ≠ none ∨ s.visits.requestHeld = false → t.withdrawal? = some w))
          ∧ (w.phase = .transferring →
              let next : WithdrawalFrame := { w with returnRequested := true }
              WithdrawalIs next (answered term 7#8 tag [] 1#8 [] (become next s.bypass)) t)
          ∧ (w.phase = .withdrawn →
              let next : WithdrawalFrame :=
                { w with phase := .returning, returnRequested := false, timer := some (10 * s.cfg.transferTimeout) }
              WithdrawalIs next (answered term 7#8 tag [] 1#8 [] (become next (pulseAsked .mbpo s.bypass))) t))

/-- TEST_NOW with its six checks (R61), EQUALIZE_NOW with the latch or the equalize that starts at once (R56, R57), and STOP (R68). -/
def Obligations.ConditioningRequests : Prop :=
  (∀ (s : State) (term : Nat) (tag : Byte), Servable term 8#8 tag [] s →
    let refused (r : Byte) (t : State) : Prop := Refused term 8#8 tag [] r s t
    let busy := s.cond.waiting = true ∨ s.claims.own ≠ none ∨ s.claims.spacing ≠ none
      ∨ ∃ e ∈ s.claims.list, e.holding = true ∨ keyOf e.kind e.station < 32 + s.id.station
    let c := s.monitor.active
    let inhibited := (c.mainsLost || c.onBypass || c.stringHot || c.tempLost || c.sampleGap || c.redundancyLost
      || c.claimConflict || c.transferFault) = true
    ∃ t, exec (.testNow term tag []) s = .next t
      ∧ (s.line.state = .joining → refused 10#8 t)
      ∧ (s.line.state ≠ .joining →
        (s.visits.current.isSome = true → refused 5#8 t)
        ∧ (s.visits.current = none →
          (s.stack.frames ≠ [] → refused 3#8 t)
          ∧ (s.stack.frames = [] → busy → refused 2#8 t)
          ∧ (s.stack.frames = [] → ¬busy → inhibited → refused 4#8 t)
          ∧ (s.stack.frames = [] → ¬busy → ¬inhibited → s.stack.settle = true →
              Aftermath (answered term 8#8 tag [] 1#8 [] s) t ∧ t.cond.waiting = true ∧ t.claims.own = none)
          ∧ (s.stack.frames = [] → ¬busy → ¬inhibited → s.stack.settle = false → ConditionsFollow s →
              Aftermath (answered term 8#8 tag [] 1#8 [] s) t ∧ t.claims.window = some 50
              ∧ (∃ k, t.claims.own = some k ∧ k.kind = .test ∧ k.origin = .terminal ∧ k.owner = none ∧ k.holding = false)
              ∧ (s.line.tx.length < 6 → newFrame .claim 31 [2#8] ∈ t.line.tx)))))
  ∧ (∀ (s : State) (term : Nat) (tag : Byte), Servable term 9#8 tag [] s →
    let full := s.cfg.equalizeDuration * 60
    ∃ t, exec (.equalizeNow term tag []) s = .next t
      ∧ Aftermath (answered term 9#8 tag [] 0#8 [] s) t
      ∧ (s.stack.settle = true → s.hasEqualize = false → t.cond.latch = some (match s.cond.latch with
          | none => { origin := .terminal, minutes := full }
          | some l => { origin := l.origin, minutes := max l.minutes full }))
      ∧ (s.stack.settle = false → s.stack.frames = [] → s.line.state = .active → s.visits.current = none →
          s.bypass.mains = .present → s.monitor.active.stringHot = false → s.monitor.active.tempLost = false →
          s.monitor.active.sampleGap = false → ConditionsFollow s → Quiet s →
          t.cond.latch = none ∧ t.cond.remainingField = full
          ∧ t.stack.frames = [.equalize { pushed := s.now, remaining := full, minute := 0, origin := .terminal }]))
  ∧ ∀ (s : State) (term : Nat) (tag : Byte), Servable term 10#8 tag [] s →
    ∃ t, exec (.stop term tag []) s = .next t
      ∧ (s.hasEqualize = false → s.hasTest = false → s.cond.waiting = false → Refused term 10#8 tag [] 5#8 s t)
      ∧ (s.hasEqualize = true ∨ s.hasTest = true ∨ s.cond.waiting = true → s.claiming = false →
          Aftermath (answered term 10#8 tag [] 0#8 [] s) t
          ∧ t.hasTest = false ∧ t.cond.waiting = false
          ∧ (s.hasEqualize = true → t.hasEqualize = false ∧ t.stack.settle = true)
          ∧ (∀ f, s.stack.frames = [.equalize f] →
              (f.origin = .terminal → t.cond.remainingField = 0 ∧ t.cond.latch = s.cond.latch)
              ∧ (f.origin ≠ .terminal → s.cond.latch = none →
                  t.cond.latch = some { origin := f.origin, minutes := f.remaining }))
          ∧ (∀ f, s.stack.frames = [.test f] → t.cond.testSecond = none
              ∧ ∀ (i : Nat) (x : Account), s.accounts.strings[i]? = some x →
                ∃ y, t.accounts.strings[i]? = some y ∧ y.lastTest = .aborted ∧ y.measured = x.measured))

/-- CLEAR of a named set (R121, R167), with the set it answers, and FORGET (R92). -/
def Obligations.ClearAndForget : Prop :=
  (∀ (s : State) (term : Nat) (tag a b : Byte), Servable term 11#8 tag [a, b] s →
    let named (bit : Nat) : Bool := (256 * a.toNat + b.toNat).testBit bit
    let c := s.monitor.active
    let part (active : Bool) (bit : Nat) : Nat := if active && named bit then 2 ^ bit else 0
    let cleared := part c.recordLost 5 + part c.peerLost 6 + part c.claimConflict 8 + part c.duplicateId 9
      + part c.transferFault 10 + part c.uncommandedBypass 11 + part c.lineErrors 15
    ∃ t, exec (.clear term tag [a, b]) s = .next t
      ∧ After (answered term 11#8 tag [a, b] 0#8 [BitVec.ofNat 8 (cleared / 256), BitVec.ofNat 8 cleared] { s with
          monitor := { s.monitor with
            active := { c with
              recordLost := c.recordLost && !named 5
              peerLost := c.peerLost && !named 6
              claimConflict := c.claimConflict && !named 8
              duplicateId := c.duplicateId && !named 9
              transferFault := c.transferFault && !named 10
              uncommandedBypass := c.uncommandedBypass && !named 11
              lineErrors := c.lineErrors && !named 15 }
            lineErrors := if named 15 then 0 else s.monitor.lineErrors }
          claims := { s.claims with latch := s.claims.latch && !(c.claimConflict && named 8) } }) t)
  ∧ ∀ (s : State) (term : Nat) (tag a : Byte), Servable term 12#8 tag [a] s →
    let n := a.toNat
    ∃ t, exec (.forget term tag [a]) s = .next t
      ∧ (isStation n = false → Refused term 12#8 tag [a] 9#8 s t)
      ∧ (isStation n = true → (s.peer n).state = .empty → Refused term 12#8 tag [a] 6#8 s t)
      ∧ (isStation n = true → (s.peer n).state = .live → Refused term 12#8 tag [a] 5#8 s t)
      ∧ (isStation n = true → (s.peer n).state = .stale → After (answered term 12#8 tag [a] 0#8 []
          { s with peers := s.peers.set (n - 1) Peer.blank }) t)

/-- READ (R169), and what is not served (R85, R86): a request with another number of arguments, a repeat, a code that is none of the
fourteen, a request at a MUTED station (counted: assumption 19), and one that cannot arrive (assumption 1). -/
def Obligations.ReadAndUnserved : Prop :=
  (∀ (s : State) (term : Nat) (tag k i : Byte), isTerminal term = true → s.receiving = true → s.sending = true →
    let u : State := { s with line := { s.line with received := min 65535 (s.line.received + 1) } }
    let part (data : List Byte) (p : Nat) : TxFrame :=
      newFrame .record term (k :: i :: BitVec.ofNat 8 p :: (data.drop (9 * p)).take 9)
    (∀ data, readRecord k.toNat i.toNat u = .found data → data.length = 36 ∧ (s.line.tx.length ≤ 1 →
      exec (.read term tag [k, i]) s = .next { u with line := { u.line with tx := s.line.tx
        ++ [resultFrame term 13#8 tag 0#8 [k, i], part data 0, part data 1, part data 2, part data 3] } }))
    ∧ (∀ r, (readRecord k.toNat i.toNat u, r) ∈ [(ReadOutcome.bad, 9#8), (.notFound, 6#8), (.noVisit, 7#8)] →
        s.line.tx.length < 6 → exec (.read term tag [k, i]) s = .next { u with line := { u.line with
          tx := s.line.tx ++ [resultFrame term 13#8 tag r []] } })
    ∧ (7 < k.toNat → readRecord k.toNat i.toNat u = .bad)
    ∧ (k = 3#8 → i.toNat ≤ 1 → s.visits.current = none → readRecord k.toNat i.toNat u = .noVisit)
    ∧ (k = 0#8 → 15 < i.toNat → readRecord k.toNat i.toNat u = .notFound)
    ∧ (k = 5#8 → isStation i.toNat = false → readRecord k.toNat i.toNat u = .notFound)
    ∧ (∀ it, k = 2#8 → s.queue.items[i.toNat]? = some it → ∃ data, readRecord k.toNat i.toNat u = .found data))
  ∧ ∀ (s : State) (term : Nat) (tag : Byte) (args : List Byte) (c : Instr) (code : Byte) (n : Nat),
    (c, code, n) ∈ requestForms term tag args →
    let counted : Line := { s.line with received := min 65535 (s.line.received + 1) }
    let bad (code : Byte) : State := { s with line := { counted with tx := s.line.tx ++ [resultFrame term code tag 9#8 []] } }
    (isTerminal term = false ∨ s.receiving = false → exec c s = .next s)
    ∧ (isTerminal term = true → s.receiving = true → args.length ≤ 10 →
      (s.sending = false → exec c s = .next { s with line := counted })
      ∧ (s.sending = true → s.line.tx.length < 6 →
        (args.length ≠ n → exec c s = .next (bad code))
        ∧ (∀ r, code ≠ 13#8 → args.length = n → storedResult term (code :: tag :: args) s = some r →
            exec c s = .next { s with line := { counted with tx := s.line.tx ++ [newFrame .result term r] } })
        ∧ ∀ other : Byte, other = 0#8 ∨ 14 < other.toNat →
            exec (.unknownRequestCode term other tag args) s = .next (bad other)))

/-! ## The running hour and the pages (chapter 11) -/

/-- The running-hour boundary with its due check and its overdue check (R55, R69, R173), and the end of a page write, good or bad (R172,
R174; what a failed write leaves is a free value: assumption 9). A queue page that failed is written again at once where the item that the
failure raises stands in it (R161, R173). -/
def Obligations.HourAndPages : Prop :=
  (∀ s : State, s.clock.hourTimer.isSome = true →
    let h := min 1000000 (s.clock.hours + 1)
    ∃ t, exec .hourTimerExpiry s = .next t
      ∧ Aftermath { s with clock := { s.clock with hours := h, hourTimer := some 36000 } } t
      ∧ (0 < s.cfg.testInterval → s.cond.testDue ≤ h → t.cond.testLatch = true)
      ∧ (0 < s.cfg.equalizeInterval → s.cond.equalizeDue ≤ h → t.cond.latch.isSome = true ∨ t.hasEqualize = true)
      ∧ (∀ p ∈ allPages, pageState p s = .dirty → p ∈ t.port.list ∨ t.port.writing.map Write.page = some p)
      ∧ (s.hasTest = false →
          let pending := s.cond.testLatch || decide (0 < s.cfg.testInterval ∧ s.cond.testDue ≤ h)
          let overdue := pending && decide (s.cond.testDue + 336 < h)
          t.cond.overdueRaised = (s.cond.overdueRaised || overdue)
          ∧ (overdue = true → s.cond.overdueRaised = false → s.queue.items.length < 24 → HasItem .testOverdue .nothing 1 t)))
  ∧ (∀ (s : State) (w : Write), s.port.writing = some w → w.page ∈ allPages → s.port.states.length = 8 →
    let areas := s.port.areas.set (pageIndex w.page) (some w.content)
    ∃ t, exec .memoryWriteDone s = .next t ∧ t = { s with port := t.port } ∧ t.port.areas = areas
      ∧ (pageState w.page s = .writing → t.port.writing.map Write.page = s.port.list.head? ∧ t.port.list = s.port.list.tail
          ∧ (w.page ∉ s.port.list → pageState w.page t = .clean))
      ∧ (pageState w.page s = .writingDirty → s.port.list = [] →
          t.port.writing = some { page := w.page, content := pageContent w.page s } ∧ pageState w.page t = .writing))
  ∧ (∀ (s : State) (w : Write), s.port.writing = some w → w.page ∈ [PageId.cabinet, .string 0, .string 1, .string 2, .string 3] →
    w.page ∉ s.port.list → s.port.states.length = 8 → s.hasTest = false → s.queue.items.length < 24 →
    ∃ t, exec .memoryWriteFail s = .next t
      ∧ Aftermath { s with port := { s.port with areas := t.port.areas } } t
      ∧ (t.port.areas = s.port.areas ∨ t.port.areas = s.port.areas.set (pageIndex w.page) (some w.content)
          ∨ t.port.areas = s.port.areas.set (pageIndex w.page) none)
      ∧ pageState w.page t = .dirty ∧ w.page ∉ t.port.list
      ∧ t.monitor.active.recordLost = true ∧ HasItem .recordCheck .nothing 3 t)
  ∧ ∀ (s : State) (w : Write) (q : Nat), s.port.writing = some w → w.page = .queue q → q < 3 → s.port.states.length = 8 →
    s.hasTest = false → s.queue.items.length < 24 → (∀ x ∈ s.queue.items, x.kind ≠ .recordCheck) →
    ∃ t, exec .memoryWriteFail s = .next t
      ∧ Aftermath { s with port := { s.port with areas := t.port.areas } } t
      ∧ (t.port.areas = s.port.areas ∨ t.port.areas = s.port.areas.set (5 + q) (some w.content)
          ∨ t.port.areas = s.port.areas.set (5 + q) none)
      ∧ t.monitor.active.recordLost = true ∧ HasItem .recordCheck .nothing 3 t
      ∧ (q ≠ s.queue.items.length / 8 → w.page ∉ s.port.list → pageState w.page t = .dirty ∧ w.page ∉ t.port.list)
      ∧ (q = s.queue.items.length / 8 → w.page ∈ t.port.list ∨ t.port.writing.map Write.page = some w.page)

/-! ## The work queue (chapter 10) -/

/-- A raise, in the order of R157: a merge (R158), a review held back by a replacement and superseded by one (R159), a new item with a
number that no item holds, a displacement, and an overflow (R160); and the visit-request mark (R162). -/
def Obligations.RaiseAndMark : Prop :=
  (∀ (s : State) (k : ItemKind) (g : Target) (sev : Nat),
    let items := s.queue.items
    let u := raiseItem k g sev s
    let isOther (x : Item) : Prop := (x.kind, x.target) ≠ (k, g)
    let item (number : Nat) : Item :=
      { number := number, kind := k, target := g, severity := sev, raised := s.now, taken := none, repeats := 0 }
    let appended (old : List Item) : Prop := ∃ number, (∀ x ∈ old, x.number ≠ number) ∧ 1 ≤ number ∧ number ≤ 65535
      ∧ u.queue.counter = number ∧ u.queue.items = old ++ [item number]
    let unopposed := k ≠ .stringReplace ∨ ∀ x ∈ items, x.kind = .stringReview → x.target = g → x.taken ≠ none
    let blocked := k = .stringReview ∧ ∃ x ∈ items, x.kind = .stringReplace ∧ x.target = g
    (∀ (place : Nat) (x : Item), items[place]? = some x → ¬isOther x →
      (∀ (j : Nat) (y : Item), j < place → items[j]? = some y → isOther y) →
      u.queue.items = items.set place { x with severity := max x.severity sev, repeats := min 255 (x.repeats + 1) }
        ∧ u.queue.counter = s.queue.counter ∧ u.queue.overflow = s.queue.overflow)
    ∧ ((∀ x ∈ items, isOther x) → blocked → u = s)
    ∧ ((∀ x ∈ items, isOther x) → ¬blocked → unopposed → items.length < 24 → appended items)
    ∧ (∀ (place : Nat) (x : Item), (∀ y ∈ items, isOther y) → k = .stringReplace → items[place]? = some x →
        x.kind = .stringReview → x.target = g → x.taken = none → items.length ≤ 24 →
        (∀ (j : Nat) (y : Item), j < place → items[j]? = some y → ¬(y.kind = .stringReview ∧ y.target = g)) →
        appended (items.eraseIdx place))
    ∧ (∀ (place : Nat) (x : Item), (∀ y ∈ items, isOther y) → ¬blocked → unopposed → items.length = 24 →
        items[place]? = some x → x.taken = none → x.severity < sev → (∀ y ∈ items, y.taken = none → x.severity ≤ y.severity) →
        (∀ (j : Nat) (y : Item), j < place → items[j]? = some y → y.taken = none → y.severity ≠ x.severity) →
        appended (items.eraseIdx place) ∧ u.queue.displaced = min 65535 (s.queue.displaced + 1))
    ∧ ((∀ y ∈ items, isOther y) → ¬blocked → unopposed → items.length = 24 →
        (∀ y ∈ items, y.taken = none → sev ≤ y.severity) →
        u = { s with queue := { s.queue with overflow := min 65535 (s.queue.overflow + 1) } }))
  ∧ ∀ s : State,
    let severe := s.queue.items.countP fun x => 2 ≤ x.severity
    let urgent := s.queue.items.any (fun x => x.severity == 3) = true
    takeMark s = { s with queue := { s.queue with mark := (takeMark s).queue.mark } }
      ∧ (urgent ∨ s.cfg.riseCount ≤ severe → (takeMark s).queue.mark = true)
      ∧ (¬urgent → severe < s.cfg.riseCount → severe < s.cfg.fallCount → (takeMark s).queue.mark = false)
      ∧ (¬urgent → severe < s.cfg.riseCount → s.cfg.fallCount ≤ severe → (takeMark s).queue.mark = s.queue.mark)

/-! ## Reset and start (chapter 11) -/

/-- Reset and loss of power (R174, R175), a start into CONFIG_FAULT or JOINING (R170, R171, R175, R176), and the restart (R177). That a
reset clears the blocks at once is the model's choice (assumption 3), and so are the state of a part in CONFIG_FAULT (assumptions 6 and
27), a START taken in every state (assumption 17), and a RESTART_START that changes nothing before its moment (assumptions 1 and 17). -/
def Obligations.HeldAndStarted : Prop :=
  (∀ s : State,
    let areas := match s.port.writing with
      | none => s.port.areas
      | some w => s.port.areas.set (pageIndex w.page) none
    exec .resetNAsserted s = .next (State.blocksAtStart true s.pins areas s.free s.pending)
    ∧ exec .powerLoss s = .next (State.blocksAtStart true s.pins areas s.free s.pending)
    ∧ ∀ (st : Straps) (image : Option Image) (lost : List PageId),
      let id : Identity := { station := st.id.toNat, group := st.grp.toNat, fast := st.rate }
      (isStation st.id.toNat = false ∨ (∀ im, image = some im → imageGood im = false) →
        exec (.start st image lost) s = .next { State.blocksAtStart false s.pins areas s.free s.pending with
          id := id, line := { Line.start with state := .configFault } })
      ∧ ∀ im, isStation st.id.toNat = true → image = some im → imageGood im = true →
        ∃ t, exec (.start st image lost) s = .next t
          ∧ t.held = false ∧ t.pins = s.pins ∧ t.id = id ∧ t.cfg = clampSettings im.fields ∧ t.pending = s.pending
          ∧ t.line = { Line.start with state := .joining, statusTimer := some 10, joiningTimer := some 40 }
          ∧ t.stack = Stack.start ∧ t.claims = Claims.start ∧ t.peers = List.replicate 24 Peer.blank
          ∧ t.intake = { Intake.start t.cfg.stringCount with second := some 10 }
          ∧ t.accounts.second = some 10 ∧ t.accounts.strings.length = t.cfg.stringCount
          ∧ t.clock.tenths = 0 ∧ t.clock.hourTimer = some 36000
          ∧ t.bypass.mains = .present ∧ t.bypass.lossTimer = (if s.pins.mainsOk then none else some 1)
          ∧ (s.pins.mbpCl = true → s.pins.mbpOp = false → t.bypass.position = .closed ∧ t.bypass.confirmed = .closed)
          ∧ (s.pins.mbpCl = false → s.pins.mbpOp = true → t.bypass.position = .opened ∧ t.bypass.confirmed = .opened)
          ∧ (s.pins.mbpCl = s.pins.mbpOp → t.bypass.position = .transit ∧ t.bypass.confirmed = .unknown)
          ∧ t.visits = { Visits.start with counter := t.visits.counter, settleTimer := some 5 }
          ∧ (∀ it ∈ t.queue.items, it.taken = none)
          ∧ (∀ p : CabinetPage, areas[0]? = some (some (.cabinet p)) → PageId.cabinet ∉ lost →
              t.clock.hours = p.hours ∧ t.clock.hoursAtStart = p.hours ∧ t.visits.counter = p.visitCounter
              ∧ t.bypass.staticCount = p.staticCount ∧ t.bypass.breakerCount = p.breakerCount)
          ∧ (∀ (i : Nat) (p : StringPage), i < t.cfg.stringCount → areas[1 + i]? = some (some (.string p)) →
              PageId.string i ∉ lost → ∃ a, t.accounts.strings[i]? = some a ∧ a.wear = p.wear ∧ a.residue = p.residue
                ∧ a.events = p.events ∧ a.measured = p.measured ∧ a.event = .idle ∧ a.charge = 0)
          ∧ (areas[0]? = some none ∨ PageId.cabinet ∈ lost → t.clock.hours = 0 ∧ t.monitor.active.recordLost = true))
  ∧ (∀ (s : State) (st : Straps) (image : Option Image) (lost : List PageId),
    (s.port.restartWait = true → s.port.list = [] → s.port.writing = none → (∀ f ∈ s.line.tx, f.awaited = false) →
      exec (.restartStart st image lost) s = exec (.start st image lost) s)
    ∧ (s.port.restartWait = false ∨ s.port.list ≠ [] ∨ s.port.writing ≠ none ∨ (∃ f ∈ s.line.tx, f.awaited = true) →
      exec (.restartStart st image lost) s = .next s))
  ∧ ∀ (s : State) (term : Nat) (tag : Byte), Servable term 14#8 tag [] s →
    ∃ t, exec (.restart term tag []) s = .next t
      ∧ (s.port.restartWait = true → After (answered term 14#8 tag [] 1#8 [] s) t)
      ∧ (s.port.restartWait = false → s.stack.frames ≠ [] ∨ s.claims.own ≠ none → Refused term 14#8 tag [] 5#8 s t)
      ∧ (s.port.restartWait = false → s.stack.frames = [] → s.claims.own = none →
          After (answered term 14#8 tag [] 1#8 [] { s with
            port := { s.port with restartWait := true }, accounts := { s.accounts with second := none } }) t
          ∧ (∀ p ∈ allPages, pageState p s = .dirty → p ∈ t.port.list ∨ t.port.writing.map Write.page = some p)
          ∧ (Quiet s → s.line.tx.length < 6 → { resultFrame term 14#8 tag 1#8 [] with awaited := true } ∈ t.line.tx))
end

