-- ==== Sys2Proof/Laws/FramesPort.lean ====
section
/-! SUPPORT. What each operation of the memory port and the work queue leaves alone: one lemma per operation, every field
of the state that it does not write. -/

namespace Sys2Proof.Machine

/-- A property that every round of a fold keeps holds after the fold. -/
theorem foldl_inv {α : Type} {P : State → Prop} (g : State → α → State) (h : ∀ t a, P t → P (g t a)) (l : List α)
    (s : State) (hs : P s) : P (l.foldl g s) := by
  induction l generalizing s with
  | nil => exact hs
  | cons a l ih => exact ih _ (h s a hs)

@[simp] theorem setPageState_keeps (p : PageId) (v : PageState) (s : State) :
      (setPageState p v s).held = s.held ∧ (setPageState p v s).pins = s.pins ∧ (setPageState p v s).id = s.id ∧
      (setPageState p v s).cfg = s.cfg ∧ (setPageState p v s).clampCount = s.clampCount ∧
      (setPageState p v s).clock = s.clock ∧ (setPageState p v s).intake = s.intake ∧
      (setPageState p v s).accounts = s.accounts ∧ (setPageState p v s).stack = s.stack ∧
      (setPageState p v s).cond = s.cond ∧ (setPageState p v s).line = s.line ∧
      (setPageState p v s).peers = s.peers ∧ (setPageState p v s).claims = s.claims ∧
      (setPageState p v s).bypass = s.bypass ∧ (setPageState p v s).visits = s.visits ∧
      (setPageState p v s).queue = s.queue ∧ (setPageState p v s).monitor = s.monitor ∧
      (setPageState p v s).port.list = s.port.list ∧ (setPageState p v s).port.writing = s.port.writing ∧
      (setPageState p v s).port.restartWait = s.port.restartWait ∧ (setPageState p v s).port.areas = s.port.areas ∧
      (setPageState p v s).free = s.free ∧ (setPageState p v s).pending = s.pending := by
  unfold setPageState
  simp

@[simp] theorem markDirty_keeps (p : PageId) (s : State) :
      (markDirty p s).held = s.held ∧ (markDirty p s).pins = s.pins ∧ (markDirty p s).id = s.id ∧
      (markDirty p s).cfg = s.cfg ∧ (markDirty p s).clampCount = s.clampCount ∧ (markDirty p s).clock = s.clock ∧
      (markDirty p s).intake = s.intake ∧ (markDirty p s).accounts = s.accounts ∧ (markDirty p s).stack = s.stack ∧
      (markDirty p s).cond = s.cond ∧ (markDirty p s).line = s.line ∧ (markDirty p s).peers = s.peers ∧
      (markDirty p s).claims = s.claims ∧ (markDirty p s).bypass = s.bypass ∧ (markDirty p s).visits = s.visits ∧
      (markDirty p s).queue = s.queue ∧ (markDirty p s).monitor = s.monitor ∧
      (markDirty p s).port.list = s.port.list ∧ (markDirty p s).port.writing = s.port.writing ∧
      (markDirty p s).port.restartWait = s.port.restartWait ∧ (markDirty p s).port.areas = s.port.areas ∧
      (markDirty p s).free = s.free ∧ (markDirty p s).pending = s.pending := by
  unfold markDirty
  simp

@[simp] theorem putOnList_keeps (ps : List PageId) (s : State) :
      (putOnList ps s).held = s.held ∧ (putOnList ps s).pins = s.pins ∧ (putOnList ps s).id = s.id ∧
      (putOnList ps s).cfg = s.cfg ∧ (putOnList ps s).clampCount = s.clampCount ∧ (putOnList ps s).clock = s.clock ∧
      (putOnList ps s).intake = s.intake ∧ (putOnList ps s).accounts = s.accounts ∧
      (putOnList ps s).stack = s.stack ∧ (putOnList ps s).cond = s.cond ∧ (putOnList ps s).line = s.line ∧
      (putOnList ps s).peers = s.peers ∧ (putOnList ps s).claims = s.claims ∧ (putOnList ps s).bypass = s.bypass ∧
      (putOnList ps s).visits = s.visits ∧ (putOnList ps s).queue = s.queue ∧ (putOnList ps s).monitor = s.monitor ∧
      (putOnList ps s).port.states = s.port.states ∧ (putOnList ps s).port.writing = s.port.writing ∧
      (putOnList ps s).port.restartWait = s.port.restartWait ∧ (putOnList ps s).port.areas = s.port.areas ∧
      (putOnList ps s).free = s.free ∧ (putOnList ps s).pending = s.pending := by
  unfold putOnList
  simp

@[simp] theorem askWrite_keeps (p : PageId) (s : State) :
      (askWrite p s).held = s.held ∧ (askWrite p s).pins = s.pins ∧ (askWrite p s).id = s.id ∧
      (askWrite p s).cfg = s.cfg ∧ (askWrite p s).clampCount = s.clampCount ∧ (askWrite p s).clock = s.clock ∧
      (askWrite p s).intake = s.intake ∧ (askWrite p s).accounts = s.accounts ∧ (askWrite p s).stack = s.stack ∧
      (askWrite p s).cond = s.cond ∧ (askWrite p s).line = s.line ∧ (askWrite p s).peers = s.peers ∧
      (askWrite p s).claims = s.claims ∧ (askWrite p s).bypass = s.bypass ∧ (askWrite p s).visits = s.visits ∧
      (askWrite p s).queue = s.queue ∧ (askWrite p s).monitor = s.monitor ∧
      (askWrite p s).port.states = s.port.states ∧ (askWrite p s).port.writing = s.port.writing ∧
      (askWrite p s).port.restartWait = s.port.restartWait ∧ (askWrite p s).port.areas = s.port.areas ∧
      (askWrite p s).free = s.free ∧ (askWrite p s).pending = s.pending := by
  unfold askWrite
  (repeat' split) <;> simp

@[simp] theorem listDirty_keeps (s : State) :
      (listDirty s).held = s.held ∧ (listDirty s).pins = s.pins ∧ (listDirty s).id = s.id ∧
      (listDirty s).cfg = s.cfg ∧ (listDirty s).clampCount = s.clampCount ∧ (listDirty s).clock = s.clock ∧
      (listDirty s).intake = s.intake ∧ (listDirty s).accounts = s.accounts ∧ (listDirty s).stack = s.stack ∧
      (listDirty s).cond = s.cond ∧ (listDirty s).line = s.line ∧ (listDirty s).peers = s.peers ∧
      (listDirty s).claims = s.claims ∧ (listDirty s).bypass = s.bypass ∧ (listDirty s).visits = s.visits ∧
      (listDirty s).queue = s.queue ∧ (listDirty s).monitor = s.monitor ∧ (listDirty s).port.states = s.port.states ∧
      (listDirty s).port.writing = s.port.writing ∧ (listDirty s).port.restartWait = s.port.restartWait ∧
      (listDirty s).port.areas = s.port.areas ∧ (listDirty s).free = s.free ∧ (listDirty s).pending = s.pending := by
  unfold listDirty
  simp

@[simp] theorem writeSoon_keeps (p : PageId) (s : State) :
      (writeSoon p s).held = s.held ∧ (writeSoon p s).pins = s.pins ∧ (writeSoon p s).id = s.id ∧
      (writeSoon p s).cfg = s.cfg ∧ (writeSoon p s).clampCount = s.clampCount ∧ (writeSoon p s).clock = s.clock ∧
      (writeSoon p s).intake = s.intake ∧ (writeSoon p s).accounts = s.accounts ∧ (writeSoon p s).stack = s.stack ∧
      (writeSoon p s).cond = s.cond ∧ (writeSoon p s).line = s.line ∧ (writeSoon p s).peers = s.peers ∧
      (writeSoon p s).claims = s.claims ∧ (writeSoon p s).bypass = s.bypass ∧ (writeSoon p s).visits = s.visits ∧
      (writeSoon p s).queue = s.queue ∧ (writeSoon p s).monitor = s.monitor ∧
      (writeSoon p s).port.writing = s.port.writing ∧ (writeSoon p s).port.restartWait = s.port.restartWait ∧
      (writeSoon p s).port.areas = s.port.areas ∧ (writeSoon p s).free = s.free ∧
      (writeSoon p s).pending = s.pending := by
  unfold writeSoon
  simp

@[simp] theorem beginWrite_keeps (s : State) :
      (beginWrite s).held = s.held ∧ (beginWrite s).pins = s.pins ∧ (beginWrite s).id = s.id ∧
      (beginWrite s).cfg = s.cfg ∧ (beginWrite s).clampCount = s.clampCount ∧ (beginWrite s).clock = s.clock ∧
      (beginWrite s).intake = s.intake ∧ (beginWrite s).accounts = s.accounts ∧ (beginWrite s).stack = s.stack ∧
      (beginWrite s).cond = s.cond ∧ (beginWrite s).line = s.line ∧ (beginWrite s).peers = s.peers ∧
      (beginWrite s).claims = s.claims ∧ (beginWrite s).bypass = s.bypass ∧ (beginWrite s).visits = s.visits ∧
      (beginWrite s).queue = s.queue ∧ (beginWrite s).monitor = s.monitor ∧
      (beginWrite s).port.restartWait = s.port.restartWait ∧ (beginWrite s).port.areas = s.port.areas ∧
      (beginWrite s).free = s.free ∧ (beginWrite s).pending = s.pending := by
  unfold beginWrite
  dsimp only
  (repeat' split) <;> simp

@[simp] theorem settlePort_keeps (before : List PageId) (s : State) :
      (settlePort before s).held = s.held ∧ (settlePort before s).pins = s.pins ∧ (settlePort before s).id = s.id ∧
      (settlePort before s).cfg = s.cfg ∧ (settlePort before s).clampCount = s.clampCount ∧
      (settlePort before s).clock = s.clock ∧ (settlePort before s).intake = s.intake ∧
      (settlePort before s).accounts = s.accounts ∧ (settlePort before s).stack = s.stack ∧
      (settlePort before s).cond = s.cond ∧ (settlePort before s).line = s.line ∧
      (settlePort before s).peers = s.peers ∧ (settlePort before s).claims = s.claims ∧
      (settlePort before s).bypass = s.bypass ∧ (settlePort before s).visits = s.visits ∧
      (settlePort before s).queue = s.queue ∧ (settlePort before s).monitor = s.monitor ∧
      (settlePort before s).port.restartWait = s.port.restartWait ∧ (settlePort before s).port.areas = s.port.areas ∧
      (settlePort before s).free = s.free ∧ (settlePort before s).pending = s.pending := by
  unfold settlePort
  dsimp only
  simp

@[simp] theorem setArea_keeps (p : PageId) (c : Option PageContent) (s : State) :
      (setArea p c s).held = s.held ∧ (setArea p c s).pins = s.pins ∧ (setArea p c s).id = s.id ∧
      (setArea p c s).cfg = s.cfg ∧ (setArea p c s).clampCount = s.clampCount ∧ (setArea p c s).clock = s.clock ∧
      (setArea p c s).intake = s.intake ∧ (setArea p c s).accounts = s.accounts ∧ (setArea p c s).stack = s.stack ∧
      (setArea p c s).cond = s.cond ∧ (setArea p c s).line = s.line ∧ (setArea p c s).peers = s.peers ∧
      (setArea p c s).claims = s.claims ∧ (setArea p c s).bypass = s.bypass ∧ (setArea p c s).visits = s.visits ∧
      (setArea p c s).queue = s.queue ∧ (setArea p c s).monitor = s.monitor ∧
      (setArea p c s).port.states = s.port.states ∧ (setArea p c s).port.list = s.port.list ∧
      (setArea p c s).port.writing = s.port.writing ∧ (setArea p c s).port.restartWait = s.port.restartWait ∧
      (setArea p c s).free = s.free ∧ (setArea p c s).pending = s.pending := by
  unfold setArea
  simp

@[simp] theorem finishWrite_keeps (s : State) :
      (finishWrite s).held = s.held ∧ (finishWrite s).pins = s.pins ∧ (finishWrite s).id = s.id ∧
      (finishWrite s).cfg = s.cfg ∧ (finishWrite s).clampCount = s.clampCount ∧ (finishWrite s).clock = s.clock ∧
      (finishWrite s).intake = s.intake ∧ (finishWrite s).accounts = s.accounts ∧ (finishWrite s).stack = s.stack ∧
      (finishWrite s).cond = s.cond ∧ (finishWrite s).line = s.line ∧ (finishWrite s).peers = s.peers ∧
      (finishWrite s).claims = s.claims ∧ (finishWrite s).bypass = s.bypass ∧ (finishWrite s).visits = s.visits ∧
      (finishWrite s).queue = s.queue ∧ (finishWrite s).monitor = s.monitor ∧
      (finishWrite s).port.restartWait = s.port.restartWait ∧ (finishWrite s).free = s.free ∧
      (finishWrite s).pending = s.pending := by
  unfold finishWrite
  split
  · simp
  · dsimp only
    split <;> simp

@[simp] theorem failWrite_keeps (s : State) :
      (failWrite s).held = s.held ∧ (failWrite s).pins = s.pins ∧ (failWrite s).id = s.id ∧
      (failWrite s).cfg = s.cfg ∧ (failWrite s).clampCount = s.clampCount ∧ (failWrite s).clock = s.clock ∧
      (failWrite s).intake = s.intake ∧ (failWrite s).accounts = s.accounts ∧ (failWrite s).stack = s.stack ∧
      (failWrite s).cond = s.cond ∧ (failWrite s).line = s.line ∧ (failWrite s).peers = s.peers ∧
      (failWrite s).claims = s.claims ∧ (failWrite s).bypass = s.bypass ∧ (failWrite s).visits = s.visits ∧
      (failWrite s).queue = s.queue ∧ (failWrite s).monitor = s.monitor ∧ (failWrite s).port.list = s.port.list ∧
      (failWrite s).port.restartWait = s.port.restartWait ∧ (failWrite s).pending = s.pending := by
  unfold failWrite
  split
  · simp
  · dsimp only
    split <;> simp

@[simp] theorem takeMark_keeps (s : State) :
      (takeMark s).held = s.held ∧ (takeMark s).pins = s.pins ∧ (takeMark s).id = s.id ∧ (takeMark s).cfg = s.cfg ∧
      (takeMark s).clampCount = s.clampCount ∧ (takeMark s).clock = s.clock ∧ (takeMark s).intake = s.intake ∧
      (takeMark s).accounts = s.accounts ∧ (takeMark s).stack = s.stack ∧ (takeMark s).cond = s.cond ∧
      (takeMark s).line = s.line ∧ (takeMark s).peers = s.peers ∧ (takeMark s).claims = s.claims ∧
      (takeMark s).bypass = s.bypass ∧ (takeMark s).visits = s.visits ∧ (takeMark s).queue.items = s.queue.items ∧
      (takeMark s).queue.counter = s.queue.counter ∧ (takeMark s).queue.overflow = s.queue.overflow ∧
      (takeMark s).queue.displaced = s.queue.displaced ∧ (takeMark s).monitor = s.monitor ∧
      (takeMark s).port = s.port ∧ (takeMark s).free = s.free ∧ (takeMark s).pending = s.pending := by
  unfold takeMark
  simp

@[simp] theorem writePlace_keeps (place : Nat) (s : State) :
      (writePlace place s).held = s.held ∧ (writePlace place s).pins = s.pins ∧ (writePlace place s).id = s.id ∧
      (writePlace place s).cfg = s.cfg ∧ (writePlace place s).clampCount = s.clampCount ∧
      (writePlace place s).clock = s.clock ∧ (writePlace place s).intake = s.intake ∧
      (writePlace place s).accounts = s.accounts ∧ (writePlace place s).stack = s.stack ∧
      (writePlace place s).cond = s.cond ∧ (writePlace place s).line = s.line ∧
      (writePlace place s).peers = s.peers ∧ (writePlace place s).claims = s.claims ∧
      (writePlace place s).bypass = s.bypass ∧ (writePlace place s).visits = s.visits ∧
      (writePlace place s).queue = s.queue ∧ (writePlace place s).monitor = s.monitor ∧
      (writePlace place s).port.writing = s.port.writing ∧
      (writePlace place s).port.restartWait = s.port.restartWait ∧ (writePlace place s).port.areas = s.port.areas ∧
      (writePlace place s).free = s.free ∧ (writePlace place s).pending = s.pending := by
  unfold writePlace
  simp

@[simp] theorem writePlaces_keeps (first last : Nat) (s : State) :
      (writePlaces first last s).held = s.held ∧ (writePlaces first last s).pins = s.pins ∧
      (writePlaces first last s).id = s.id ∧ (writePlaces first last s).cfg = s.cfg ∧
      (writePlaces first last s).clampCount = s.clampCount ∧ (writePlaces first last s).clock = s.clock ∧
      (writePlaces first last s).intake = s.intake ∧ (writePlaces first last s).accounts = s.accounts ∧
      (writePlaces first last s).stack = s.stack ∧ (writePlaces first last s).cond = s.cond ∧
      (writePlaces first last s).line = s.line ∧ (writePlaces first last s).peers = s.peers ∧
      (writePlaces first last s).claims = s.claims ∧ (writePlaces first last s).bypass = s.bypass ∧
      (writePlaces first last s).visits = s.visits ∧ (writePlaces first last s).queue = s.queue ∧
      (writePlaces first last s).monitor = s.monitor ∧ (writePlaces first last s).port.writing = s.port.writing ∧
      (writePlaces first last s).port.restartWait = s.port.restartWait ∧
      (writePlaces first last s).port.areas = s.port.areas ∧ (writePlaces first last s).free = s.free ∧
      (writePlaces first last s).pending = s.pending := by
  unfold writePlaces
  refine foldl_inv (P := fun t =>
    t.held = s.held ∧ t.pins = s.pins ∧ t.id = s.id ∧ t.cfg = s.cfg ∧ t.clampCount = s.clampCount ∧
    t.clock = s.clock ∧ t.intake = s.intake ∧ t.accounts = s.accounts ∧ t.stack = s.stack ∧ t.cond = s.cond ∧
    t.line = s.line ∧ t.peers = s.peers ∧ t.claims = s.claims ∧ t.bypass = s.bypass ∧ t.visits = s.visits ∧
    t.queue = s.queue ∧ t.monitor = s.monitor ∧ t.port.writing = s.port.writing ∧
    t.port.restartWait = s.port.restartWait ∧ t.port.areas = s.port.areas ∧ t.free = s.free ∧ t.pending = s.pending) _ ?_ _ _ ?_
  · intro t a h
    simp [h]
  · simp

@[simp] theorem removePlace_keeps (place : Nat) (s : State) :
      (removePlace place s).held = s.held ∧ (removePlace place s).pins = s.pins ∧ (removePlace place s).id = s.id ∧
      (removePlace place s).cfg = s.cfg ∧ (removePlace place s).clampCount = s.clampCount ∧
      (removePlace place s).clock = s.clock ∧ (removePlace place s).intake = s.intake ∧
      (removePlace place s).accounts = s.accounts ∧ (removePlace place s).stack = s.stack ∧
      (removePlace place s).cond = s.cond ∧ (removePlace place s).line = s.line ∧
      (removePlace place s).peers = s.peers ∧ (removePlace place s).claims = s.claims ∧
      (removePlace place s).bypass = s.bypass ∧ (removePlace place s).visits = s.visits ∧
      (removePlace place s).queue.counter = s.queue.counter ∧
      (removePlace place s).queue.overflow = s.queue.overflow ∧
      (removePlace place s).queue.displaced = s.queue.displaced ∧ (removePlace place s).monitor = s.monitor ∧
      (removePlace place s).port.writing = s.port.writing ∧
      (removePlace place s).port.restartWait = s.port.restartWait ∧ (removePlace place s).port.areas = s.port.areas ∧
      (removePlace place s).free = s.free ∧ (removePlace place s).pending = s.pending := by
  unfold removePlace
  dsimp only
  simp

@[simp] theorem changePlace_keeps (place : Nat) (f : Item → Item) (s : State) :
      (changePlace place f s).held = s.held ∧ (changePlace place f s).pins = s.pins ∧
      (changePlace place f s).id = s.id ∧ (changePlace place f s).cfg = s.cfg ∧
      (changePlace place f s).clampCount = s.clampCount ∧ (changePlace place f s).clock = s.clock ∧
      (changePlace place f s).intake = s.intake ∧ (changePlace place f s).accounts = s.accounts ∧
      (changePlace place f s).stack = s.stack ∧ (changePlace place f s).cond = s.cond ∧
      (changePlace place f s).line = s.line ∧ (changePlace place f s).peers = s.peers ∧
      (changePlace place f s).claims = s.claims ∧ (changePlace place f s).bypass = s.bypass ∧
      (changePlace place f s).visits = s.visits ∧ (changePlace place f s).queue.counter = s.queue.counter ∧
      (changePlace place f s).queue.overflow = s.queue.overflow ∧
      (changePlace place f s).queue.displaced = s.queue.displaced ∧
      (changePlace place f s).queue.mark = s.queue.mark ∧ (changePlace place f s).monitor = s.monitor ∧
      (changePlace place f s).port.writing = s.port.writing ∧
      (changePlace place f s).port.restartWait = s.port.restartWait ∧
      (changePlace place f s).port.areas = s.port.areas ∧ (changePlace place f s).free = s.free ∧
      (changePlace place f s).pending = s.pending := by
  unfold changePlace
  simp

@[simp] theorem appendItem_keeps (k : ItemKind) (t : Target) (severity : Nat) (s : State) :
      (appendItem k t severity s).held = s.held ∧ (appendItem k t severity s).pins = s.pins ∧
      (appendItem k t severity s).id = s.id ∧ (appendItem k t severity s).cfg = s.cfg ∧
      (appendItem k t severity s).clampCount = s.clampCount ∧ (appendItem k t severity s).clock = s.clock ∧
      (appendItem k t severity s).intake = s.intake ∧ (appendItem k t severity s).accounts = s.accounts ∧
      (appendItem k t severity s).stack = s.stack ∧ (appendItem k t severity s).cond = s.cond ∧
      (appendItem k t severity s).line = s.line ∧ (appendItem k t severity s).peers = s.peers ∧
      (appendItem k t severity s).claims = s.claims ∧ (appendItem k t severity s).bypass = s.bypass ∧
      (appendItem k t severity s).visits = s.visits ∧ (appendItem k t severity s).queue.overflow = s.queue.overflow ∧
      (appendItem k t severity s).queue.displaced = s.queue.displaced ∧
      (appendItem k t severity s).monitor = s.monitor ∧ (appendItem k t severity s).port.writing = s.port.writing ∧
      (appendItem k t severity s).port.restartWait = s.port.restartWait ∧
      (appendItem k t severity s).port.areas = s.port.areas ∧ (appendItem k t severity s).free = s.free ∧
      (appendItem k t severity s).pending = s.pending := by
  unfold appendItem
  dsimp only
  simp

@[simp] theorem enterItem_keeps (k : ItemKind) (t : Target) (severity : Nat) (s : State) :
      (enterItem k t severity s).held = s.held ∧ (enterItem k t severity s).pins = s.pins ∧
      (enterItem k t severity s).id = s.id ∧ (enterItem k t severity s).cfg = s.cfg ∧
      (enterItem k t severity s).clampCount = s.clampCount ∧ (enterItem k t severity s).clock = s.clock ∧
      (enterItem k t severity s).intake = s.intake ∧ (enterItem k t severity s).accounts = s.accounts ∧
      (enterItem k t severity s).stack = s.stack ∧ (enterItem k t severity s).cond = s.cond ∧
      (enterItem k t severity s).line = s.line ∧ (enterItem k t severity s).peers = s.peers ∧
      (enterItem k t severity s).claims = s.claims ∧ (enterItem k t severity s).bypass = s.bypass ∧
      (enterItem k t severity s).visits = s.visits ∧ (enterItem k t severity s).monitor = s.monitor ∧
      (enterItem k t severity s).port.writing = s.port.writing ∧
      (enterItem k t severity s).port.restartWait = s.port.restartWait ∧
      (enterItem k t severity s).port.areas = s.port.areas ∧ (enterItem k t severity s).free = s.free ∧
      (enterItem k t severity s).pending = s.pending := by
  unfold enterItem
  (repeat' split) <;> simp

@[simp] theorem supersedeReview_keeps (t : Target) (s : State) :
      (supersedeReview t s).held = s.held ∧ (supersedeReview t s).pins = s.pins ∧ (supersedeReview t s).id = s.id ∧
      (supersedeReview t s).cfg = s.cfg ∧ (supersedeReview t s).clampCount = s.clampCount ∧
      (supersedeReview t s).clock = s.clock ∧ (supersedeReview t s).intake = s.intake ∧
      (supersedeReview t s).accounts = s.accounts ∧ (supersedeReview t s).stack = s.stack ∧
      (supersedeReview t s).cond = s.cond ∧ (supersedeReview t s).line = s.line ∧
      (supersedeReview t s).peers = s.peers ∧ (supersedeReview t s).claims = s.claims ∧
      (supersedeReview t s).bypass = s.bypass ∧ (supersedeReview t s).visits = s.visits ∧
      (supersedeReview t s).queue.counter = s.queue.counter ∧
      (supersedeReview t s).queue.overflow = s.queue.overflow ∧
      (supersedeReview t s).queue.displaced = s.queue.displaced ∧ (supersedeReview t s).monitor = s.monitor ∧
      (supersedeReview t s).port.writing = s.port.writing ∧
      (supersedeReview t s).port.restartWait = s.port.restartWait ∧ (supersedeReview t s).port.areas = s.port.areas ∧
      (supersedeReview t s).free = s.free ∧ (supersedeReview t s).pending = s.pending := by
  unfold supersedeReview
  (repeat' split) <;> simp

@[simp] theorem raiseItem_keeps (k : ItemKind) (t : Target) (severity : Nat) (s : State) :
      (raiseItem k t severity s).held = s.held ∧ (raiseItem k t severity s).pins = s.pins ∧
      (raiseItem k t severity s).id = s.id ∧ (raiseItem k t severity s).cfg = s.cfg ∧
      (raiseItem k t severity s).clampCount = s.clampCount ∧ (raiseItem k t severity s).clock = s.clock ∧
      (raiseItem k t severity s).intake = s.intake ∧ (raiseItem k t severity s).accounts = s.accounts ∧
      (raiseItem k t severity s).stack = s.stack ∧ (raiseItem k t severity s).cond = s.cond ∧
      (raiseItem k t severity s).line = s.line ∧ (raiseItem k t severity s).peers = s.peers ∧
      (raiseItem k t severity s).claims = s.claims ∧ (raiseItem k t severity s).bypass = s.bypass ∧
      (raiseItem k t severity s).visits = s.visits ∧ (raiseItem k t severity s).monitor = s.monitor ∧
      (raiseItem k t severity s).port.writing = s.port.writing ∧
      (raiseItem k t severity s).port.restartWait = s.port.restartWait ∧
      (raiseItem k t severity s).port.areas = s.port.areas ∧ (raiseItem k t severity s).free = s.free ∧
      (raiseItem k t severity s).pending = s.pending := by
  unfold raiseItem
  (repeat' split) <;> simp

end Sys2Proof.Machine
end

