-- ==== Sys2Proof/Laws/FramesAccounts.lean ====
section
/-! SUPPORT. What each operation of the string accounts and the conditioning controller leaves alone: one lemma per operation, every field
of the state that it does not write. -/

namespace Sys2Proof.Machine

@[simp] theorem setAccount_keeps (i : Nat) (a : Account) (s : State) :
      (setAccount i a s).held = s.held ∧ (setAccount i a s).pins = s.pins ∧ (setAccount i a s).id = s.id ∧
      (setAccount i a s).cfg = s.cfg ∧ (setAccount i a s).clampCount = s.clampCount ∧
      (setAccount i a s).clock = s.clock ∧ (setAccount i a s).intake = s.intake ∧
      (setAccount i a s).accounts.energy = s.accounts.energy ∧
      (setAccount i a s).accounts.second = s.accounts.second ∧ (setAccount i a s).stack = s.stack ∧
      (setAccount i a s).cond = s.cond ∧ (setAccount i a s).line = s.line ∧ (setAccount i a s).peers = s.peers ∧
      (setAccount i a s).claims = s.claims ∧ (setAccount i a s).bypass = s.bypass ∧
      (setAccount i a s).visits = s.visits ∧ (setAccount i a s).queue = s.queue ∧
      (setAccount i a s).monitor = s.monitor ∧ (setAccount i a s).port = s.port ∧ (setAccount i a s).free = s.free ∧
      (setAccount i a s).pending = s.pending := by
  unfold setAccount
  simp

@[simp] theorem recompute_keeps (i : Nat) (s : State) :
      (recompute i s).held = s.held ∧ (recompute i s).pins = s.pins ∧ (recompute i s).id = s.id ∧
      (recompute i s).cfg = s.cfg ∧ (recompute i s).clampCount = s.clampCount ∧ (recompute i s).clock = s.clock ∧
      (recompute i s).intake = s.intake ∧ (recompute i s).accounts.second = s.accounts.second ∧
      (recompute i s).stack = s.stack ∧ (recompute i s).cond = s.cond ∧ (recompute i s).line = s.line ∧
      (recompute i s).peers = s.peers ∧ (recompute i s).claims = s.claims ∧ (recompute i s).bypass = s.bypass ∧
      (recompute i s).visits = s.visits ∧ (recompute i s).monitor = s.monitor ∧
      (recompute i s).port.writing = s.port.writing ∧ (recompute i s).port.restartWait = s.port.restartWait ∧
      (recompute i s).port.areas = s.port.areas ∧ (recompute i s).free = s.free ∧
      (recompute i s).pending = s.pending := by
  unfold recompute
  dsimp only
  (repeat' split) <;> simp

@[simp] theorem wearString_keeps (i : Nat) (s : State) :
      (wearString i s).held = s.held ∧ (wearString i s).pins = s.pins ∧ (wearString i s).id = s.id ∧
      (wearString i s).cfg = s.cfg ∧ (wearString i s).clampCount = s.clampCount ∧ (wearString i s).clock = s.clock ∧
      (wearString i s).intake = s.intake ∧ (wearString i s).accounts.second = s.accounts.second ∧
      (wearString i s).stack = s.stack ∧ (wearString i s).cond = s.cond ∧ (wearString i s).line = s.line ∧
      (wearString i s).peers = s.peers ∧ (wearString i s).claims = s.claims ∧ (wearString i s).bypass = s.bypass ∧
      (wearString i s).visits = s.visits ∧ (wearString i s).monitor = s.monitor ∧
      (wearString i s).port.writing = s.port.writing ∧ (wearString i s).port.restartWait = s.port.restartWait ∧
      (wearString i s).port.areas = s.port.areas ∧ (wearString i s).free = s.free ∧
      (wearString i s).pending = s.pending := by
  unfold wearString
  dsimp only
  (repeat' split) <;> simp

@[simp] theorem takeRecord_keeps (i : Nat) (result : TestResult) (qt : Nat) (measured : Option Nat) (s : State) :
      (takeRecord i result qt measured s).held = s.held ∧ (takeRecord i result qt measured s).pins = s.pins ∧
      (takeRecord i result qt measured s).id = s.id ∧ (takeRecord i result qt measured s).cfg = s.cfg ∧
      (takeRecord i result qt measured s).clampCount = s.clampCount ∧
      (takeRecord i result qt measured s).clock = s.clock ∧ (takeRecord i result qt measured s).intake = s.intake ∧
      (takeRecord i result qt measured s).accounts.second = s.accounts.second ∧
      (takeRecord i result qt measured s).stack = s.stack ∧ (takeRecord i result qt measured s).cond = s.cond ∧
      (takeRecord i result qt measured s).line = s.line ∧ (takeRecord i result qt measured s).peers = s.peers ∧
      (takeRecord i result qt measured s).claims = s.claims ∧ (takeRecord i result qt measured s).bypass = s.bypass ∧
      (takeRecord i result qt measured s).visits = s.visits ∧
      (takeRecord i result qt measured s).monitor = s.monitor ∧
      (takeRecord i result qt measured s).port.writing = s.port.writing ∧
      (takeRecord i result qt measured s).port.restartWait = s.port.restartWait ∧
      (takeRecord i result qt measured s).port.areas = s.port.areas ∧
      (takeRecord i result qt measured s).free = s.free ∧ (takeRecord i result qt measured s).pending = s.pending := by
  unfold takeRecord
  (repeat' split) <;> simp

@[simp] theorem replaceString_keeps (i : Nat) (s : State) :
      (replaceString i s).held = s.held ∧ (replaceString i s).pins = s.pins ∧ (replaceString i s).id = s.id ∧
      (replaceString i s).cfg = s.cfg ∧ (replaceString i s).clampCount = s.clampCount ∧
      (replaceString i s).clock = s.clock ∧ (replaceString i s).intake = s.intake ∧
      (replaceString i s).accounts.second = s.accounts.second ∧ (replaceString i s).stack = s.stack ∧
      (replaceString i s).cond = s.cond ∧ (replaceString i s).line = s.line ∧ (replaceString i s).peers = s.peers ∧
      (replaceString i s).claims = s.claims ∧ (replaceString i s).bypass = s.bypass ∧
      (replaceString i s).visits = s.visits ∧ (replaceString i s).monitor = s.monitor ∧
      (replaceString i s).port.writing = s.port.writing ∧ (replaceString i s).port.restartWait = s.port.restartWait ∧
      (replaceString i s).port.areas = s.port.areas ∧ (replaceString i s).free = s.free ∧
      (replaceString i s).pending = s.pending := by
  unfold replaceString
  (repeat' split) <;> simp

@[simp] theorem setLatch_keeps (new : EqualizeLatch) (s : State) :
      (setLatch new s).held = s.held ∧ (setLatch new s).pins = s.pins ∧ (setLatch new s).id = s.id ∧
      (setLatch new s).cfg = s.cfg ∧ (setLatch new s).clampCount = s.clampCount ∧ (setLatch new s).clock = s.clock ∧
      (setLatch new s).intake = s.intake ∧ (setLatch new s).accounts = s.accounts ∧
      (setLatch new s).stack = s.stack ∧ (setLatch new s).cond.equalizeDue = s.cond.equalizeDue ∧
      (setLatch new s).cond.testLatch = s.cond.testLatch ∧ (setLatch new s).cond.testDue = s.cond.testDue ∧
      (setLatch new s).cond.waiting = s.cond.waiting ∧ (setLatch new s).cond.overdueRaised = s.cond.overdueRaised ∧
      (setLatch new s).cond.testSecond = s.cond.testSecond ∧
      (setLatch new s).cond.remainingField = s.cond.remainingField ∧ (setLatch new s).line = s.line ∧
      (setLatch new s).peers = s.peers ∧ (setLatch new s).claims = s.claims ∧ (setLatch new s).bypass = s.bypass ∧
      (setLatch new s).visits = s.visits ∧ (setLatch new s).queue = s.queue ∧ (setLatch new s).monitor = s.monitor ∧
      (setLatch new s).port = s.port ∧ (setLatch new s).free = s.free ∧ (setLatch new s).pending = s.pending := by
  unfold setLatch
  (repeat' split) <;> simp

@[simp] theorem dueCheck_keeps (s : State) :
      (dueCheck s).held = s.held ∧ (dueCheck s).pins = s.pins ∧ (dueCheck s).id = s.id ∧ (dueCheck s).cfg = s.cfg ∧
      (dueCheck s).clampCount = s.clampCount ∧ (dueCheck s).clock = s.clock ∧ (dueCheck s).intake = s.intake ∧
      (dueCheck s).accounts = s.accounts ∧ (dueCheck s).stack = s.stack ∧
      (dueCheck s).cond.equalizeDue = s.cond.equalizeDue ∧ (dueCheck s).cond.testDue = s.cond.testDue ∧
      (dueCheck s).cond.waiting = s.cond.waiting ∧ (dueCheck s).cond.overdueRaised = s.cond.overdueRaised ∧
      (dueCheck s).cond.testSecond = s.cond.testSecond ∧ (dueCheck s).cond.remainingField = s.cond.remainingField ∧
      (dueCheck s).line = s.line ∧ (dueCheck s).peers = s.peers ∧ (dueCheck s).claims = s.claims ∧
      (dueCheck s).bypass = s.bypass ∧ (dueCheck s).visits = s.visits ∧ (dueCheck s).queue = s.queue ∧
      (dueCheck s).monitor = s.monitor ∧ (dueCheck s).port.list = s.port.list ∧
      (dueCheck s).port.writing = s.port.writing ∧ (dueCheck s).port.restartWait = s.port.restartWait ∧
      (dueCheck s).port.areas = s.port.areas ∧ (dueCheck s).free = s.free ∧ (dueCheck s).pending = s.pending := by
  unfold dueCheck
  dsimp only
  (repeat' split) <;> simp

@[simp] theorem overdueCheck_keeps (s : State) :
      (overdueCheck s).held = s.held ∧ (overdueCheck s).pins = s.pins ∧ (overdueCheck s).id = s.id ∧
      (overdueCheck s).cfg = s.cfg ∧ (overdueCheck s).clampCount = s.clampCount ∧ (overdueCheck s).clock = s.clock ∧
      (overdueCheck s).intake = s.intake ∧ (overdueCheck s).accounts = s.accounts ∧
      (overdueCheck s).stack = s.stack ∧ (overdueCheck s).cond.latch = s.cond.latch ∧
      (overdueCheck s).cond.equalizeDue = s.cond.equalizeDue ∧ (overdueCheck s).cond.testLatch = s.cond.testLatch ∧
      (overdueCheck s).cond.testDue = s.cond.testDue ∧ (overdueCheck s).cond.waiting = s.cond.waiting ∧
      (overdueCheck s).cond.testSecond = s.cond.testSecond ∧
      (overdueCheck s).cond.remainingField = s.cond.remainingField ∧ (overdueCheck s).line = s.line ∧
      (overdueCheck s).peers = s.peers ∧ (overdueCheck s).claims = s.claims ∧ (overdueCheck s).bypass = s.bypass ∧
      (overdueCheck s).visits = s.visits ∧ (overdueCheck s).monitor = s.monitor ∧
      (overdueCheck s).port.writing = s.port.writing ∧ (overdueCheck s).port.restartWait = s.port.restartWait ∧
      (overdueCheck s).port.areas = s.port.areas ∧ (overdueCheck s).free = s.free ∧
      (overdueCheck s).pending = s.pending := by
  unfold overdueCheck
  (repeat' split) <;> simp

@[simp] theorem moveTestDue_keeps (s : State) :
      (moveTestDue s).held = s.held ∧ (moveTestDue s).pins = s.pins ∧ (moveTestDue s).id = s.id ∧
      (moveTestDue s).cfg = s.cfg ∧ (moveTestDue s).clampCount = s.clampCount ∧ (moveTestDue s).clock = s.clock ∧
      (moveTestDue s).intake = s.intake ∧ (moveTestDue s).accounts = s.accounts ∧ (moveTestDue s).stack = s.stack ∧
      (moveTestDue s).cond.latch = s.cond.latch ∧ (moveTestDue s).cond.equalizeDue = s.cond.equalizeDue ∧
      (moveTestDue s).cond.testLatch = s.cond.testLatch ∧ (moveTestDue s).cond.waiting = s.cond.waiting ∧
      (moveTestDue s).cond.overdueRaised = s.cond.overdueRaised ∧
      (moveTestDue s).cond.testSecond = s.cond.testSecond ∧
      (moveTestDue s).cond.remainingField = s.cond.remainingField ∧ (moveTestDue s).line = s.line ∧
      (moveTestDue s).peers = s.peers ∧ (moveTestDue s).claims = s.claims ∧ (moveTestDue s).bypass = s.bypass ∧
      (moveTestDue s).visits = s.visits ∧ (moveTestDue s).queue = s.queue ∧ (moveTestDue s).monitor = s.monitor ∧
      (moveTestDue s).port.list = s.port.list ∧ (moveTestDue s).port.writing = s.port.writing ∧
      (moveTestDue s).port.restartWait = s.port.restartWait ∧ (moveTestDue s).port.areas = s.port.areas ∧
      (moveTestDue s).free = s.free ∧ (moveTestDue s).pending = s.pending := by
  unfold moveTestDue
  simp

@[simp] theorem completeEqualize_keeps (s : State) :
      (completeEqualize s).held = s.held ∧ (completeEqualize s).pins = s.pins ∧ (completeEqualize s).id = s.id ∧
      (completeEqualize s).cfg = s.cfg ∧ (completeEqualize s).clampCount = s.clampCount ∧
      (completeEqualize s).clock = s.clock ∧ (completeEqualize s).intake = s.intake ∧
      (completeEqualize s).accounts = s.accounts ∧ (completeEqualize s).stack = s.stack ∧
      (completeEqualize s).cond.testLatch = s.cond.testLatch ∧ (completeEqualize s).cond.testDue = s.cond.testDue ∧
      (completeEqualize s).cond.waiting = s.cond.waiting ∧
      (completeEqualize s).cond.overdueRaised = s.cond.overdueRaised ∧
      (completeEqualize s).cond.testSecond = s.cond.testSecond ∧
      (completeEqualize s).cond.remainingField = s.cond.remainingField ∧ (completeEqualize s).line = s.line ∧
      (completeEqualize s).peers = s.peers ∧ (completeEqualize s).claims = s.claims ∧
      (completeEqualize s).bypass = s.bypass ∧ (completeEqualize s).visits = s.visits ∧
      (completeEqualize s).queue = s.queue ∧ (completeEqualize s).monitor = s.monitor ∧
      (completeEqualize s).port.list = s.port.list ∧ (completeEqualize s).port.writing = s.port.writing ∧
      (completeEqualize s).port.restartWait = s.port.restartWait ∧ (completeEqualize s).port.areas = s.port.areas ∧
      (completeEqualize s).free = s.free ∧ (completeEqualize s).pending = s.pending := by
  unfold completeEqualize
  dsimp only
  (repeat' split) <;> simp

@[simp] theorem relatch_keeps (f : EqualizeFrame) (s : State) :
      (relatch f s).held = s.held ∧ (relatch f s).pins = s.pins ∧ (relatch f s).id = s.id ∧
      (relatch f s).cfg = s.cfg ∧ (relatch f s).clampCount = s.clampCount ∧ (relatch f s).clock = s.clock ∧
      (relatch f s).intake = s.intake ∧ (relatch f s).accounts = s.accounts ∧ (relatch f s).stack = s.stack ∧
      (relatch f s).cond.equalizeDue = s.cond.equalizeDue ∧ (relatch f s).cond.testLatch = s.cond.testLatch ∧
      (relatch f s).cond.testDue = s.cond.testDue ∧ (relatch f s).cond.waiting = s.cond.waiting ∧
      (relatch f s).cond.overdueRaised = s.cond.overdueRaised ∧ (relatch f s).cond.testSecond = s.cond.testSecond ∧
      (relatch f s).cond.remainingField = s.cond.remainingField ∧ (relatch f s).line = s.line ∧
      (relatch f s).peers = s.peers ∧ (relatch f s).claims = s.claims ∧ (relatch f s).bypass = s.bypass ∧
      (relatch f s).visits = s.visits ∧ (relatch f s).queue = s.queue ∧ (relatch f s).monitor = s.monitor ∧
      (relatch f s).port = s.port ∧ (relatch f s).free = s.free ∧ (relatch f s).pending = s.pending := by
  unfold relatch
  (repeat' split) <;> simp

@[simp] theorem endEvent_keeps (i : Nat) (a : Account) (s : State) :
      (endEvent i a s).held = s.held ∧ (endEvent i a s).pins = s.pins ∧ (endEvent i a s).id = s.id ∧
      (endEvent i a s).cfg = s.cfg ∧ (endEvent i a s).clampCount = s.clampCount ∧ (endEvent i a s).clock = s.clock ∧
      (endEvent i a s).intake = s.intake ∧ (endEvent i a s).accounts.second = s.accounts.second ∧
      (endEvent i a s).stack = s.stack ∧ (endEvent i a s).cond.equalizeDue = s.cond.equalizeDue ∧
      (endEvent i a s).cond.testLatch = s.cond.testLatch ∧ (endEvent i a s).cond.testDue = s.cond.testDue ∧
      (endEvent i a s).cond.waiting = s.cond.waiting ∧ (endEvent i a s).cond.overdueRaised = s.cond.overdueRaised ∧
      (endEvent i a s).cond.testSecond = s.cond.testSecond ∧
      (endEvent i a s).cond.remainingField = s.cond.remainingField ∧ (endEvent i a s).line = s.line ∧
      (endEvent i a s).peers = s.peers ∧ (endEvent i a s).claims = s.claims ∧ (endEvent i a s).bypass = s.bypass ∧
      (endEvent i a s).visits = s.visits ∧ (endEvent i a s).monitor = s.monitor ∧
      (endEvent i a s).port.writing = s.port.writing ∧ (endEvent i a s).port.restartWait = s.port.restartWait ∧
      (endEvent i a s).port.areas = s.port.areas ∧ (endEvent i a s).free = s.free ∧
      (endEvent i a s).pending = s.pending := by
  unfold endEvent
  dsimp only
  (repeat' split) <;> simp

@[simp] theorem sampleString_keeps (i : Nat) (current : Int) (s : State) :
      (sampleString i current s).held = s.held ∧ (sampleString i current s).pins = s.pins ∧
      (sampleString i current s).id = s.id ∧ (sampleString i current s).cfg = s.cfg ∧
      (sampleString i current s).clampCount = s.clampCount ∧ (sampleString i current s).clock = s.clock ∧
      (sampleString i current s).intake = s.intake ∧ (sampleString i current s).accounts.second = s.accounts.second ∧
      (sampleString i current s).stack = s.stack ∧ (sampleString i current s).cond.equalizeDue = s.cond.equalizeDue ∧
      (sampleString i current s).cond.testLatch = s.cond.testLatch ∧
      (sampleString i current s).cond.testDue = s.cond.testDue ∧
      (sampleString i current s).cond.waiting = s.cond.waiting ∧
      (sampleString i current s).cond.overdueRaised = s.cond.overdueRaised ∧
      (sampleString i current s).cond.testSecond = s.cond.testSecond ∧
      (sampleString i current s).cond.remainingField = s.cond.remainingField ∧
      (sampleString i current s).line = s.line ∧ (sampleString i current s).peers = s.peers ∧
      (sampleString i current s).claims = s.claims ∧ (sampleString i current s).bypass = s.bypass ∧
      (sampleString i current s).visits = s.visits ∧ (sampleString i current s).monitor = s.monitor ∧
      (sampleString i current s).port.writing = s.port.writing ∧
      (sampleString i current s).port.restartWait = s.port.restartWait ∧
      (sampleString i current s).port.areas = s.port.areas ∧ (sampleString i current s).free = s.free ∧
      (sampleString i current s).pending = s.pending := by
  unfold sampleString
  dsimp only
  (repeat' split) <;> simp

end Sys2Proof.Machine
end

