-- ==== Sys2Proof/Laws/FramesLine.lean ====
section
/-! SUPPORT. What each operation of the transmit queue, the peer table, the conditions and the claims leaves alone: one lemma per operation, every field
of the state that it does not write. -/

namespace Sys2Proof.Machine

@[simp] theorem handFrame_keeps (f : TxFrame) (s : State) :
      (handFrame f s).held = s.held ∧ (handFrame f s).pins = s.pins ∧ (handFrame f s).id = s.id ∧
      (handFrame f s).cfg = s.cfg ∧ (handFrame f s).clampCount = s.clampCount ∧ (handFrame f s).clock = s.clock ∧
      (handFrame f s).intake = s.intake ∧ (handFrame f s).accounts = s.accounts ∧ (handFrame f s).stack = s.stack ∧
      (handFrame f s).cond = s.cond ∧ (handFrame f s).line.state = s.line.state ∧
      (handFrame f s).line.synchronised = s.line.synchronised ∧ (handFrame f s).line.received = s.line.received ∧
      (handFrame f s).line.crcFailures = s.line.crcFailures ∧
      (handFrame f s).line.lengthFailures = s.line.lengthFailures ∧
      (handFrame f s).line.contentDiscards = s.line.contentDiscards ∧
      (handFrame f s).line.addressDiscards = s.line.addressDiscards ∧ (handFrame f s).line.sent = s.line.sent ∧
      (handFrame f s).line.losses = s.line.losses ∧ (handFrame f s).line.abandoned = s.line.abandoned ∧
      (handFrame f s).line.statusTimer = s.line.statusTimer ∧
      (handFrame f s).line.joiningTimer = s.line.joiningTimer ∧ (handFrame f s).line.answers = s.line.answers ∧
      (handFrame f s).peers = s.peers ∧ (handFrame f s).claims = s.claims ∧ (handFrame f s).bypass = s.bypass ∧
      (handFrame f s).visits = s.visits ∧ (handFrame f s).queue = s.queue ∧ (handFrame f s).monitor = s.monitor ∧
      (handFrame f s).port = s.port ∧ (handFrame f s).free = s.free ∧ (handFrame f s).pending = s.pending := by
  unfold handFrame
  dsimp only
  (repeat' split) <;> simp

@[simp] theorem handMains_keeps (k : MainsKind) (s : State) :
      (handMains k s).held = s.held ∧ (handMains k s).pins = s.pins ∧ (handMains k s).id = s.id ∧
      (handMains k s).cfg = s.cfg ∧ (handMains k s).clampCount = s.clampCount ∧ (handMains k s).clock = s.clock ∧
      (handMains k s).intake = s.intake ∧ (handMains k s).accounts = s.accounts ∧ (handMains k s).stack = s.stack ∧
      (handMains k s).cond = s.cond ∧ (handMains k s).line.state = s.line.state ∧
      (handMains k s).line.synchronised = s.line.synchronised ∧ (handMains k s).line.received = s.line.received ∧
      (handMains k s).line.crcFailures = s.line.crcFailures ∧
      (handMains k s).line.lengthFailures = s.line.lengthFailures ∧
      (handMains k s).line.contentDiscards = s.line.contentDiscards ∧
      (handMains k s).line.addressDiscards = s.line.addressDiscards ∧ (handMains k s).line.sent = s.line.sent ∧
      (handMains k s).line.losses = s.line.losses ∧ (handMains k s).line.abandoned = s.line.abandoned ∧
      (handMains k s).line.statusTimer = s.line.statusTimer ∧
      (handMains k s).line.joiningTimer = s.line.joiningTimer ∧ (handMains k s).line.answers = s.line.answers ∧
      (handMains k s).peers = s.peers ∧ (handMains k s).claims = s.claims ∧ (handMains k s).bypass = s.bypass ∧
      (handMains k s).visits = s.visits ∧ (handMains k s).queue = s.queue ∧ (handMains k s).monitor = s.monitor ∧
      (handMains k s).port = s.port ∧ (handMains k s).free = s.free ∧ (handMains k s).pending = s.pending := by
  unfold handMains
  (repeat' split) <;> simp

@[simp] theorem countReceived_keeps (s : State) :
      (countReceived s).held = s.held ∧ (countReceived s).pins = s.pins ∧ (countReceived s).id = s.id ∧
      (countReceived s).cfg = s.cfg ∧ (countReceived s).clampCount = s.clampCount ∧
      (countReceived s).clock = s.clock ∧ (countReceived s).intake = s.intake ∧
      (countReceived s).accounts = s.accounts ∧ (countReceived s).stack = s.stack ∧ (countReceived s).cond = s.cond ∧
      (countReceived s).line.state = s.line.state ∧ (countReceived s).line.synchronised = s.line.synchronised ∧
      (countReceived s).line.tx = s.line.tx ∧ (countReceived s).line.crcFailures = s.line.crcFailures ∧
      (countReceived s).line.lengthFailures = s.line.lengthFailures ∧
      (countReceived s).line.contentDiscards = s.line.contentDiscards ∧
      (countReceived s).line.addressDiscards = s.line.addressDiscards ∧ (countReceived s).line.sent = s.line.sent ∧
      (countReceived s).line.losses = s.line.losses ∧ (countReceived s).line.abandoned = s.line.abandoned ∧
      (countReceived s).line.displaced = s.line.displaced ∧ (countReceived s).line.drops = s.line.drops ∧
      (countReceived s).line.statusTimer = s.line.statusTimer ∧
      (countReceived s).line.joiningTimer = s.line.joiningTimer ∧ (countReceived s).line.answers = s.line.answers ∧
      (countReceived s).peers = s.peers ∧ (countReceived s).claims = s.claims ∧ (countReceived s).bypass = s.bypass ∧
      (countReceived s).visits = s.visits ∧ (countReceived s).queue = s.queue ∧
      (countReceived s).monitor = s.monitor ∧ (countReceived s).port = s.port ∧ (countReceived s).free = s.free ∧
      (countReceived s).pending = s.pending := by
  unfold countReceived
  simp

@[simp] theorem lineError_keeps (s : State) :
      (lineError s).held = s.held ∧ (lineError s).pins = s.pins ∧ (lineError s).id = s.id ∧
      (lineError s).cfg = s.cfg ∧ (lineError s).clampCount = s.clampCount ∧ (lineError s).clock = s.clock ∧
      (lineError s).intake = s.intake ∧ (lineError s).accounts = s.accounts ∧ (lineError s).stack = s.stack ∧
      (lineError s).cond = s.cond ∧ (lineError s).line = s.line ∧ (lineError s).peers = s.peers ∧
      (lineError s).claims = s.claims ∧ (lineError s).bypass = s.bypass ∧ (lineError s).visits = s.visits ∧
      (lineError s).queue = s.queue ∧ (lineError s).monitor.hot = s.monitor.hot ∧ (lineError s).port = s.port ∧
      (lineError s).free = s.free ∧ (lineError s).pending = s.pending := by
  unfold lineError
  dsimp only
  simp

@[simp] theorem countFailure_keeps (f : RxFailure) (s : State) :
      (countFailure f s).held = s.held ∧ (countFailure f s).pins = s.pins ∧ (countFailure f s).id = s.id ∧
      (countFailure f s).cfg = s.cfg ∧ (countFailure f s).clampCount = s.clampCount ∧
      (countFailure f s).clock = s.clock ∧ (countFailure f s).intake = s.intake ∧
      (countFailure f s).accounts = s.accounts ∧ (countFailure f s).stack = s.stack ∧
      (countFailure f s).cond = s.cond ∧ (countFailure f s).line.state = s.line.state ∧
      (countFailure f s).line.synchronised = s.line.synchronised ∧ (countFailure f s).line.tx = s.line.tx ∧
      (countFailure f s).line.received = s.line.received ∧ (countFailure f s).line.sent = s.line.sent ∧
      (countFailure f s).line.losses = s.line.losses ∧ (countFailure f s).line.abandoned = s.line.abandoned ∧
      (countFailure f s).line.displaced = s.line.displaced ∧ (countFailure f s).line.drops = s.line.drops ∧
      (countFailure f s).line.statusTimer = s.line.statusTimer ∧
      (countFailure f s).line.joiningTimer = s.line.joiningTimer ∧ (countFailure f s).line.answers = s.line.answers ∧
      (countFailure f s).peers = s.peers ∧ (countFailure f s).claims = s.claims ∧
      (countFailure f s).bypass = s.bypass ∧ (countFailure f s).visits = s.visits ∧
      (countFailure f s).queue = s.queue ∧ (countFailure f s).monitor.hot = s.monitor.hot ∧
      (countFailure f s).port = s.port ∧ (countFailure f s).free = s.free ∧ (countFailure f s).pending = s.pending := by
  unfold countFailure
  (repeat' split) <;> simp

@[simp] theorem setPeer_keeps (n : Nat) (p : Peer) (s : State) :
      (setPeer n p s).held = s.held ∧ (setPeer n p s).pins = s.pins ∧ (setPeer n p s).id = s.id ∧
      (setPeer n p s).cfg = s.cfg ∧ (setPeer n p s).clampCount = s.clampCount ∧ (setPeer n p s).clock = s.clock ∧
      (setPeer n p s).intake = s.intake ∧ (setPeer n p s).accounts = s.accounts ∧ (setPeer n p s).stack = s.stack ∧
      (setPeer n p s).cond = s.cond ∧ (setPeer n p s).line = s.line ∧ (setPeer n p s).claims = s.claims ∧
      (setPeer n p s).bypass = s.bypass ∧ (setPeer n p s).visits = s.visits ∧ (setPeer n p s).queue = s.queue ∧
      (setPeer n p s).monitor = s.monitor ∧ (setPeer n p s).port = s.port ∧ (setPeer n p s).free = s.free ∧
      (setPeer n p s).pending = s.pending := by
  unfold setPeer
  (repeat' split) <;> simp

@[simp] theorem setCondition_keeps (k : Condition) (v : Bool) (s : State) :
      (setCondition k v s).held = s.held ∧ (setCondition k v s).pins = s.pins ∧ (setCondition k v s).id = s.id ∧
      (setCondition k v s).cfg = s.cfg ∧ (setCondition k v s).clampCount = s.clampCount ∧
      (setCondition k v s).clock = s.clock ∧ (setCondition k v s).intake = s.intake ∧
      (setCondition k v s).accounts = s.accounts ∧ (setCondition k v s).stack = s.stack ∧
      (setCondition k v s).cond = s.cond ∧ (setCondition k v s).line = s.line ∧
      (setCondition k v s).peers = s.peers ∧ (setCondition k v s).claims = s.claims ∧
      (setCondition k v s).bypass = s.bypass ∧ (setCondition k v s).visits = s.visits ∧
      (setCondition k v s).queue = s.queue ∧ (setCondition k v s).monitor.hot = s.monitor.hot ∧
      (setCondition k v s).monitor.lineErrors = s.monitor.lineErrors ∧ (setCondition k v s).port = s.port ∧
      (setCondition k v s).free = s.free ∧ (setCondition k v s).pending = s.pending := by
  unfold setCondition
  simp

@[simp] theorem refresh_keeps (s : State) :
      (refresh s).held = s.held ∧ (refresh s).pins = s.pins ∧ (refresh s).id = s.id ∧ (refresh s).cfg = s.cfg ∧
      (refresh s).clampCount = s.clampCount ∧ (refresh s).clock = s.clock ∧ (refresh s).intake = s.intake ∧
      (refresh s).accounts = s.accounts ∧ (refresh s).stack = s.stack ∧ (refresh s).cond = s.cond ∧
      (refresh s).line = s.line ∧ (refresh s).peers = s.peers ∧ (refresh s).claims = s.claims ∧
      (refresh s).bypass = s.bypass ∧ (refresh s).visits = s.visits ∧ (refresh s).queue = s.queue ∧
      (refresh s).monitor.hot = s.monitor.hot ∧ (refresh s).monitor.lineErrors = s.monitor.lineErrors ∧
      (refresh s).port = s.port ∧ (refresh s).free = s.free ∧ (refresh s).pending = s.pending := by
  unfold refresh
  simp

@[simp] theorem setList_keeps (l : List ClaimEntry) (s : State) :
      (setList l s).held = s.held ∧ (setList l s).pins = s.pins ∧ (setList l s).id = s.id ∧
      (setList l s).cfg = s.cfg ∧ (setList l s).clampCount = s.clampCount ∧ (setList l s).clock = s.clock ∧
      (setList l s).intake = s.intake ∧ (setList l s).accounts = s.accounts ∧ (setList l s).stack = s.stack ∧
      (setList l s).cond = s.cond ∧ (setList l s).line = s.line ∧ (setList l s).peers = s.peers ∧
      (setList l s).claims.own = s.claims.own ∧ (setList l s).claims.window = s.claims.window ∧
      (setList l s).claims.consent = s.claims.consent ∧ (setList l s).claims.last = s.claims.last ∧
      (setList l s).claims.lastKind = s.claims.lastKind ∧ (setList l s).claims.spacing = s.claims.spacing ∧
      (setList l s).claims.latch = s.claims.latch ∧ (setList l s).bypass = s.bypass ∧
      (setList l s).visits = s.visits ∧ (setList l s).queue = s.queue ∧ (setList l s).monitor = s.monitor ∧
      (setList l s).port = s.port ∧ (setList l s).free = s.free ∧ (setList l s).pending = s.pending := by
  unfold setList
  simp

@[simp] theorem dropEntry_keeps (station : Nat) (s : State) :
      (dropEntry station s).held = s.held ∧ (dropEntry station s).pins = s.pins ∧ (dropEntry station s).id = s.id ∧
      (dropEntry station s).cfg = s.cfg ∧ (dropEntry station s).clampCount = s.clampCount ∧
      (dropEntry station s).clock = s.clock ∧ (dropEntry station s).intake = s.intake ∧
      (dropEntry station s).accounts = s.accounts ∧ (dropEntry station s).stack = s.stack ∧
      (dropEntry station s).cond = s.cond ∧ (dropEntry station s).line = s.line ∧
      (dropEntry station s).peers = s.peers ∧ (dropEntry station s).claims.own = s.claims.own ∧
      (dropEntry station s).claims.window = s.claims.window ∧
      (dropEntry station s).claims.consent = s.claims.consent ∧ (dropEntry station s).claims.last = s.claims.last ∧
      (dropEntry station s).claims.lastKind = s.claims.lastKind ∧
      (dropEntry station s).claims.spacing = s.claims.spacing ∧ (dropEntry station s).claims.latch = s.claims.latch ∧
      (dropEntry station s).bypass = s.bypass ∧ (dropEntry station s).visits = s.visits ∧
      (dropEntry station s).queue = s.queue ∧ (dropEntry station s).monitor = s.monitor ∧
      (dropEntry station s).port = s.port ∧ (dropEntry station s).free = s.free ∧
      (dropEntry station s).pending = s.pending := by
  unfold dropEntry
  simp

@[simp] theorem endClaim_keeps (c : OwnClaim) (s : State) :
      (endClaim c s).held = s.held ∧ (endClaim c s).pins = s.pins ∧ (endClaim c s).id = s.id ∧
      (endClaim c s).cfg = s.cfg ∧ (endClaim c s).clampCount = s.clampCount ∧ (endClaim c s).clock = s.clock ∧
      (endClaim c s).intake = s.intake ∧ (endClaim c s).accounts = s.accounts ∧ (endClaim c s).stack = s.stack ∧
      (endClaim c s).cond = s.cond ∧ (endClaim c s).line.state = s.line.state ∧
      (endClaim c s).line.synchronised = s.line.synchronised ∧ (endClaim c s).line.received = s.line.received ∧
      (endClaim c s).line.crcFailures = s.line.crcFailures ∧
      (endClaim c s).line.lengthFailures = s.line.lengthFailures ∧
      (endClaim c s).line.contentDiscards = s.line.contentDiscards ∧
      (endClaim c s).line.addressDiscards = s.line.addressDiscards ∧ (endClaim c s).line.sent = s.line.sent ∧
      (endClaim c s).line.losses = s.line.losses ∧ (endClaim c s).line.abandoned = s.line.abandoned ∧
      (endClaim c s).line.statusTimer = s.line.statusTimer ∧ (endClaim c s).line.joiningTimer = s.line.joiningTimer ∧
      (endClaim c s).line.answers = s.line.answers ∧ (endClaim c s).peers = s.peers ∧
      (endClaim c s).claims.consent = s.claims.consent ∧ (endClaim c s).claims.last = s.claims.last ∧
      (endClaim c s).claims.lastKind = s.claims.lastKind ∧ (endClaim c s).claims.latch = s.claims.latch ∧
      (endClaim c s).bypass = s.bypass ∧ (endClaim c s).visits = s.visits ∧ (endClaim c s).queue = s.queue ∧
      (endClaim c s).monitor = s.monitor ∧ (endClaim c s).port = s.port ∧ (endClaim c s).free = s.free ∧
      (endClaim c s).pending = s.pending := by
  unfold endClaim
  dsimp only
  simp

@[simp] theorem yieldClaim_keeps (r : ClaimResult) (s : State) :
      (yieldClaim r s).held = s.held ∧ (yieldClaim r s).pins = s.pins ∧ (yieldClaim r s).id = s.id ∧
      (yieldClaim r s).cfg = s.cfg ∧ (yieldClaim r s).clampCount = s.clampCount ∧ (yieldClaim r s).clock = s.clock ∧
      (yieldClaim r s).intake = s.intake ∧ (yieldClaim r s).accounts = s.accounts ∧
      (yieldClaim r s).stack = s.stack ∧ (yieldClaim r s).cond = s.cond ∧
      (yieldClaim r s).line.state = s.line.state ∧ (yieldClaim r s).line.synchronised = s.line.synchronised ∧
      (yieldClaim r s).line.received = s.line.received ∧ (yieldClaim r s).line.crcFailures = s.line.crcFailures ∧
      (yieldClaim r s).line.lengthFailures = s.line.lengthFailures ∧
      (yieldClaim r s).line.contentDiscards = s.line.contentDiscards ∧
      (yieldClaim r s).line.addressDiscards = s.line.addressDiscards ∧ (yieldClaim r s).line.sent = s.line.sent ∧
      (yieldClaim r s).line.losses = s.line.losses ∧ (yieldClaim r s).line.abandoned = s.line.abandoned ∧
      (yieldClaim r s).line.statusTimer = s.line.statusTimer ∧
      (yieldClaim r s).line.joiningTimer = s.line.joiningTimer ∧ (yieldClaim r s).line.answers = s.line.answers ∧
      (yieldClaim r s).peers = s.peers ∧ (yieldClaim r s).claims.consent = s.claims.consent ∧
      (yieldClaim r s).claims.latch = s.claims.latch ∧ (yieldClaim r s).bypass = s.bypass ∧
      (yieldClaim r s).visits = s.visits ∧ (yieldClaim r s).queue = s.queue ∧ (yieldClaim r s).monitor = s.monitor ∧
      (yieldClaim r s).port = s.port ∧ (yieldClaim r s).free = s.free ∧ (yieldClaim r s).pending = s.pending := by
  unfold yieldClaim
  dsimp only
  (repeat' split) <;> simp

@[simp] theorem releaseClaim_keeps (s : State) :
      (releaseClaim s).held = s.held ∧ (releaseClaim s).pins = s.pins ∧ (releaseClaim s).id = s.id ∧
      (releaseClaim s).cfg = s.cfg ∧ (releaseClaim s).clampCount = s.clampCount ∧ (releaseClaim s).clock = s.clock ∧
      (releaseClaim s).intake = s.intake ∧ (releaseClaim s).accounts = s.accounts ∧
      (releaseClaim s).stack = s.stack ∧ (releaseClaim s).cond = s.cond ∧
      (releaseClaim s).line.state = s.line.state ∧ (releaseClaim s).line.synchronised = s.line.synchronised ∧
      (releaseClaim s).line.received = s.line.received ∧ (releaseClaim s).line.crcFailures = s.line.crcFailures ∧
      (releaseClaim s).line.lengthFailures = s.line.lengthFailures ∧
      (releaseClaim s).line.contentDiscards = s.line.contentDiscards ∧
      (releaseClaim s).line.addressDiscards = s.line.addressDiscards ∧ (releaseClaim s).line.sent = s.line.sent ∧
      (releaseClaim s).line.losses = s.line.losses ∧ (releaseClaim s).line.abandoned = s.line.abandoned ∧
      (releaseClaim s).line.statusTimer = s.line.statusTimer ∧
      (releaseClaim s).line.joiningTimer = s.line.joiningTimer ∧ (releaseClaim s).line.answers = s.line.answers ∧
      (releaseClaim s).peers = s.peers ∧ (releaseClaim s).claims.consent = s.claims.consent ∧
      (releaseClaim s).claims.last = s.claims.last ∧ (releaseClaim s).claims.lastKind = s.claims.lastKind ∧
      (releaseClaim s).claims.latch = s.claims.latch ∧ (releaseClaim s).bypass = s.bypass ∧
      (releaseClaim s).visits = s.visits ∧ (releaseClaim s).queue = s.queue ∧ (releaseClaim s).monitor = s.monitor ∧
      (releaseClaim s).port = s.port ∧ (releaseClaim s).free = s.free ∧ (releaseClaim s).pending = s.pending := by
  unfold releaseClaim
  (repeat' split) <;> simp

@[simp] theorem enterEntry_keeps (e : ClaimEntry) (s : State) :
      (enterEntry e s).held = s.held ∧ (enterEntry e s).pins = s.pins ∧ (enterEntry e s).id = s.id ∧
      (enterEntry e s).cfg = s.cfg ∧ (enterEntry e s).clampCount = s.clampCount ∧ (enterEntry e s).clock = s.clock ∧
      (enterEntry e s).intake = s.intake ∧ (enterEntry e s).accounts = s.accounts ∧
      (enterEntry e s).stack = s.stack ∧ (enterEntry e s).cond = s.cond ∧
      (enterEntry e s).line.state = s.line.state ∧ (enterEntry e s).line.synchronised = s.line.synchronised ∧
      (enterEntry e s).line.received = s.line.received ∧ (enterEntry e s).line.crcFailures = s.line.crcFailures ∧
      (enterEntry e s).line.lengthFailures = s.line.lengthFailures ∧
      (enterEntry e s).line.contentDiscards = s.line.contentDiscards ∧
      (enterEntry e s).line.addressDiscards = s.line.addressDiscards ∧ (enterEntry e s).line.sent = s.line.sent ∧
      (enterEntry e s).line.losses = s.line.losses ∧ (enterEntry e s).line.abandoned = s.line.abandoned ∧
      (enterEntry e s).line.statusTimer = s.line.statusTimer ∧
      (enterEntry e s).line.joiningTimer = s.line.joiningTimer ∧ (enterEntry e s).line.answers = s.line.answers ∧
      (enterEntry e s).peers = s.peers ∧ (enterEntry e s).claims.consent = s.claims.consent ∧
      (enterEntry e s).claims.latch = s.claims.latch ∧ (enterEntry e s).bypass = s.bypass ∧
      (enterEntry e s).visits = s.visits ∧ (enterEntry e s).queue = s.queue ∧ (enterEntry e s).monitor = s.monitor ∧
      (enterEntry e s).port = s.port ∧ (enterEntry e s).free = s.free ∧ (enterEntry e s).pending = s.pending := by
  unfold enterEntry
  dsimp only
  (repeat' split) <;> simp

@[simp] theorem listClaimFrame_keeps (station : Nat) (k : ClaimKind) (s : State) :
      (listClaimFrame station k s).held = s.held ∧ (listClaimFrame station k s).pins = s.pins ∧
      (listClaimFrame station k s).id = s.id ∧ (listClaimFrame station k s).cfg = s.cfg ∧
      (listClaimFrame station k s).clampCount = s.clampCount ∧ (listClaimFrame station k s).clock = s.clock ∧
      (listClaimFrame station k s).intake = s.intake ∧ (listClaimFrame station k s).accounts = s.accounts ∧
      (listClaimFrame station k s).stack = s.stack ∧ (listClaimFrame station k s).cond = s.cond ∧
      (listClaimFrame station k s).line.state = s.line.state ∧
      (listClaimFrame station k s).line.synchronised = s.line.synchronised ∧
      (listClaimFrame station k s).line.received = s.line.received ∧
      (listClaimFrame station k s).line.crcFailures = s.line.crcFailures ∧
      (listClaimFrame station k s).line.lengthFailures = s.line.lengthFailures ∧
      (listClaimFrame station k s).line.contentDiscards = s.line.contentDiscards ∧
      (listClaimFrame station k s).line.addressDiscards = s.line.addressDiscards ∧
      (listClaimFrame station k s).line.sent = s.line.sent ∧
      (listClaimFrame station k s).line.losses = s.line.losses ∧
      (listClaimFrame station k s).line.abandoned = s.line.abandoned ∧
      (listClaimFrame station k s).line.statusTimer = s.line.statusTimer ∧
      (listClaimFrame station k s).line.joiningTimer = s.line.joiningTimer ∧
      (listClaimFrame station k s).line.answers = s.line.answers ∧ (listClaimFrame station k s).peers = s.peers ∧
      (listClaimFrame station k s).claims.consent = s.claims.consent ∧
      (listClaimFrame station k s).claims.latch = s.claims.latch ∧ (listClaimFrame station k s).bypass = s.bypass ∧
      (listClaimFrame station k s).visits = s.visits ∧ (listClaimFrame station k s).queue = s.queue ∧
      (listClaimFrame station k s).monitor = s.monitor ∧ (listClaimFrame station k s).port = s.port ∧
      (listClaimFrame station k s).free = s.free ∧ (listClaimFrame station k s).pending = s.pending := by
  unfold listClaimFrame
  (repeat' split) <;> simp

@[simp] theorem listNotice_keeps (station : Nat) (claim : Option AnnouncedClaim) (s : State) :
      (listNotice station claim s).held = s.held ∧ (listNotice station claim s).pins = s.pins ∧
      (listNotice station claim s).id = s.id ∧ (listNotice station claim s).cfg = s.cfg ∧
      (listNotice station claim s).clampCount = s.clampCount ∧ (listNotice station claim s).clock = s.clock ∧
      (listNotice station claim s).intake = s.intake ∧ (listNotice station claim s).accounts = s.accounts ∧
      (listNotice station claim s).stack = s.stack ∧ (listNotice station claim s).cond = s.cond ∧
      (listNotice station claim s).line.state = s.line.state ∧
      (listNotice station claim s).line.synchronised = s.line.synchronised ∧
      (listNotice station claim s).line.received = s.line.received ∧
      (listNotice station claim s).line.crcFailures = s.line.crcFailures ∧
      (listNotice station claim s).line.lengthFailures = s.line.lengthFailures ∧
      (listNotice station claim s).line.contentDiscards = s.line.contentDiscards ∧
      (listNotice station claim s).line.addressDiscards = s.line.addressDiscards ∧
      (listNotice station claim s).line.sent = s.line.sent ∧
      (listNotice station claim s).line.losses = s.line.losses ∧
      (listNotice station claim s).line.abandoned = s.line.abandoned ∧
      (listNotice station claim s).line.statusTimer = s.line.statusTimer ∧
      (listNotice station claim s).line.joiningTimer = s.line.joiningTimer ∧
      (listNotice station claim s).line.answers = s.line.answers ∧ (listNotice station claim s).peers = s.peers ∧
      (listNotice station claim s).claims.consent = s.claims.consent ∧
      (listNotice station claim s).claims.latch = s.claims.latch ∧ (listNotice station claim s).bypass = s.bypass ∧
      (listNotice station claim s).visits = s.visits ∧ (listNotice station claim s).queue = s.queue ∧
      (listNotice station claim s).monitor = s.monitor ∧ (listNotice station claim s).port = s.port ∧
      (listNotice station claim s).free = s.free ∧ (listNotice station claim s).pending = s.pending := by
  unfold listNotice
  dsimp only
  (repeat' split) <;> simp

@[simp] theorem handClaim_keeps (s : State) :
      (handClaim s).held = s.held ∧ (handClaim s).pins = s.pins ∧ (handClaim s).id = s.id ∧
      (handClaim s).cfg = s.cfg ∧ (handClaim s).clampCount = s.clampCount ∧ (handClaim s).clock = s.clock ∧
      (handClaim s).intake = s.intake ∧ (handClaim s).accounts = s.accounts ∧ (handClaim s).stack = s.stack ∧
      (handClaim s).cond = s.cond ∧ (handClaim s).line.state = s.line.state ∧
      (handClaim s).line.synchronised = s.line.synchronised ∧ (handClaim s).line.received = s.line.received ∧
      (handClaim s).line.crcFailures = s.line.crcFailures ∧
      (handClaim s).line.lengthFailures = s.line.lengthFailures ∧
      (handClaim s).line.contentDiscards = s.line.contentDiscards ∧
      (handClaim s).line.addressDiscards = s.line.addressDiscards ∧ (handClaim s).line.sent = s.line.sent ∧
      (handClaim s).line.losses = s.line.losses ∧ (handClaim s).line.abandoned = s.line.abandoned ∧
      (handClaim s).line.statusTimer = s.line.statusTimer ∧ (handClaim s).line.joiningTimer = s.line.joiningTimer ∧
      (handClaim s).line.answers = s.line.answers ∧ (handClaim s).peers = s.peers ∧
      (handClaim s).claims.window = s.claims.window ∧ (handClaim s).claims.list = s.claims.list ∧
      (handClaim s).claims.consent = s.claims.consent ∧ (handClaim s).claims.last = s.claims.last ∧
      (handClaim s).claims.lastKind = s.claims.lastKind ∧ (handClaim s).claims.spacing = s.claims.spacing ∧
      (handClaim s).claims.latch = s.claims.latch ∧ (handClaim s).bypass = s.bypass ∧
      (handClaim s).visits = s.visits ∧ (handClaim s).queue = s.queue ∧ (handClaim s).monitor = s.monitor ∧
      (handClaim s).port = s.port ∧ (handClaim s).free = s.free ∧ (handClaim s).pending = s.pending := by
  unfold handClaim
  dsimp only
  (repeat' split) <;> simp

@[simp] theorem makeClaim_keeps (k : ClaimKind) (origin : ClaimOrigin) (owner : Option Nat) (s : State) :
      (makeClaim k origin owner s).held = s.held ∧ (makeClaim k origin owner s).pins = s.pins ∧
      (makeClaim k origin owner s).id = s.id ∧ (makeClaim k origin owner s).cfg = s.cfg ∧
      (makeClaim k origin owner s).clampCount = s.clampCount ∧ (makeClaim k origin owner s).clock = s.clock ∧
      (makeClaim k origin owner s).intake = s.intake ∧ (makeClaim k origin owner s).accounts = s.accounts ∧
      (makeClaim k origin owner s).stack = s.stack ∧ (makeClaim k origin owner s).cond = s.cond ∧
      (makeClaim k origin owner s).line.state = s.line.state ∧
      (makeClaim k origin owner s).line.synchronised = s.line.synchronised ∧
      (makeClaim k origin owner s).line.received = s.line.received ∧
      (makeClaim k origin owner s).line.crcFailures = s.line.crcFailures ∧
      (makeClaim k origin owner s).line.lengthFailures = s.line.lengthFailures ∧
      (makeClaim k origin owner s).line.contentDiscards = s.line.contentDiscards ∧
      (makeClaim k origin owner s).line.addressDiscards = s.line.addressDiscards ∧
      (makeClaim k origin owner s).line.sent = s.line.sent ∧
      (makeClaim k origin owner s).line.losses = s.line.losses ∧
      (makeClaim k origin owner s).line.abandoned = s.line.abandoned ∧
      (makeClaim k origin owner s).line.statusTimer = s.line.statusTimer ∧
      (makeClaim k origin owner s).line.joiningTimer = s.line.joiningTimer ∧
      (makeClaim k origin owner s).line.answers = s.line.answers ∧ (makeClaim k origin owner s).peers = s.peers ∧
      (makeClaim k origin owner s).claims.consent = s.claims.consent ∧
      (makeClaim k origin owner s).claims.last = s.claims.last ∧
      (makeClaim k origin owner s).claims.lastKind = s.claims.lastKind ∧
      (makeClaim k origin owner s).claims.spacing = s.claims.spacing ∧
      (makeClaim k origin owner s).claims.latch = s.claims.latch ∧ (makeClaim k origin owner s).bypass = s.bypass ∧
      (makeClaim k origin owner s).visits = s.visits ∧ (makeClaim k origin owner s).queue = s.queue ∧
      (makeClaim k origin owner s).monitor = s.monitor ∧ (makeClaim k origin owner s).port = s.port ∧
      (makeClaim k origin owner s).free = s.free ∧ (makeClaim k origin owner s).pending = s.pending := by
  unfold makeClaim
  dsimp only
  simp

@[simp] theorem handOwedClaim_keeps (s : State) :
      (handOwedClaim s).held = s.held ∧ (handOwedClaim s).pins = s.pins ∧ (handOwedClaim s).id = s.id ∧
      (handOwedClaim s).cfg = s.cfg ∧ (handOwedClaim s).clampCount = s.clampCount ∧
      (handOwedClaim s).clock = s.clock ∧ (handOwedClaim s).intake = s.intake ∧
      (handOwedClaim s).accounts = s.accounts ∧ (handOwedClaim s).stack = s.stack ∧ (handOwedClaim s).cond = s.cond ∧
      (handOwedClaim s).line.state = s.line.state ∧ (handOwedClaim s).line.synchronised = s.line.synchronised ∧
      (handOwedClaim s).line.received = s.line.received ∧ (handOwedClaim s).line.crcFailures = s.line.crcFailures ∧
      (handOwedClaim s).line.lengthFailures = s.line.lengthFailures ∧
      (handOwedClaim s).line.contentDiscards = s.line.contentDiscards ∧
      (handOwedClaim s).line.addressDiscards = s.line.addressDiscards ∧ (handOwedClaim s).line.sent = s.line.sent ∧
      (handOwedClaim s).line.losses = s.line.losses ∧ (handOwedClaim s).line.abandoned = s.line.abandoned ∧
      (handOwedClaim s).line.statusTimer = s.line.statusTimer ∧
      (handOwedClaim s).line.joiningTimer = s.line.joiningTimer ∧ (handOwedClaim s).line.answers = s.line.answers ∧
      (handOwedClaim s).peers = s.peers ∧ (handOwedClaim s).claims.window = s.claims.window ∧
      (handOwedClaim s).claims.list = s.claims.list ∧ (handOwedClaim s).claims.consent = s.claims.consent ∧
      (handOwedClaim s).claims.last = s.claims.last ∧ (handOwedClaim s).claims.lastKind = s.claims.lastKind ∧
      (handOwedClaim s).claims.spacing = s.claims.spacing ∧ (handOwedClaim s).claims.latch = s.claims.latch ∧
      (handOwedClaim s).bypass = s.bypass ∧ (handOwedClaim s).visits = s.visits ∧ (handOwedClaim s).queue = s.queue ∧
      (handOwedClaim s).monitor = s.monitor ∧ (handOwedClaim s).port = s.port ∧ (handOwedClaim s).free = s.free ∧
      (handOwedClaim s).pending = s.pending := by
  unfold handOwedClaim
  (repeat' split) <;> simp

@[simp] theorem retakeConsent_keeps (s : State) :
      (retakeConsent s).held = s.held ∧ (retakeConsent s).pins = s.pins ∧ (retakeConsent s).id = s.id ∧
      (retakeConsent s).cfg = s.cfg ∧ (retakeConsent s).clampCount = s.clampCount ∧
      (retakeConsent s).clock = s.clock ∧ (retakeConsent s).intake = s.intake ∧
      (retakeConsent s).accounts = s.accounts ∧ (retakeConsent s).stack = s.stack ∧ (retakeConsent s).cond = s.cond ∧
      (retakeConsent s).line = s.line ∧ (retakeConsent s).peers = s.peers ∧
      (retakeConsent s).claims.own = s.claims.own ∧ (retakeConsent s).claims.window = s.claims.window ∧
      (retakeConsent s).claims.list = s.claims.list ∧ (retakeConsent s).claims.last = s.claims.last ∧
      (retakeConsent s).claims.lastKind = s.claims.lastKind ∧ (retakeConsent s).claims.spacing = s.claims.spacing ∧
      (retakeConsent s).claims.latch = s.claims.latch ∧ (retakeConsent s).bypass = s.bypass ∧
      (retakeConsent s).visits = s.visits ∧ (retakeConsent s).queue = s.queue ∧
      (retakeConsent s).monitor = s.monitor ∧ (retakeConsent s).port = s.port ∧ (retakeConsent s).free = s.free ∧
      (retakeConsent s).pending = s.pending := by
  unfold retakeConsent
  simp

@[simp] theorem yieldIfMust_keeps (s : State) :
      (yieldIfMust s).held = s.held ∧ (yieldIfMust s).pins = s.pins ∧ (yieldIfMust s).id = s.id ∧
      (yieldIfMust s).cfg = s.cfg ∧ (yieldIfMust s).clampCount = s.clampCount ∧ (yieldIfMust s).clock = s.clock ∧
      (yieldIfMust s).intake = s.intake ∧ (yieldIfMust s).accounts = s.accounts ∧ (yieldIfMust s).stack = s.stack ∧
      (yieldIfMust s).cond = s.cond ∧ (yieldIfMust s).line.state = s.line.state ∧
      (yieldIfMust s).line.synchronised = s.line.synchronised ∧ (yieldIfMust s).line.received = s.line.received ∧
      (yieldIfMust s).line.crcFailures = s.line.crcFailures ∧
      (yieldIfMust s).line.lengthFailures = s.line.lengthFailures ∧
      (yieldIfMust s).line.contentDiscards = s.line.contentDiscards ∧
      (yieldIfMust s).line.addressDiscards = s.line.addressDiscards ∧ (yieldIfMust s).line.sent = s.line.sent ∧
      (yieldIfMust s).line.losses = s.line.losses ∧ (yieldIfMust s).line.abandoned = s.line.abandoned ∧
      (yieldIfMust s).line.statusTimer = s.line.statusTimer ∧
      (yieldIfMust s).line.joiningTimer = s.line.joiningTimer ∧ (yieldIfMust s).line.answers = s.line.answers ∧
      (yieldIfMust s).peers = s.peers ∧ (yieldIfMust s).claims.consent = s.claims.consent ∧
      (yieldIfMust s).claims.latch = s.claims.latch ∧ (yieldIfMust s).bypass = s.bypass ∧
      (yieldIfMust s).visits = s.visits ∧ (yieldIfMust s).queue = s.queue ∧ (yieldIfMust s).monitor = s.monitor ∧
      (yieldIfMust s).port = s.port ∧ (yieldIfMust s).free = s.free ∧ (yieldIfMust s).pending = s.pending := by
  unfold yieldIfMust
  (repeat' split) <;> simp

@[simp] theorem noteConflict_keeps (station : Nat) (s : State) :
      (noteConflict station s).held = s.held ∧ (noteConflict station s).pins = s.pins ∧
      (noteConflict station s).id = s.id ∧ (noteConflict station s).cfg = s.cfg ∧
      (noteConflict station s).clampCount = s.clampCount ∧ (noteConflict station s).clock = s.clock ∧
      (noteConflict station s).intake = s.intake ∧ (noteConflict station s).accounts = s.accounts ∧
      (noteConflict station s).stack = s.stack ∧ (noteConflict station s).cond = s.cond ∧
      (noteConflict station s).line = s.line ∧ (noteConflict station s).peers = s.peers ∧
      (noteConflict station s).claims.own = s.claims.own ∧ (noteConflict station s).claims.window = s.claims.window ∧
      (noteConflict station s).claims.list = s.claims.list ∧
      (noteConflict station s).claims.consent = s.claims.consent ∧
      (noteConflict station s).claims.last = s.claims.last ∧
      (noteConflict station s).claims.lastKind = s.claims.lastKind ∧
      (noteConflict station s).claims.spacing = s.claims.spacing ∧ (noteConflict station s).bypass = s.bypass ∧
      (noteConflict station s).visits = s.visits ∧ (noteConflict station s).queue = s.queue ∧
      (noteConflict station s).monitor.hot = s.monitor.hot ∧
      (noteConflict station s).monitor.lineErrors = s.monitor.lineErrors ∧ (noteConflict station s).port = s.port ∧
      (noteConflict station s).free = s.free ∧ (noteConflict station s).pending = s.pending := by
  unfold noteConflict
  (repeat' split) <;> simp

end Sys2Proof.Machine
end

