-- ==== Sys2Proof/Laws/FramesStack.lean ====
section
/-! SUPPORT. What each operation of the activity stack and the visits leaves alone: one lemma per operation, every field
of the state that it does not write. -/

namespace Sys2Proof.Machine

@[simp] theorem setFrames_keeps (fs : List Frame) (s : State) :
      (setFrames fs s).held = s.held ∧ (setFrames fs s).pins = s.pins ∧ (setFrames fs s).id = s.id ∧
      (setFrames fs s).cfg = s.cfg ∧ (setFrames fs s).clampCount = s.clampCount ∧ (setFrames fs s).clock = s.clock ∧
      (setFrames fs s).intake = s.intake ∧ (setFrames fs s).accounts = s.accounts ∧
      (setFrames fs s).stack.dischargeDeferred = s.stack.dischargeDeferred ∧
      (setFrames fs s).stack.withdrawalDeferred = s.stack.withdrawalDeferred ∧
      (setFrames fs s).stack.settle = s.stack.settle ∧ (setFrames fs s).cond = s.cond ∧
      (setFrames fs s).line = s.line ∧ (setFrames fs s).peers = s.peers ∧ (setFrames fs s).claims = s.claims ∧
      (setFrames fs s).bypass = s.bypass ∧ (setFrames fs s).visits = s.visits ∧ (setFrames fs s).queue = s.queue ∧
      (setFrames fs s).monitor = s.monitor ∧ (setFrames fs s).port = s.port ∧ (setFrames fs s).free = s.free ∧
      (setFrames fs s).pending = s.pending := by
  unfold setFrames
  simp

@[simp] theorem pushFrame_keeps (f : Frame) (s : State) :
      (pushFrame f s).held = s.held ∧ (pushFrame f s).pins = s.pins ∧ (pushFrame f s).id = s.id ∧
      (pushFrame f s).cfg = s.cfg ∧ (pushFrame f s).clampCount = s.clampCount ∧ (pushFrame f s).clock = s.clock ∧
      (pushFrame f s).intake = s.intake ∧ (pushFrame f s).accounts = s.accounts ∧
      (pushFrame f s).stack.dischargeDeferred = s.stack.dischargeDeferred ∧
      (pushFrame f s).stack.withdrawalDeferred = s.stack.withdrawalDeferred ∧
      (pushFrame f s).stack.settle = s.stack.settle ∧ (pushFrame f s).cond = s.cond ∧ (pushFrame f s).line = s.line ∧
      (pushFrame f s).peers = s.peers ∧ (pushFrame f s).claims = s.claims ∧ (pushFrame f s).bypass = s.bypass ∧
      (pushFrame f s).visits = s.visits ∧ (pushFrame f s).queue = s.queue ∧ (pushFrame f s).monitor = s.monitor ∧
      (pushFrame f s).port = s.port ∧ (pushFrame f s).free = s.free ∧ (pushFrame f s).pending = s.pending := by
  unfold pushFrame
  simp

@[simp] theorem takeOff_keeps (kind : Frame → Bool) (s : State) :
      (takeOff kind s).held = s.held ∧ (takeOff kind s).pins = s.pins ∧ (takeOff kind s).id = s.id ∧
      (takeOff kind s).cfg = s.cfg ∧ (takeOff kind s).clampCount = s.clampCount ∧ (takeOff kind s).clock = s.clock ∧
      (takeOff kind s).intake = s.intake ∧ (takeOff kind s).accounts = s.accounts ∧
      (takeOff kind s).stack.dischargeDeferred = s.stack.dischargeDeferred ∧
      (takeOff kind s).stack.withdrawalDeferred = s.stack.withdrawalDeferred ∧
      (takeOff kind s).stack.settle = s.stack.settle ∧ (takeOff kind s).cond = s.cond ∧
      (takeOff kind s).line = s.line ∧ (takeOff kind s).peers = s.peers ∧ (takeOff kind s).claims = s.claims ∧
      (takeOff kind s).bypass = s.bypass ∧ (takeOff kind s).visits = s.visits ∧ (takeOff kind s).queue = s.queue ∧
      (takeOff kind s).monitor = s.monitor ∧ (takeOff kind s).port = s.port ∧ (takeOff kind s).free = s.free ∧
      (takeOff kind s).pending = s.pending := by
  unfold takeOff
  simp

@[simp] theorem setSettle_keeps (s : State) :
      (setSettle s).held = s.held ∧ (setSettle s).pins = s.pins ∧ (setSettle s).id = s.id ∧
      (setSettle s).cfg = s.cfg ∧ (setSettle s).clampCount = s.clampCount ∧ (setSettle s).clock = s.clock ∧
      (setSettle s).intake = s.intake ∧ (setSettle s).accounts = s.accounts ∧
      (setSettle s).stack.frames = s.stack.frames ∧
      (setSettle s).stack.dischargeDeferred = s.stack.dischargeDeferred ∧
      (setSettle s).stack.withdrawalDeferred = s.stack.withdrawalDeferred ∧ (setSettle s).cond = s.cond ∧
      (setSettle s).line.state = s.line.state ∧ (setSettle s).line.synchronised = s.line.synchronised ∧
      (setSettle s).line.received = s.line.received ∧ (setSettle s).line.crcFailures = s.line.crcFailures ∧
      (setSettle s).line.lengthFailures = s.line.lengthFailures ∧
      (setSettle s).line.contentDiscards = s.line.contentDiscards ∧
      (setSettle s).line.addressDiscards = s.line.addressDiscards ∧ (setSettle s).line.sent = s.line.sent ∧
      (setSettle s).line.losses = s.line.losses ∧ (setSettle s).line.abandoned = s.line.abandoned ∧
      (setSettle s).line.displaced = s.line.displaced ∧ (setSettle s).line.drops = s.line.drops ∧
      (setSettle s).line.statusTimer = s.line.statusTimer ∧ (setSettle s).line.joiningTimer = s.line.joiningTimer ∧
      (setSettle s).line.answers = s.line.answers ∧ (setSettle s).peers = s.peers ∧ (setSettle s).claims = s.claims ∧
      (setSettle s).bypass = s.bypass ∧ (setSettle s).visits = s.visits ∧ (setSettle s).queue = s.queue ∧
      (setSettle s).monitor = s.monitor ∧ (setSettle s).port = s.port ∧ (setSettle s).free = s.free ∧
      (setSettle s).pending = s.pending := by
  unfold setSettle
  (repeat' split) <;> simp

@[simp] theorem setRemaining_keeps (m : Nat) (s : State) :
      (setRemaining m s).held = s.held ∧ (setRemaining m s).pins = s.pins ∧ (setRemaining m s).id = s.id ∧
      (setRemaining m s).cfg = s.cfg ∧ (setRemaining m s).clampCount = s.clampCount ∧
      (setRemaining m s).clock = s.clock ∧ (setRemaining m s).intake = s.intake ∧
      (setRemaining m s).accounts = s.accounts ∧ (setRemaining m s).stack = s.stack ∧
      (setRemaining m s).cond.latch = s.cond.latch ∧ (setRemaining m s).cond.equalizeDue = s.cond.equalizeDue ∧
      (setRemaining m s).cond.testLatch = s.cond.testLatch ∧ (setRemaining m s).cond.testDue = s.cond.testDue ∧
      (setRemaining m s).cond.waiting = s.cond.waiting ∧
      (setRemaining m s).cond.overdueRaised = s.cond.overdueRaised ∧
      (setRemaining m s).cond.testSecond = s.cond.testSecond ∧ (setRemaining m s).line = s.line ∧
      (setRemaining m s).peers = s.peers ∧ (setRemaining m s).claims = s.claims ∧
      (setRemaining m s).bypass = s.bypass ∧ (setRemaining m s).visits = s.visits ∧
      (setRemaining m s).queue = s.queue ∧ (setRemaining m s).monitor = s.monitor ∧
      (setRemaining m s).port.list = s.port.list ∧ (setRemaining m s).port.writing = s.port.writing ∧
      (setRemaining m s).port.restartWait = s.port.restartWait ∧ (setRemaining m s).port.areas = s.port.areas ∧
      (setRemaining m s).free = s.free ∧ (setRemaining m s).pending = s.pending := by
  unfold setRemaining
  simp

@[simp] theorem startEqualize_keeps (s : State) :
      (startEqualize s).held = s.held ∧ (startEqualize s).pins = s.pins ∧ (startEqualize s).id = s.id ∧
      (startEqualize s).cfg = s.cfg ∧ (startEqualize s).clampCount = s.clampCount ∧
      (startEqualize s).clock = s.clock ∧ (startEqualize s).intake = s.intake ∧
      (startEqualize s).accounts = s.accounts ∧
      (startEqualize s).stack.dischargeDeferred = s.stack.dischargeDeferred ∧
      (startEqualize s).stack.withdrawalDeferred = s.stack.withdrawalDeferred ∧
      (startEqualize s).stack.settle = s.stack.settle ∧ (startEqualize s).cond.equalizeDue = s.cond.equalizeDue ∧
      (startEqualize s).cond.testLatch = s.cond.testLatch ∧ (startEqualize s).cond.testDue = s.cond.testDue ∧
      (startEqualize s).cond.waiting = s.cond.waiting ∧ (startEqualize s).cond.overdueRaised = s.cond.overdueRaised ∧
      (startEqualize s).cond.testSecond = s.cond.testSecond ∧ (startEqualize s).line = s.line ∧
      (startEqualize s).peers = s.peers ∧ (startEqualize s).claims = s.claims ∧ (startEqualize s).bypass = s.bypass ∧
      (startEqualize s).visits = s.visits ∧ (startEqualize s).queue = s.queue ∧
      (startEqualize s).monitor = s.monitor ∧ (startEqualize s).port.list = s.port.list ∧
      (startEqualize s).port.writing = s.port.writing ∧ (startEqualize s).port.restartWait = s.port.restartWait ∧
      (startEqualize s).port.areas = s.port.areas ∧ (startEqualize s).free = s.free ∧
      (startEqualize s).pending = s.pending := by
  unfold startEqualize
  (repeat' split) <;> simp

@[simp] theorem popEqualize_keeps (s : State) :
      (popEqualize s).held = s.held ∧ (popEqualize s).pins = s.pins ∧ (popEqualize s).id = s.id ∧
      (popEqualize s).cfg = s.cfg ∧ (popEqualize s).clampCount = s.clampCount ∧ (popEqualize s).clock = s.clock ∧
      (popEqualize s).intake = s.intake ∧ (popEqualize s).accounts = s.accounts ∧
      (popEqualize s).stack.dischargeDeferred = s.stack.dischargeDeferred ∧
      (popEqualize s).stack.withdrawalDeferred = s.stack.withdrawalDeferred ∧
      (popEqualize s).cond.testLatch = s.cond.testLatch ∧ (popEqualize s).cond.testDue = s.cond.testDue ∧
      (popEqualize s).cond.waiting = s.cond.waiting ∧ (popEqualize s).cond.overdueRaised = s.cond.overdueRaised ∧
      (popEqualize s).cond.testSecond = s.cond.testSecond ∧ (popEqualize s).line.state = s.line.state ∧
      (popEqualize s).line.synchronised = s.line.synchronised ∧ (popEqualize s).line.received = s.line.received ∧
      (popEqualize s).line.crcFailures = s.line.crcFailures ∧
      (popEqualize s).line.lengthFailures = s.line.lengthFailures ∧
      (popEqualize s).line.contentDiscards = s.line.contentDiscards ∧
      (popEqualize s).line.addressDiscards = s.line.addressDiscards ∧ (popEqualize s).line.sent = s.line.sent ∧
      (popEqualize s).line.losses = s.line.losses ∧ (popEqualize s).line.abandoned = s.line.abandoned ∧
      (popEqualize s).line.displaced = s.line.displaced ∧ (popEqualize s).line.drops = s.line.drops ∧
      (popEqualize s).line.statusTimer = s.line.statusTimer ∧
      (popEqualize s).line.joiningTimer = s.line.joiningTimer ∧ (popEqualize s).line.answers = s.line.answers ∧
      (popEqualize s).peers = s.peers ∧ (popEqualize s).claims = s.claims ∧ (popEqualize s).bypass = s.bypass ∧
      (popEqualize s).visits = s.visits ∧ (popEqualize s).queue = s.queue ∧ (popEqualize s).monitor = s.monitor ∧
      (popEqualize s).port.list = s.port.list ∧ (popEqualize s).port.writing = s.port.writing ∧
      (popEqualize s).port.restartWait = s.port.restartWait ∧ (popEqualize s).port.areas = s.port.areas ∧
      (popEqualize s).free = s.free ∧ (popEqualize s).pending = s.pending := by
  unfold popEqualize
  simp

@[simp] theorem abortEqualize_keeps (s : State) :
      (abortEqualize s).held = s.held ∧ (abortEqualize s).pins = s.pins ∧ (abortEqualize s).id = s.id ∧
      (abortEqualize s).cfg = s.cfg ∧ (abortEqualize s).clampCount = s.clampCount ∧
      (abortEqualize s).clock = s.clock ∧ (abortEqualize s).intake = s.intake ∧
      (abortEqualize s).accounts = s.accounts ∧
      (abortEqualize s).stack.dischargeDeferred = s.stack.dischargeDeferred ∧
      (abortEqualize s).stack.withdrawalDeferred = s.stack.withdrawalDeferred ∧
      (abortEqualize s).cond.equalizeDue = s.cond.equalizeDue ∧ (abortEqualize s).cond.testLatch = s.cond.testLatch ∧
      (abortEqualize s).cond.testDue = s.cond.testDue ∧ (abortEqualize s).cond.waiting = s.cond.waiting ∧
      (abortEqualize s).cond.overdueRaised = s.cond.overdueRaised ∧
      (abortEqualize s).cond.testSecond = s.cond.testSecond ∧ (abortEqualize s).line.state = s.line.state ∧
      (abortEqualize s).line.synchronised = s.line.synchronised ∧ (abortEqualize s).line.received = s.line.received ∧
      (abortEqualize s).line.crcFailures = s.line.crcFailures ∧
      (abortEqualize s).line.lengthFailures = s.line.lengthFailures ∧
      (abortEqualize s).line.contentDiscards = s.line.contentDiscards ∧
      (abortEqualize s).line.addressDiscards = s.line.addressDiscards ∧ (abortEqualize s).line.sent = s.line.sent ∧
      (abortEqualize s).line.losses = s.line.losses ∧ (abortEqualize s).line.abandoned = s.line.abandoned ∧
      (abortEqualize s).line.displaced = s.line.displaced ∧ (abortEqualize s).line.drops = s.line.drops ∧
      (abortEqualize s).line.statusTimer = s.line.statusTimer ∧
      (abortEqualize s).line.joiningTimer = s.line.joiningTimer ∧ (abortEqualize s).line.answers = s.line.answers ∧
      (abortEqualize s).peers = s.peers ∧ (abortEqualize s).claims = s.claims ∧ (abortEqualize s).bypass = s.bypass ∧
      (abortEqualize s).visits = s.visits ∧ (abortEqualize s).queue = s.queue ∧
      (abortEqualize s).monitor = s.monitor ∧ (abortEqualize s).port.list = s.port.list ∧
      (abortEqualize s).port.writing = s.port.writing ∧ (abortEqualize s).port.restartWait = s.port.restartWait ∧
      (abortEqualize s).port.areas = s.port.areas ∧ (abortEqualize s).free = s.free ∧
      (abortEqualize s).pending = s.pending := by
  unfold abortEqualize
  dsimp only
  (repeat' split) <;> simp

@[simp] theorem handRecords_keeps (result : TestResult) (f : TestFrame) (s : State) :
      (handRecords result f s).held = s.held ∧ (handRecords result f s).pins = s.pins ∧
      (handRecords result f s).id = s.id ∧ (handRecords result f s).cfg = s.cfg ∧
      (handRecords result f s).clampCount = s.clampCount ∧ (handRecords result f s).clock = s.clock ∧
      (handRecords result f s).intake = s.intake ∧ (handRecords result f s).accounts.second = s.accounts.second ∧
      (handRecords result f s).stack = s.stack ∧ (handRecords result f s).cond = s.cond ∧
      (handRecords result f s).line = s.line ∧ (handRecords result f s).peers = s.peers ∧
      (handRecords result f s).claims = s.claims ∧ (handRecords result f s).bypass = s.bypass ∧
      (handRecords result f s).visits = s.visits ∧ (handRecords result f s).monitor = s.monitor ∧
      (handRecords result f s).port.writing = s.port.writing ∧
      (handRecords result f s).port.restartWait = s.port.restartWait ∧
      (handRecords result f s).port.areas = s.port.areas ∧ (handRecords result f s).free = s.free ∧
      (handRecords result f s).pending = s.pending := by
  unfold handRecords
  refine foldl_inv (P := fun t =>
    t.held = s.held ∧ t.pins = s.pins ∧ t.id = s.id ∧ t.cfg = s.cfg ∧ t.clampCount = s.clampCount ∧
    t.clock = s.clock ∧ t.intake = s.intake ∧ t.accounts.second = s.accounts.second ∧ t.stack = s.stack ∧
    t.cond = s.cond ∧ t.line = s.line ∧ t.peers = s.peers ∧ t.claims = s.claims ∧ t.bypass = s.bypass ∧
    t.visits = s.visits ∧ t.monitor = s.monitor ∧ t.port.writing = s.port.writing ∧
    t.port.restartWait = s.port.restartWait ∧ t.port.areas = s.port.areas ∧ t.free = s.free ∧ t.pending = s.pending) _ ?_ _ _ ?_
  · intro t a h
    simp [h]
  · simp

@[simp] theorem raiseWeakTested_keeps (result : TestResult) (f : TestFrame) (s : State) :
      (raiseWeakTested result f s).held = s.held ∧ (raiseWeakTested result f s).pins = s.pins ∧
      (raiseWeakTested result f s).id = s.id ∧ (raiseWeakTested result f s).cfg = s.cfg ∧
      (raiseWeakTested result f s).clampCount = s.clampCount ∧ (raiseWeakTested result f s).clock = s.clock ∧
      (raiseWeakTested result f s).intake = s.intake ∧ (raiseWeakTested result f s).accounts = s.accounts ∧
      (raiseWeakTested result f s).stack = s.stack ∧ (raiseWeakTested result f s).cond = s.cond ∧
      (raiseWeakTested result f s).line = s.line ∧ (raiseWeakTested result f s).peers = s.peers ∧
      (raiseWeakTested result f s).claims = s.claims ∧ (raiseWeakTested result f s).bypass = s.bypass ∧
      (raiseWeakTested result f s).visits = s.visits ∧ (raiseWeakTested result f s).monitor = s.monitor ∧
      (raiseWeakTested result f s).port.writing = s.port.writing ∧
      (raiseWeakTested result f s).port.restartWait = s.port.restartWait ∧
      (raiseWeakTested result f s).port.areas = s.port.areas ∧ (raiseWeakTested result f s).free = s.free ∧
      (raiseWeakTested result f s).pending = s.pending := by
  unfold raiseWeakTested
  refine foldl_inv (P := fun t =>
    t.held = s.held ∧ t.pins = s.pins ∧ t.id = s.id ∧ t.cfg = s.cfg ∧ t.clampCount = s.clampCount ∧
    t.clock = s.clock ∧ t.intake = s.intake ∧ t.accounts = s.accounts ∧ t.stack = s.stack ∧ t.cond = s.cond ∧
    t.line = s.line ∧ t.peers = s.peers ∧ t.claims = s.claims ∧ t.bypass = s.bypass ∧ t.visits = s.visits ∧
    t.monitor = s.monitor ∧ t.port.writing = s.port.writing ∧ t.port.restartWait = s.port.restartWait ∧
    t.port.areas = s.port.areas ∧ t.free = s.free ∧ t.pending = s.pending) _ ?_ _ _ ?_
  · intro t a h
    (repeat' split) <;> simp [h]
  · simp

@[simp] theorem askTestWrites_keeps (s : State) :
      (askTestWrites s).held = s.held ∧ (askTestWrites s).pins = s.pins ∧ (askTestWrites s).id = s.id ∧
      (askTestWrites s).cfg = s.cfg ∧ (askTestWrites s).clampCount = s.clampCount ∧
      (askTestWrites s).clock = s.clock ∧ (askTestWrites s).intake = s.intake ∧
      (askTestWrites s).accounts = s.accounts ∧ (askTestWrites s).stack = s.stack ∧ (askTestWrites s).cond = s.cond ∧
      (askTestWrites s).line = s.line ∧ (askTestWrites s).peers = s.peers ∧ (askTestWrites s).claims = s.claims ∧
      (askTestWrites s).bypass = s.bypass ∧ (askTestWrites s).visits = s.visits ∧ (askTestWrites s).queue = s.queue ∧
      (askTestWrites s).monitor = s.monitor ∧ (askTestWrites s).port.states = s.port.states ∧
      (askTestWrites s).port.writing = s.port.writing ∧ (askTestWrites s).port.restartWait = s.port.restartWait ∧
      (askTestWrites s).port.areas = s.port.areas ∧ (askTestWrites s).free = s.free ∧
      (askTestWrites s).pending = s.pending := by
  unfold askTestWrites
  refine foldl_inv (P := fun t =>
    t.held = s.held ∧ t.pins = s.pins ∧ t.id = s.id ∧ t.cfg = s.cfg ∧ t.clampCount = s.clampCount ∧
    t.clock = s.clock ∧ t.intake = s.intake ∧ t.accounts = s.accounts ∧ t.stack = s.stack ∧ t.cond = s.cond ∧
    t.line = s.line ∧ t.peers = s.peers ∧ t.claims = s.claims ∧ t.bypass = s.bypass ∧ t.visits = s.visits ∧
    t.queue = s.queue ∧ t.monitor = s.monitor ∧ t.port.states = s.port.states ∧ t.port.writing = s.port.writing ∧
    t.port.restartWait = s.port.restartWait ∧ t.port.areas = s.port.areas ∧ t.free = s.free ∧ t.pending = s.pending) _ ?_ _ _ ?_
  · intro t a h
    simp [h]
  · simp

@[simp] theorem settleSchedule_keeps (s : State) :
      (settleSchedule s).held = s.held ∧ (settleSchedule s).pins = s.pins ∧ (settleSchedule s).id = s.id ∧
      (settleSchedule s).cfg = s.cfg ∧ (settleSchedule s).clampCount = s.clampCount ∧
      (settleSchedule s).clock = s.clock ∧ (settleSchedule s).intake = s.intake ∧
      (settleSchedule s).accounts = s.accounts ∧ (settleSchedule s).stack = s.stack ∧
      (settleSchedule s).cond.latch = s.cond.latch ∧ (settleSchedule s).cond.equalizeDue = s.cond.equalizeDue ∧
      (settleSchedule s).cond.waiting = s.cond.waiting ∧ (settleSchedule s).cond.testSecond = s.cond.testSecond ∧
      (settleSchedule s).cond.remainingField = s.cond.remainingField ∧ (settleSchedule s).line = s.line ∧
      (settleSchedule s).peers = s.peers ∧ (settleSchedule s).claims = s.claims ∧
      (settleSchedule s).bypass = s.bypass ∧ (settleSchedule s).visits = s.visits ∧
      (settleSchedule s).queue = s.queue ∧ (settleSchedule s).monitor = s.monitor ∧
      (settleSchedule s).port.list = s.port.list ∧ (settleSchedule s).port.writing = s.port.writing ∧
      (settleSchedule s).port.restartWait = s.port.restartWait ∧ (settleSchedule s).port.areas = s.port.areas ∧
      (settleSchedule s).free = s.free ∧ (settleSchedule s).pending = s.pending := by
  unfold settleSchedule
  simp

@[simp] theorem concludeTest_keeps (result : TestResult) (f : TestFrame) (s : State) :
      (concludeTest result f s).held = s.held ∧ (concludeTest result f s).pins = s.pins ∧
      (concludeTest result f s).id = s.id ∧ (concludeTest result f s).cfg = s.cfg ∧
      (concludeTest result f s).clampCount = s.clampCount ∧ (concludeTest result f s).clock = s.clock ∧
      (concludeTest result f s).intake = s.intake ∧ (concludeTest result f s).accounts.second = s.accounts.second ∧
      (concludeTest result f s).stack = s.stack ∧ (concludeTest result f s).cond.latch = s.cond.latch ∧
      (concludeTest result f s).cond.equalizeDue = s.cond.equalizeDue ∧
      (concludeTest result f s).cond.waiting = s.cond.waiting ∧
      (concludeTest result f s).cond.testSecond = s.cond.testSecond ∧
      (concludeTest result f s).cond.remainingField = s.cond.remainingField ∧
      (concludeTest result f s).line = s.line ∧ (concludeTest result f s).peers = s.peers ∧
      (concludeTest result f s).claims = s.claims ∧ (concludeTest result f s).bypass = s.bypass ∧
      (concludeTest result f s).visits = s.visits ∧ (concludeTest result f s).monitor = s.monitor ∧
      (concludeTest result f s).port.writing = s.port.writing ∧
      (concludeTest result f s).port.restartWait = s.port.restartWait ∧
      (concludeTest result f s).port.areas = s.port.areas ∧ (concludeTest result f s).free = s.free ∧
      (concludeTest result f s).pending = s.pending := by
  unfold concludeTest
  dsimp only
  (repeat' split) <;> simp

@[simp] theorem endTest_keeps (result : TestResult) (s : State) :
      (endTest result s).held = s.held ∧ (endTest result s).pins = s.pins ∧ (endTest result s).id = s.id ∧
      (endTest result s).cfg = s.cfg ∧ (endTest result s).clampCount = s.clampCount ∧
      (endTest result s).clock = s.clock ∧ (endTest result s).intake = s.intake ∧
      (endTest result s).accounts.second = s.accounts.second ∧
      (endTest result s).stack.dischargeDeferred = s.stack.dischargeDeferred ∧
      (endTest result s).stack.withdrawalDeferred = s.stack.withdrawalDeferred ∧
      (endTest result s).cond.latch = s.cond.latch ∧ (endTest result s).cond.equalizeDue = s.cond.equalizeDue ∧
      (endTest result s).cond.waiting = s.cond.waiting ∧
      (endTest result s).cond.remainingField = s.cond.remainingField ∧ (endTest result s).line.state = s.line.state ∧
      (endTest result s).line.synchronised = s.line.synchronised ∧
      (endTest result s).line.received = s.line.received ∧ (endTest result s).line.crcFailures = s.line.crcFailures ∧
      (endTest result s).line.lengthFailures = s.line.lengthFailures ∧
      (endTest result s).line.contentDiscards = s.line.contentDiscards ∧
      (endTest result s).line.addressDiscards = s.line.addressDiscards ∧ (endTest result s).line.sent = s.line.sent ∧
      (endTest result s).line.losses = s.line.losses ∧ (endTest result s).line.abandoned = s.line.abandoned ∧
      (endTest result s).line.statusTimer = s.line.statusTimer ∧
      (endTest result s).line.joiningTimer = s.line.joiningTimer ∧ (endTest result s).line.answers = s.line.answers ∧
      (endTest result s).peers = s.peers ∧ (endTest result s).claims.consent = s.claims.consent ∧
      (endTest result s).claims.last = s.claims.last ∧ (endTest result s).claims.lastKind = s.claims.lastKind ∧
      (endTest result s).claims.latch = s.claims.latch ∧ (endTest result s).bypass = s.bypass ∧
      (endTest result s).visits = s.visits ∧ (endTest result s).monitor = s.monitor ∧
      (endTest result s).port.writing = s.port.writing ∧ (endTest result s).port.restartWait = s.port.restartWait ∧
      (endTest result s).port.areas = s.port.areas ∧ (endTest result s).free = s.free ∧
      (endTest result s).pending = s.pending := by
  unfold endTest
  dsimp only
  (repeat' split) <;> simp

@[simp] theorem pushDischarge_keeps (s : State) :
      (pushDischarge s).held = s.held ∧ (pushDischarge s).pins = s.pins ∧ (pushDischarge s).id = s.id ∧
      (pushDischarge s).cfg = s.cfg ∧ (pushDischarge s).clampCount = s.clampCount ∧
      (pushDischarge s).clock = s.clock ∧ (pushDischarge s).intake = s.intake ∧
      (pushDischarge s).accounts = s.accounts ∧
      (pushDischarge s).stack.dischargeDeferred = s.stack.dischargeDeferred ∧
      (pushDischarge s).stack.withdrawalDeferred = s.stack.withdrawalDeferred ∧
      (pushDischarge s).stack.settle = s.stack.settle ∧ (pushDischarge s).cond = s.cond ∧
      (pushDischarge s).line = s.line ∧ (pushDischarge s).peers = s.peers ∧ (pushDischarge s).claims = s.claims ∧
      (pushDischarge s).bypass = s.bypass ∧ (pushDischarge s).visits = s.visits ∧ (pushDischarge s).queue = s.queue ∧
      (pushDischarge s).monitor = s.monitor ∧ (pushDischarge s).port = s.port ∧ (pushDischarge s).free = s.free ∧
      (pushDischarge s).pending = s.pending := by
  unfold pushDischarge
  simp

@[simp] theorem forceDischarge_keeps (s : State) :
      (forceDischarge s).held = s.held ∧ (forceDischarge s).pins = s.pins ∧ (forceDischarge s).id = s.id ∧
      (forceDischarge s).cfg = s.cfg ∧ (forceDischarge s).clampCount = s.clampCount ∧
      (forceDischarge s).clock = s.clock ∧ (forceDischarge s).intake = s.intake ∧
      (forceDischarge s).accounts.second = s.accounts.second ∧
      (forceDischarge s).stack.withdrawalDeferred = s.stack.withdrawalDeferred ∧
      (forceDischarge s).cond.latch = s.cond.latch ∧ (forceDischarge s).cond.equalizeDue = s.cond.equalizeDue ∧
      (forceDischarge s).cond.waiting = s.cond.waiting ∧
      (forceDischarge s).cond.remainingField = s.cond.remainingField ∧ (forceDischarge s).line.state = s.line.state ∧
      (forceDischarge s).line.synchronised = s.line.synchronised ∧
      (forceDischarge s).line.received = s.line.received ∧ (forceDischarge s).line.crcFailures = s.line.crcFailures ∧
      (forceDischarge s).line.lengthFailures = s.line.lengthFailures ∧
      (forceDischarge s).line.contentDiscards = s.line.contentDiscards ∧
      (forceDischarge s).line.addressDiscards = s.line.addressDiscards ∧ (forceDischarge s).line.sent = s.line.sent ∧
      (forceDischarge s).line.losses = s.line.losses ∧ (forceDischarge s).line.abandoned = s.line.abandoned ∧
      (forceDischarge s).line.statusTimer = s.line.statusTimer ∧
      (forceDischarge s).line.joiningTimer = s.line.joiningTimer ∧ (forceDischarge s).line.answers = s.line.answers ∧
      (forceDischarge s).peers = s.peers ∧ (forceDischarge s).claims.consent = s.claims.consent ∧
      (forceDischarge s).claims.last = s.claims.last ∧ (forceDischarge s).claims.lastKind = s.claims.lastKind ∧
      (forceDischarge s).claims.latch = s.claims.latch ∧ (forceDischarge s).bypass = s.bypass ∧
      (forceDischarge s).visits = s.visits ∧ (forceDischarge s).monitor = s.monitor ∧
      (forceDischarge s).port.writing = s.port.writing ∧ (forceDischarge s).port.restartWait = s.port.restartWait ∧
      (forceDischarge s).port.areas = s.port.areas ∧ (forceDischarge s).free = s.free ∧
      (forceDischarge s).pending = s.pending := by
  unfold forceDischarge
  (repeat' split) <;> simp

@[simp] theorem pushWithdrawn_keeps (o : WithdrawalOrigin) (s : State) :
      (pushWithdrawn o s).held = s.held ∧ (pushWithdrawn o s).pins = s.pins ∧ (pushWithdrawn o s).id = s.id ∧
      (pushWithdrawn o s).cfg = s.cfg ∧ (pushWithdrawn o s).clampCount = s.clampCount ∧
      (pushWithdrawn o s).clock = s.clock ∧ (pushWithdrawn o s).intake = s.intake ∧
      (pushWithdrawn o s).accounts = s.accounts ∧
      (pushWithdrawn o s).stack.dischargeDeferred = s.stack.dischargeDeferred ∧
      (pushWithdrawn o s).stack.withdrawalDeferred = s.stack.withdrawalDeferred ∧
      (pushWithdrawn o s).stack.settle = s.stack.settle ∧ (pushWithdrawn o s).cond = s.cond ∧
      (pushWithdrawn o s).line = s.line ∧ (pushWithdrawn o s).peers = s.peers ∧
      (pushWithdrawn o s).claims = s.claims ∧ (pushWithdrawn o s).bypass = s.bypass ∧
      (pushWithdrawn o s).visits = s.visits ∧ (pushWithdrawn o s).queue = s.queue ∧
      (pushWithdrawn o s).monitor = s.monitor ∧ (pushWithdrawn o s).port = s.port ∧
      (pushWithdrawn o s).free = s.free ∧ (pushWithdrawn o s).pending = s.pending := by
  unfold pushWithdrawn
  simp

@[simp] theorem forceWithdrawal_keeps (o : WithdrawalOrigin) (s : State) :
      (forceWithdrawal o s).held = s.held ∧ (forceWithdrawal o s).pins = s.pins ∧ (forceWithdrawal o s).id = s.id ∧
      (forceWithdrawal o s).cfg = s.cfg ∧ (forceWithdrawal o s).clampCount = s.clampCount ∧
      (forceWithdrawal o s).clock = s.clock ∧ (forceWithdrawal o s).intake = s.intake ∧
      (forceWithdrawal o s).accounts.second = s.accounts.second ∧
      (forceWithdrawal o s).stack.dischargeDeferred = s.stack.dischargeDeferred ∧
      (forceWithdrawal o s).cond.latch = s.cond.latch ∧ (forceWithdrawal o s).cond.equalizeDue = s.cond.equalizeDue ∧
      (forceWithdrawal o s).cond.waiting = s.cond.waiting ∧
      (forceWithdrawal o s).cond.remainingField = s.cond.remainingField ∧
      (forceWithdrawal o s).line.state = s.line.state ∧
      (forceWithdrawal o s).line.synchronised = s.line.synchronised ∧
      (forceWithdrawal o s).line.received = s.line.received ∧
      (forceWithdrawal o s).line.crcFailures = s.line.crcFailures ∧
      (forceWithdrawal o s).line.lengthFailures = s.line.lengthFailures ∧
      (forceWithdrawal o s).line.contentDiscards = s.line.contentDiscards ∧
      (forceWithdrawal o s).line.addressDiscards = s.line.addressDiscards ∧
      (forceWithdrawal o s).line.sent = s.line.sent ∧ (forceWithdrawal o s).line.losses = s.line.losses ∧
      (forceWithdrawal o s).line.abandoned = s.line.abandoned ∧
      (forceWithdrawal o s).line.statusTimer = s.line.statusTimer ∧
      (forceWithdrawal o s).line.joiningTimer = s.line.joiningTimer ∧
      (forceWithdrawal o s).line.answers = s.line.answers ∧ (forceWithdrawal o s).peers = s.peers ∧
      (forceWithdrawal o s).claims.consent = s.claims.consent ∧ (forceWithdrawal o s).claims.last = s.claims.last ∧
      (forceWithdrawal o s).claims.lastKind = s.claims.lastKind ∧
      (forceWithdrawal o s).claims.latch = s.claims.latch ∧ (forceWithdrawal o s).bypass = s.bypass ∧
      (forceWithdrawal o s).visits = s.visits ∧ (forceWithdrawal o s).monitor = s.monitor ∧
      (forceWithdrawal o s).port.writing = s.port.writing ∧
      (forceWithdrawal o s).port.restartWait = s.port.restartWait ∧ (forceWithdrawal o s).port.areas = s.port.areas ∧
      (forceWithdrawal o s).free = s.free ∧ (forceWithdrawal o s).pending = s.pending := by
  unfold forceWithdrawal
  (repeat' split) <;> simp

@[simp] theorem popDischarge_keeps (s : State) :
      (popDischarge s).held = s.held ∧ (popDischarge s).pins = s.pins ∧ (popDischarge s).id = s.id ∧
      (popDischarge s).cfg = s.cfg ∧ (popDischarge s).clampCount = s.clampCount ∧ (popDischarge s).clock = s.clock ∧
      (popDischarge s).intake = s.intake ∧ (popDischarge s).accounts = s.accounts ∧
      (popDischarge s).stack.dischargeDeferred = s.stack.dischargeDeferred ∧ (popDischarge s).cond = s.cond ∧
      (popDischarge s).line.state = s.line.state ∧ (popDischarge s).line.synchronised = s.line.synchronised ∧
      (popDischarge s).line.received = s.line.received ∧ (popDischarge s).line.crcFailures = s.line.crcFailures ∧
      (popDischarge s).line.lengthFailures = s.line.lengthFailures ∧
      (popDischarge s).line.contentDiscards = s.line.contentDiscards ∧
      (popDischarge s).line.addressDiscards = s.line.addressDiscards ∧ (popDischarge s).line.sent = s.line.sent ∧
      (popDischarge s).line.losses = s.line.losses ∧ (popDischarge s).line.abandoned = s.line.abandoned ∧
      (popDischarge s).line.displaced = s.line.displaced ∧ (popDischarge s).line.drops = s.line.drops ∧
      (popDischarge s).line.statusTimer = s.line.statusTimer ∧
      (popDischarge s).line.joiningTimer = s.line.joiningTimer ∧ (popDischarge s).line.answers = s.line.answers ∧
      (popDischarge s).peers = s.peers ∧ (popDischarge s).claims = s.claims ∧ (popDischarge s).bypass = s.bypass ∧
      (popDischarge s).visits = s.visits ∧ (popDischarge s).queue = s.queue ∧ (popDischarge s).monitor = s.monitor ∧
      (popDischarge s).port = s.port ∧ (popDischarge s).free = s.free ∧ (popDischarge s).pending = s.pending := by
  unfold popDischarge
  dsimp only
  (repeat' split) <;> simp

@[simp] theorem changeVisit_keeps (f : Visit → Visit) (s : State) :
      (changeVisit f s).held = s.held ∧ (changeVisit f s).pins = s.pins ∧ (changeVisit f s).id = s.id ∧
      (changeVisit f s).cfg = s.cfg ∧ (changeVisit f s).clampCount = s.clampCount ∧
      (changeVisit f s).clock = s.clock ∧ (changeVisit f s).intake = s.intake ∧
      (changeVisit f s).accounts = s.accounts ∧ (changeVisit f s).stack = s.stack ∧ (changeVisit f s).cond = s.cond ∧
      (changeVisit f s).line = s.line ∧ (changeVisit f s).peers = s.peers ∧ (changeVisit f s).claims = s.claims ∧
      (changeVisit f s).bypass = s.bypass ∧ (changeVisit f s).visits.history = s.visits.history ∧
      (changeVisit f s).visits.counter = s.visits.counter ∧
      (changeVisit f s).visits.overdueTimer = s.visits.overdueTimer ∧
      (changeVisit f s).visits.stable = s.visits.stable ∧
      (changeVisit f s).visits.settleTimer = s.visits.settleTimer ∧
      (changeVisit f s).visits.requestHeld = s.visits.requestHeld ∧ (changeVisit f s).queue = s.queue ∧
      (changeVisit f s).monitor = s.monitor ∧ (changeVisit f s).port = s.port ∧ (changeVisit f s).free = s.free ∧
      (changeVisit f s).pending = s.pending := by
  unfold changeVisit
  simp

@[simp] theorem abandonKind_keeps (k : ClaimKind) (s : State) :
      (abandonKind k s).held = s.held ∧ (abandonKind k s).pins = s.pins ∧ (abandonKind k s).id = s.id ∧
      (abandonKind k s).cfg = s.cfg ∧ (abandonKind k s).clampCount = s.clampCount ∧
      (abandonKind k s).clock = s.clock ∧ (abandonKind k s).intake = s.intake ∧
      (abandonKind k s).accounts = s.accounts ∧ (abandonKind k s).stack = s.stack ∧ (abandonKind k s).cond = s.cond ∧
      (abandonKind k s).line.state = s.line.state ∧ (abandonKind k s).line.synchronised = s.line.synchronised ∧
      (abandonKind k s).line.received = s.line.received ∧ (abandonKind k s).line.crcFailures = s.line.crcFailures ∧
      (abandonKind k s).line.lengthFailures = s.line.lengthFailures ∧
      (abandonKind k s).line.contentDiscards = s.line.contentDiscards ∧
      (abandonKind k s).line.addressDiscards = s.line.addressDiscards ∧ (abandonKind k s).line.sent = s.line.sent ∧
      (abandonKind k s).line.losses = s.line.losses ∧ (abandonKind k s).line.abandoned = s.line.abandoned ∧
      (abandonKind k s).line.statusTimer = s.line.statusTimer ∧
      (abandonKind k s).line.joiningTimer = s.line.joiningTimer ∧ (abandonKind k s).line.answers = s.line.answers ∧
      (abandonKind k s).peers = s.peers ∧ (abandonKind k s).claims.consent = s.claims.consent ∧
      (abandonKind k s).claims.latch = s.claims.latch ∧ (abandonKind k s).bypass = s.bypass ∧
      (abandonKind k s).visits = s.visits ∧ (abandonKind k s).queue = s.queue ∧
      (abandonKind k s).monitor = s.monitor ∧ (abandonKind k s).port = s.port ∧ (abandonKind k s).free = s.free ∧
      (abandonKind k s).pending = s.pending := by
  unfold abandonKind
  (repeat' split) <;> simp

@[simp] theorem openVisit_keeps (origin : VisitOrigin) (technician planned : Nat) (s : State) :
      (openVisit origin technician planned s).held = s.held ∧ (openVisit origin technician planned s).pins = s.pins ∧
      (openVisit origin technician planned s).id = s.id ∧ (openVisit origin technician planned s).cfg = s.cfg ∧
      (openVisit origin technician planned s).clampCount = s.clampCount ∧
      (openVisit origin technician planned s).clock = s.clock ∧
      (openVisit origin technician planned s).intake = s.intake ∧
      (openVisit origin technician planned s).accounts.second = s.accounts.second ∧
      (openVisit origin technician planned s).stack.dischargeDeferred = s.stack.dischargeDeferred ∧
      (openVisit origin technician planned s).stack.withdrawalDeferred = s.stack.withdrawalDeferred ∧
      (openVisit origin technician planned s).cond.latch = s.cond.latch ∧
      (openVisit origin technician planned s).cond.equalizeDue = s.cond.equalizeDue ∧
      (openVisit origin technician planned s).cond.remainingField = s.cond.remainingField ∧
      (openVisit origin technician planned s).line.state = s.line.state ∧
      (openVisit origin technician planned s).line.synchronised = s.line.synchronised ∧
      (openVisit origin technician planned s).line.received = s.line.received ∧
      (openVisit origin technician planned s).line.crcFailures = s.line.crcFailures ∧
      (openVisit origin technician planned s).line.lengthFailures = s.line.lengthFailures ∧
      (openVisit origin technician planned s).line.contentDiscards = s.line.contentDiscards ∧
      (openVisit origin technician planned s).line.addressDiscards = s.line.addressDiscards ∧
      (openVisit origin technician planned s).line.sent = s.line.sent ∧
      (openVisit origin technician planned s).line.losses = s.line.losses ∧
      (openVisit origin technician planned s).line.abandoned = s.line.abandoned ∧
      (openVisit origin technician planned s).line.statusTimer = s.line.statusTimer ∧
      (openVisit origin technician planned s).line.joiningTimer = s.line.joiningTimer ∧
      (openVisit origin technician planned s).line.answers = s.line.answers ∧
      (openVisit origin technician planned s).peers = s.peers ∧
      (openVisit origin technician planned s).claims.consent = s.claims.consent ∧
      (openVisit origin technician planned s).claims.latch = s.claims.latch ∧
      (openVisit origin technician planned s).bypass = s.bypass ∧
      (openVisit origin technician planned s).visits.history = s.visits.history ∧
      (openVisit origin technician planned s).visits.stable = s.visits.stable ∧
      (openVisit origin technician planned s).visits.settleTimer = s.visits.settleTimer ∧
      (openVisit origin technician planned s).visits.requestHeld = s.visits.requestHeld ∧
      (openVisit origin technician planned s).monitor = s.monitor ∧
      (openVisit origin technician planned s).port.writing = s.port.writing ∧
      (openVisit origin technician planned s).port.restartWait = s.port.restartWait ∧
      (openVisit origin technician planned s).port.areas = s.port.areas ∧
      (openVisit origin technician planned s).free = s.free ∧
      (openVisit origin technician planned s).pending = s.pending := by
  unfold openVisit
  dsimp only
  simp

@[simp] theorem openKeyVisit_keeps (s : State) :
      (openKeyVisit s).held = s.held ∧ (openKeyVisit s).pins = s.pins ∧ (openKeyVisit s).id = s.id ∧
      (openKeyVisit s).cfg = s.cfg ∧ (openKeyVisit s).clampCount = s.clampCount ∧ (openKeyVisit s).clock = s.clock ∧
      (openKeyVisit s).intake = s.intake ∧ (openKeyVisit s).accounts.second = s.accounts.second ∧
      (openKeyVisit s).stack.dischargeDeferred = s.stack.dischargeDeferred ∧
      (openKeyVisit s).stack.withdrawalDeferred = s.stack.withdrawalDeferred ∧
      (openKeyVisit s).cond.latch = s.cond.latch ∧ (openKeyVisit s).cond.equalizeDue = s.cond.equalizeDue ∧
      (openKeyVisit s).cond.remainingField = s.cond.remainingField ∧ (openKeyVisit s).line.state = s.line.state ∧
      (openKeyVisit s).line.synchronised = s.line.synchronised ∧ (openKeyVisit s).line.received = s.line.received ∧
      (openKeyVisit s).line.crcFailures = s.line.crcFailures ∧
      (openKeyVisit s).line.lengthFailures = s.line.lengthFailures ∧
      (openKeyVisit s).line.contentDiscards = s.line.contentDiscards ∧
      (openKeyVisit s).line.addressDiscards = s.line.addressDiscards ∧ (openKeyVisit s).line.sent = s.line.sent ∧
      (openKeyVisit s).line.losses = s.line.losses ∧ (openKeyVisit s).line.abandoned = s.line.abandoned ∧
      (openKeyVisit s).line.statusTimer = s.line.statusTimer ∧
      (openKeyVisit s).line.joiningTimer = s.line.joiningTimer ∧ (openKeyVisit s).line.answers = s.line.answers ∧
      (openKeyVisit s).peers = s.peers ∧ (openKeyVisit s).claims.consent = s.claims.consent ∧
      (openKeyVisit s).claims.latch = s.claims.latch ∧ (openKeyVisit s).bypass = s.bypass ∧
      (openKeyVisit s).visits.history = s.visits.history ∧ (openKeyVisit s).visits.stable = s.visits.stable ∧
      (openKeyVisit s).visits.settleTimer = s.visits.settleTimer ∧
      (openKeyVisit s).visits.requestHeld = s.visits.requestHeld ∧ (openKeyVisit s).monitor = s.monitor ∧
      (openKeyVisit s).port.writing = s.port.writing ∧ (openKeyVisit s).port.restartWait = s.port.restartWait ∧
      (openKeyVisit s).port.areas = s.port.areas ∧ (openKeyVisit s).free = s.free ∧
      (openKeyVisit s).pending = s.pending := by
  unfold openKeyVisit
  simp

@[simp] theorem returnItems_keeps (number : Nat) (s : State) :
      (returnItems number s).held = s.held ∧ (returnItems number s).pins = s.pins ∧
      (returnItems number s).id = s.id ∧ (returnItems number s).cfg = s.cfg ∧
      (returnItems number s).clampCount = s.clampCount ∧ (returnItems number s).clock = s.clock ∧
      (returnItems number s).intake = s.intake ∧ (returnItems number s).accounts = s.accounts ∧
      (returnItems number s).stack = s.stack ∧ (returnItems number s).cond = s.cond ∧
      (returnItems number s).line = s.line ∧ (returnItems number s).peers = s.peers ∧
      (returnItems number s).claims = s.claims ∧ (returnItems number s).bypass = s.bypass ∧
      (returnItems number s).visits = s.visits ∧ (returnItems number s).queue.counter = s.queue.counter ∧
      (returnItems number s).queue.overflow = s.queue.overflow ∧
      (returnItems number s).queue.displaced = s.queue.displaced ∧ (returnItems number s).queue.mark = s.queue.mark ∧
      (returnItems number s).monitor = s.monitor ∧ (returnItems number s).port.writing = s.port.writing ∧
      (returnItems number s).port.restartWait = s.port.restartWait ∧
      (returnItems number s).port.areas = s.port.areas ∧ (returnItems number s).free = s.free ∧
      (returnItems number s).pending = s.pending := by
  unfold returnItems
  refine foldl_inv (P := fun t =>
    t.held = s.held ∧ t.pins = s.pins ∧ t.id = s.id ∧ t.cfg = s.cfg ∧ t.clampCount = s.clampCount ∧
    t.clock = s.clock ∧ t.intake = s.intake ∧ t.accounts = s.accounts ∧ t.stack = s.stack ∧ t.cond = s.cond ∧
    t.line = s.line ∧ t.peers = s.peers ∧ t.claims = s.claims ∧ t.bypass = s.bypass ∧ t.visits = s.visits ∧
    t.queue.counter = s.queue.counter ∧ t.queue.overflow = s.queue.overflow ∧ t.queue.displaced = s.queue.displaced ∧
    t.queue.mark = s.queue.mark ∧ t.monitor = s.monitor ∧ t.port.writing = s.port.writing ∧
    t.port.restartWait = s.port.restartWait ∧ t.port.areas = s.port.areas ∧ t.free = s.free ∧ t.pending = s.pending) _ ?_ _ _ ?_
  · intro t a h
    (repeat' split) <;> simp [h]
  · simp

@[simp] theorem abandonOwned_keeps (number : Nat) (s : State) :
      (abandonOwned number s).held = s.held ∧ (abandonOwned number s).pins = s.pins ∧
      (abandonOwned number s).id = s.id ∧ (abandonOwned number s).cfg = s.cfg ∧
      (abandonOwned number s).clampCount = s.clampCount ∧ (abandonOwned number s).clock = s.clock ∧
      (abandonOwned number s).intake = s.intake ∧ (abandonOwned number s).accounts = s.accounts ∧
      (abandonOwned number s).stack = s.stack ∧ (abandonOwned number s).cond = s.cond ∧
      (abandonOwned number s).line.state = s.line.state ∧
      (abandonOwned number s).line.synchronised = s.line.synchronised ∧
      (abandonOwned number s).line.received = s.line.received ∧
      (abandonOwned number s).line.crcFailures = s.line.crcFailures ∧
      (abandonOwned number s).line.lengthFailures = s.line.lengthFailures ∧
      (abandonOwned number s).line.contentDiscards = s.line.contentDiscards ∧
      (abandonOwned number s).line.addressDiscards = s.line.addressDiscards ∧
      (abandonOwned number s).line.sent = s.line.sent ∧ (abandonOwned number s).line.losses = s.line.losses ∧
      (abandonOwned number s).line.abandoned = s.line.abandoned ∧
      (abandonOwned number s).line.statusTimer = s.line.statusTimer ∧
      (abandonOwned number s).line.joiningTimer = s.line.joiningTimer ∧
      (abandonOwned number s).line.answers = s.line.answers ∧ (abandonOwned number s).peers = s.peers ∧
      (abandonOwned number s).claims.consent = s.claims.consent ∧
      (abandonOwned number s).claims.latch = s.claims.latch ∧ (abandonOwned number s).bypass = s.bypass ∧
      (abandonOwned number s).visits = s.visits ∧ (abandonOwned number s).queue = s.queue ∧
      (abandonOwned number s).monitor = s.monitor ∧ (abandonOwned number s).port = s.port ∧
      (abandonOwned number s).free = s.free ∧ (abandonOwned number s).pending = s.pending := by
  unfold abandonOwned
  (repeat' split) <;> simp

@[simp] theorem reopenForKey_keeps (s : State) :
      (reopenForKey s).held = s.held ∧ (reopenForKey s).pins = s.pins ∧ (reopenForKey s).id = s.id ∧
      (reopenForKey s).cfg = s.cfg ∧ (reopenForKey s).clampCount = s.clampCount ∧ (reopenForKey s).clock = s.clock ∧
      (reopenForKey s).intake = s.intake ∧ (reopenForKey s).accounts.second = s.accounts.second ∧
      (reopenForKey s).stack.dischargeDeferred = s.stack.dischargeDeferred ∧
      (reopenForKey s).stack.withdrawalDeferred = s.stack.withdrawalDeferred ∧
      (reopenForKey s).cond.latch = s.cond.latch ∧ (reopenForKey s).cond.equalizeDue = s.cond.equalizeDue ∧
      (reopenForKey s).cond.remainingField = s.cond.remainingField ∧ (reopenForKey s).line.state = s.line.state ∧
      (reopenForKey s).line.synchronised = s.line.synchronised ∧ (reopenForKey s).line.received = s.line.received ∧
      (reopenForKey s).line.crcFailures = s.line.crcFailures ∧
      (reopenForKey s).line.lengthFailures = s.line.lengthFailures ∧
      (reopenForKey s).line.contentDiscards = s.line.contentDiscards ∧
      (reopenForKey s).line.addressDiscards = s.line.addressDiscards ∧ (reopenForKey s).line.sent = s.line.sent ∧
      (reopenForKey s).line.losses = s.line.losses ∧ (reopenForKey s).line.abandoned = s.line.abandoned ∧
      (reopenForKey s).line.statusTimer = s.line.statusTimer ∧
      (reopenForKey s).line.joiningTimer = s.line.joiningTimer ∧ (reopenForKey s).line.answers = s.line.answers ∧
      (reopenForKey s).peers = s.peers ∧ (reopenForKey s).claims.consent = s.claims.consent ∧
      (reopenForKey s).claims.latch = s.claims.latch ∧ (reopenForKey s).bypass = s.bypass ∧
      (reopenForKey s).visits.history = s.visits.history ∧ (reopenForKey s).visits.stable = s.visits.stable ∧
      (reopenForKey s).visits.settleTimer = s.visits.settleTimer ∧ (reopenForKey s).monitor = s.monitor ∧
      (reopenForKey s).port.writing = s.port.writing ∧ (reopenForKey s).port.restartWait = s.port.restartWait ∧
      (reopenForKey s).port.areas = s.port.areas ∧ (reopenForKey s).free = s.free ∧
      (reopenForKey s).pending = s.pending := by
  unfold reopenForKey
  dsimp only
  (repeat' split) <;> simp

@[simp] theorem endVisit_keeps (reason : CloseReason) (s : State) :
      (endVisit reason s).held = s.held ∧ (endVisit reason s).pins = s.pins ∧ (endVisit reason s).id = s.id ∧
      (endVisit reason s).cfg = s.cfg ∧ (endVisit reason s).clampCount = s.clampCount ∧
      (endVisit reason s).clock = s.clock ∧ (endVisit reason s).intake = s.intake ∧
      (endVisit reason s).accounts.second = s.accounts.second ∧
      (endVisit reason s).stack.dischargeDeferred = s.stack.dischargeDeferred ∧
      (endVisit reason s).stack.withdrawalDeferred = s.stack.withdrawalDeferred ∧
      (endVisit reason s).cond.latch = s.cond.latch ∧ (endVisit reason s).cond.equalizeDue = s.cond.equalizeDue ∧
      (endVisit reason s).cond.remainingField = s.cond.remainingField ∧
      (endVisit reason s).line.state = s.line.state ∧
      (endVisit reason s).line.synchronised = s.line.synchronised ∧
      (endVisit reason s).line.received = s.line.received ∧
      (endVisit reason s).line.crcFailures = s.line.crcFailures ∧
      (endVisit reason s).line.lengthFailures = s.line.lengthFailures ∧
      (endVisit reason s).line.contentDiscards = s.line.contentDiscards ∧
      (endVisit reason s).line.addressDiscards = s.line.addressDiscards ∧
      (endVisit reason s).line.sent = s.line.sent ∧ (endVisit reason s).line.losses = s.line.losses ∧
      (endVisit reason s).line.abandoned = s.line.abandoned ∧
      (endVisit reason s).line.statusTimer = s.line.statusTimer ∧
      (endVisit reason s).line.joiningTimer = s.line.joiningTimer ∧
      (endVisit reason s).line.answers = s.line.answers ∧ (endVisit reason s).peers = s.peers ∧
      (endVisit reason s).claims.consent = s.claims.consent ∧ (endVisit reason s).claims.latch = s.claims.latch ∧
      (endVisit reason s).bypass = s.bypass ∧ (endVisit reason s).visits.stable = s.visits.stable ∧
      (endVisit reason s).visits.settleTimer = s.visits.settleTimer ∧ (endVisit reason s).monitor = s.monitor ∧
      (endVisit reason s).port.writing = s.port.writing ∧
      (endVisit reason s).port.restartWait = s.port.restartWait ∧ (endVisit reason s).port.areas = s.port.areas ∧
      (endVisit reason s).free = s.free ∧ (endVisit reason s).pending = s.pending := by
  unfold endVisit
  dsimp only
  (repeat' split) <;> simp

@[simp] theorem closeVisit_keeps (reason : CloseReason) (s : State) :
      (closeVisit reason s).held = s.held ∧ (closeVisit reason s).pins = s.pins ∧ (closeVisit reason s).id = s.id ∧
      (closeVisit reason s).cfg = s.cfg ∧ (closeVisit reason s).clampCount = s.clampCount ∧
      (closeVisit reason s).clock = s.clock ∧ (closeVisit reason s).intake = s.intake ∧
      (closeVisit reason s).accounts.second = s.accounts.second ∧
      (closeVisit reason s).stack.dischargeDeferred = s.stack.dischargeDeferred ∧
      (closeVisit reason s).stack.withdrawalDeferred = s.stack.withdrawalDeferred ∧
      (closeVisit reason s).cond.latch = s.cond.latch ∧ (closeVisit reason s).cond.equalizeDue = s.cond.equalizeDue ∧
      (closeVisit reason s).cond.remainingField = s.cond.remainingField ∧
      (closeVisit reason s).line.state = s.line.state ∧
      (closeVisit reason s).line.synchronised = s.line.synchronised ∧
      (closeVisit reason s).line.received = s.line.received ∧
      (closeVisit reason s).line.crcFailures = s.line.crcFailures ∧
      (closeVisit reason s).line.lengthFailures = s.line.lengthFailures ∧
      (closeVisit reason s).line.contentDiscards = s.line.contentDiscards ∧
      (closeVisit reason s).line.addressDiscards = s.line.addressDiscards ∧
      (closeVisit reason s).line.sent = s.line.sent ∧ (closeVisit reason s).line.losses = s.line.losses ∧
      (closeVisit reason s).line.abandoned = s.line.abandoned ∧
      (closeVisit reason s).line.statusTimer = s.line.statusTimer ∧
      (closeVisit reason s).line.joiningTimer = s.line.joiningTimer ∧
      (closeVisit reason s).line.answers = s.line.answers ∧ (closeVisit reason s).peers = s.peers ∧
      (closeVisit reason s).claims.consent = s.claims.consent ∧ (closeVisit reason s).claims.latch = s.claims.latch ∧
      (closeVisit reason s).bypass = s.bypass ∧ (closeVisit reason s).visits.stable = s.visits.stable ∧
      (closeVisit reason s).visits.settleTimer = s.visits.settleTimer ∧ (closeVisit reason s).monitor = s.monitor ∧
      (closeVisit reason s).port.writing = s.port.writing ∧
      (closeVisit reason s).port.restartWait = s.port.restartWait ∧ (closeVisit reason s).port.areas = s.port.areas ∧
      (closeVisit reason s).free = s.free ∧ (closeVisit reason s).pending = s.pending := by
  unfold closeVisit
  (repeat' split) <;> simp

@[simp] theorem ownedRemoved_keeps (owner : Nat) (s : State) :
      (ownedRemoved owner s).held = s.held ∧ (ownedRemoved owner s).pins = s.pins ∧
      (ownedRemoved owner s).id = s.id ∧ (ownedRemoved owner s).cfg = s.cfg ∧
      (ownedRemoved owner s).clampCount = s.clampCount ∧ (ownedRemoved owner s).clock = s.clock ∧
      (ownedRemoved owner s).intake = s.intake ∧ (ownedRemoved owner s).accounts.second = s.accounts.second ∧
      (ownedRemoved owner s).stack.dischargeDeferred = s.stack.dischargeDeferred ∧
      (ownedRemoved owner s).stack.withdrawalDeferred = s.stack.withdrawalDeferred ∧
      (ownedRemoved owner s).cond.latch = s.cond.latch ∧
      (ownedRemoved owner s).cond.equalizeDue = s.cond.equalizeDue ∧
      (ownedRemoved owner s).cond.remainingField = s.cond.remainingField ∧
      (ownedRemoved owner s).line.state = s.line.state ∧
      (ownedRemoved owner s).line.synchronised = s.line.synchronised ∧
      (ownedRemoved owner s).line.received = s.line.received ∧
      (ownedRemoved owner s).line.crcFailures = s.line.crcFailures ∧
      (ownedRemoved owner s).line.lengthFailures = s.line.lengthFailures ∧
      (ownedRemoved owner s).line.contentDiscards = s.line.contentDiscards ∧
      (ownedRemoved owner s).line.addressDiscards = s.line.addressDiscards ∧
      (ownedRemoved owner s).line.sent = s.line.sent ∧ (ownedRemoved owner s).line.losses = s.line.losses ∧
      (ownedRemoved owner s).line.abandoned = s.line.abandoned ∧
      (ownedRemoved owner s).line.statusTimer = s.line.statusTimer ∧
      (ownedRemoved owner s).line.joiningTimer = s.line.joiningTimer ∧
      (ownedRemoved owner s).line.answers = s.line.answers ∧ (ownedRemoved owner s).peers = s.peers ∧
      (ownedRemoved owner s).claims.consent = s.claims.consent ∧
      (ownedRemoved owner s).claims.latch = s.claims.latch ∧ (ownedRemoved owner s).bypass = s.bypass ∧
      (ownedRemoved owner s).visits.stable = s.visits.stable ∧
      (ownedRemoved owner s).visits.settleTimer = s.visits.settleTimer ∧ (ownedRemoved owner s).monitor = s.monitor ∧
      (ownedRemoved owner s).port.writing = s.port.writing ∧
      (ownedRemoved owner s).port.restartWait = s.port.restartWait ∧
      (ownedRemoved owner s).port.areas = s.port.areas ∧ (ownedRemoved owner s).free = s.free ∧
      (ownedRemoved owner s).pending = s.pending := by
  unfold ownedRemoved
  (repeat' split) <;> simp

@[simp] theorem changeWithdrawal_keeps (f : WithdrawalFrame → WithdrawalFrame) (s : State) :
      (changeWithdrawal f s).held = s.held ∧ (changeWithdrawal f s).pins = s.pins ∧
      (changeWithdrawal f s).id = s.id ∧ (changeWithdrawal f s).cfg = s.cfg ∧
      (changeWithdrawal f s).clampCount = s.clampCount ∧ (changeWithdrawal f s).clock = s.clock ∧
      (changeWithdrawal f s).intake = s.intake ∧ (changeWithdrawal f s).accounts = s.accounts ∧
      (changeWithdrawal f s).stack.dischargeDeferred = s.stack.dischargeDeferred ∧
      (changeWithdrawal f s).stack.withdrawalDeferred = s.stack.withdrawalDeferred ∧
      (changeWithdrawal f s).stack.settle = s.stack.settle ∧ (changeWithdrawal f s).cond = s.cond ∧
      (changeWithdrawal f s).line = s.line ∧ (changeWithdrawal f s).peers = s.peers ∧
      (changeWithdrawal f s).claims = s.claims ∧ (changeWithdrawal f s).bypass = s.bypass ∧
      (changeWithdrawal f s).visits = s.visits ∧ (changeWithdrawal f s).queue = s.queue ∧
      (changeWithdrawal f s).monitor = s.monitor ∧ (changeWithdrawal f s).port = s.port ∧
      (changeWithdrawal f s).free = s.free ∧ (changeWithdrawal f s).pending = s.pending := by
  unfold changeWithdrawal
  simp

@[simp] theorem popWithdrawal_keeps (s : State) :
      (popWithdrawal s).held = s.held ∧ (popWithdrawal s).pins = s.pins ∧ (popWithdrawal s).id = s.id ∧
      (popWithdrawal s).cfg = s.cfg ∧ (popWithdrawal s).clampCount = s.clampCount ∧
      (popWithdrawal s).clock = s.clock ∧ (popWithdrawal s).intake = s.intake ∧
      (popWithdrawal s).accounts.second = s.accounts.second ∧
      (popWithdrawal s).stack.withdrawalDeferred = s.stack.withdrawalDeferred ∧
      (popWithdrawal s).cond.latch = s.cond.latch ∧ (popWithdrawal s).cond.equalizeDue = s.cond.equalizeDue ∧
      (popWithdrawal s).cond.remainingField = s.cond.remainingField ∧ (popWithdrawal s).line.state = s.line.state ∧
      (popWithdrawal s).line.synchronised = s.line.synchronised ∧ (popWithdrawal s).line.received = s.line.received ∧
      (popWithdrawal s).line.crcFailures = s.line.crcFailures ∧
      (popWithdrawal s).line.lengthFailures = s.line.lengthFailures ∧
      (popWithdrawal s).line.contentDiscards = s.line.contentDiscards ∧
      (popWithdrawal s).line.addressDiscards = s.line.addressDiscards ∧ (popWithdrawal s).line.sent = s.line.sent ∧
      (popWithdrawal s).line.losses = s.line.losses ∧ (popWithdrawal s).line.abandoned = s.line.abandoned ∧
      (popWithdrawal s).line.statusTimer = s.line.statusTimer ∧
      (popWithdrawal s).line.joiningTimer = s.line.joiningTimer ∧ (popWithdrawal s).line.answers = s.line.answers ∧
      (popWithdrawal s).peers = s.peers ∧ (popWithdrawal s).claims.consent = s.claims.consent ∧
      (popWithdrawal s).claims.latch = s.claims.latch ∧ (popWithdrawal s).bypass = s.bypass ∧
      (popWithdrawal s).visits.stable = s.visits.stable ∧
      (popWithdrawal s).visits.settleTimer = s.visits.settleTimer ∧ (popWithdrawal s).monitor = s.monitor ∧
      (popWithdrawal s).port.writing = s.port.writing ∧ (popWithdrawal s).port.restartWait = s.port.restartWait ∧
      (popWithdrawal s).port.areas = s.port.areas ∧ (popWithdrawal s).free = s.free ∧
      (popWithdrawal s).pending = s.pending := by
  unfold popWithdrawal
  dsimp only
  (repeat' split) <;> simp

@[simp] theorem assignWithdrawal_keeps (s : State) :
      (assignWithdrawal s).held = s.held ∧ (assignWithdrawal s).pins = s.pins ∧ (assignWithdrawal s).id = s.id ∧
      (assignWithdrawal s).cfg = s.cfg ∧ (assignWithdrawal s).clampCount = s.clampCount ∧
      (assignWithdrawal s).clock = s.clock ∧ (assignWithdrawal s).intake = s.intake ∧
      (assignWithdrawal s).accounts = s.accounts ∧
      (assignWithdrawal s).stack.dischargeDeferred = s.stack.dischargeDeferred ∧
      (assignWithdrawal s).stack.withdrawalDeferred = s.stack.withdrawalDeferred ∧
      (assignWithdrawal s).stack.settle = s.stack.settle ∧ (assignWithdrawal s).cond = s.cond ∧
      (assignWithdrawal s).line = s.line ∧ (assignWithdrawal s).peers = s.peers ∧
      (assignWithdrawal s).claims = s.claims ∧ (assignWithdrawal s).bypass = s.bypass ∧
      (assignWithdrawal s).visits.history = s.visits.history ∧
      (assignWithdrawal s).visits.counter = s.visits.counter ∧
      (assignWithdrawal s).visits.overdueTimer = s.visits.overdueTimer ∧
      (assignWithdrawal s).visits.stable = s.visits.stable ∧
      (assignWithdrawal s).visits.settleTimer = s.visits.settleTimer ∧
      (assignWithdrawal s).visits.requestHeld = s.visits.requestHeld ∧ (assignWithdrawal s).queue = s.queue ∧
      (assignWithdrawal s).monitor = s.monitor ∧ (assignWithdrawal s).port = s.port ∧
      (assignWithdrawal s).free = s.free ∧ (assignWithdrawal s).pending = s.pending := by
  unfold assignWithdrawal
  (repeat' split) <;> simp

@[simp] theorem giveOwner_keeps (s : State) :
      (giveOwner s).held = s.held ∧ (giveOwner s).pins = s.pins ∧ (giveOwner s).id = s.id ∧
      (giveOwner s).cfg = s.cfg ∧ (giveOwner s).clampCount = s.clampCount ∧ (giveOwner s).clock = s.clock ∧
      (giveOwner s).intake = s.intake ∧ (giveOwner s).accounts = s.accounts ∧
      (giveOwner s).stack.dischargeDeferred = s.stack.dischargeDeferred ∧
      (giveOwner s).stack.withdrawalDeferred = s.stack.withdrawalDeferred ∧
      (giveOwner s).stack.settle = s.stack.settle ∧ (giveOwner s).cond = s.cond ∧ (giveOwner s).line = s.line ∧
      (giveOwner s).peers = s.peers ∧ (giveOwner s).claims = s.claims ∧ (giveOwner s).bypass = s.bypass ∧
      (giveOwner s).visits.history = s.visits.history ∧ (giveOwner s).visits.counter = s.visits.counter ∧
      (giveOwner s).visits.overdueTimer = s.visits.overdueTimer ∧ (giveOwner s).visits.stable = s.visits.stable ∧
      (giveOwner s).visits.settleTimer = s.visits.settleTimer ∧
      (giveOwner s).visits.requestHeld = s.visits.requestHeld ∧ (giveOwner s).queue = s.queue ∧
      (giveOwner s).monitor = s.monitor ∧ (giveOwner s).port = s.port ∧ (giveOwner s).free = s.free ∧
      (giveOwner s).pending = s.pending := by
  unfold giveOwner
  (repeat' split) <;> simp

end Sys2Proof.Machine
end

