-- ==== Sys2Proof/Laws/FramesOps.lean ====
section
/-! SUPPORT. What each operation of the breaker, the commit and the end of an event leaves alone: one lemma per operation, every field
of the state that it does not write. -/

namespace Sys2Proof.Machine

@[simp] theorem issuePulse_keeps (k : PulseKind) (s : State) :
      (issuePulse k s).held = s.held ∧ (issuePulse k s).pins = s.pins ∧ (issuePulse k s).id = s.id ∧
      (issuePulse k s).cfg = s.cfg ∧ (issuePulse k s).clampCount = s.clampCount ∧ (issuePulse k s).clock = s.clock ∧
      (issuePulse k s).intake = s.intake ∧ (issuePulse k s).accounts = s.accounts ∧
      (issuePulse k s).stack = s.stack ∧ (issuePulse k s).cond = s.cond ∧ (issuePulse k s).line = s.line ∧
      (issuePulse k s).peers = s.peers ∧ (issuePulse k s).claims = s.claims ∧
      (issuePulse k s).bypass.mains = s.bypass.mains ∧ (issuePulse k s).bypass.lossTimer = s.bypass.lossTimer ∧
      (issuePulse k s).bypass.qualTimer = s.bypass.qualTimer ∧ (issuePulse k s).bypass.report = s.bypass.report ∧
      (issuePulse k s).bypass.reportCount = s.bypass.reportCount ∧
      (issuePulse k s).bypass.position = s.bypass.position ∧ (issuePulse k s).bypass.confirmed = s.bypass.confirmed ∧
      (issuePulse k s).bypass.disagree = s.bypass.disagree ∧
      (issuePulse k s).bypass.waitingPulse = s.bypass.waitingPulse ∧
      (issuePulse k s).bypass.recovery = s.bypass.recovery ∧
      (issuePulse k s).bypass.staticCount = s.bypass.staticCount ∧
      (issuePulse k s).bypass.breakerCount = s.bypass.breakerCount ∧ (issuePulse k s).visits = s.visits ∧
      (issuePulse k s).queue = s.queue ∧ (issuePulse k s).monitor = s.monitor ∧ (issuePulse k s).port = s.port ∧
      (issuePulse k s).free = s.free ∧ (issuePulse k s).pending = s.pending := by
  unfold issuePulse
  simp

@[simp] theorem askPulse_keeps (k : PulseKind) (s : State) :
      (askPulse k s).held = s.held ∧ (askPulse k s).pins = s.pins ∧ (askPulse k s).id = s.id ∧
      (askPulse k s).cfg = s.cfg ∧ (askPulse k s).clampCount = s.clampCount ∧ (askPulse k s).clock = s.clock ∧
      (askPulse k s).intake = s.intake ∧ (askPulse k s).accounts = s.accounts ∧ (askPulse k s).stack = s.stack ∧
      (askPulse k s).cond = s.cond ∧ (askPulse k s).line = s.line ∧ (askPulse k s).peers = s.peers ∧
      (askPulse k s).claims = s.claims ∧ (askPulse k s).bypass.mains = s.bypass.mains ∧
      (askPulse k s).bypass.lossTimer = s.bypass.lossTimer ∧ (askPulse k s).bypass.qualTimer = s.bypass.qualTimer ∧
      (askPulse k s).bypass.report = s.bypass.report ∧ (askPulse k s).bypass.reportCount = s.bypass.reportCount ∧
      (askPulse k s).bypass.position = s.bypass.position ∧ (askPulse k s).bypass.confirmed = s.bypass.confirmed ∧
      (askPulse k s).bypass.disagree = s.bypass.disagree ∧ (askPulse k s).bypass.recovery = s.bypass.recovery ∧
      (askPulse k s).bypass.staticCount = s.bypass.staticCount ∧
      (askPulse k s).bypass.breakerCount = s.bypass.breakerCount ∧ (askPulse k s).visits = s.visits ∧
      (askPulse k s).queue = s.queue ∧ (askPulse k s).monitor = s.monitor ∧ (askPulse k s).port = s.port ∧
      (askPulse k s).free = s.free ∧ (askPulse k s).pending = s.pending := by
  unfold askPulse
  (repeat' split) <;> simp

@[simp] theorem endPulse_keeps (s : State) :
      (endPulse s).held = s.held ∧ (endPulse s).pins = s.pins ∧ (endPulse s).id = s.id ∧ (endPulse s).cfg = s.cfg ∧
      (endPulse s).clampCount = s.clampCount ∧ (endPulse s).clock = s.clock ∧ (endPulse s).intake = s.intake ∧
      (endPulse s).accounts = s.accounts ∧ (endPulse s).stack = s.stack ∧ (endPulse s).cond = s.cond ∧
      (endPulse s).line = s.line ∧ (endPulse s).peers = s.peers ∧ (endPulse s).claims = s.claims ∧
      (endPulse s).bypass.mains = s.bypass.mains ∧ (endPulse s).bypass.lossTimer = s.bypass.lossTimer ∧
      (endPulse s).bypass.qualTimer = s.bypass.qualTimer ∧ (endPulse s).bypass.report = s.bypass.report ∧
      (endPulse s).bypass.reportCount = s.bypass.reportCount ∧ (endPulse s).bypass.position = s.bypass.position ∧
      (endPulse s).bypass.confirmed = s.bypass.confirmed ∧ (endPulse s).bypass.disagree = s.bypass.disagree ∧
      (endPulse s).bypass.recovery = s.bypass.recovery ∧ (endPulse s).bypass.staticCount = s.bypass.staticCount ∧
      (endPulse s).bypass.breakerCount = s.bypass.breakerCount ∧ (endPulse s).visits = s.visits ∧
      (endPulse s).queue = s.queue ∧ (endPulse s).monitor = s.monitor ∧ (endPulse s).port = s.port ∧
      (endPulse s).free = s.free ∧ (endPulse s).pending = s.pending := by
  unfold endPulse
  dsimp only
  (repeat' split) <;> simp

@[simp] theorem countTransfer_keeps (s : State) :
      (countTransfer s).held = s.held ∧ (countTransfer s).pins = s.pins ∧ (countTransfer s).id = s.id ∧
      (countTransfer s).cfg = s.cfg ∧ (countTransfer s).clampCount = s.clampCount ∧
      (countTransfer s).clock = s.clock ∧ (countTransfer s).intake = s.intake ∧
      (countTransfer s).accounts = s.accounts ∧ (countTransfer s).stack = s.stack ∧ (countTransfer s).cond = s.cond ∧
      (countTransfer s).line = s.line ∧ (countTransfer s).peers = s.peers ∧ (countTransfer s).claims = s.claims ∧
      (countTransfer s).bypass.mains = s.bypass.mains ∧ (countTransfer s).bypass.lossTimer = s.bypass.lossTimer ∧
      (countTransfer s).bypass.qualTimer = s.bypass.qualTimer ∧ (countTransfer s).bypass.report = s.bypass.report ∧
      (countTransfer s).bypass.reportCount = s.bypass.reportCount ∧
      (countTransfer s).bypass.position = s.bypass.position ∧
      (countTransfer s).bypass.confirmed = s.bypass.confirmed ∧
      (countTransfer s).bypass.disagree = s.bypass.disagree ∧ (countTransfer s).bypass.pulse = s.bypass.pulse ∧
      (countTransfer s).bypass.waitingPulse = s.bypass.waitingPulse ∧
      (countTransfer s).bypass.recovery = s.bypass.recovery ∧
      (countTransfer s).bypass.breakerCount = s.bypass.breakerCount ∧ (countTransfer s).visits = s.visits ∧
      (countTransfer s).monitor = s.monitor ∧ (countTransfer s).port.writing = s.port.writing ∧
      (countTransfer s).port.restartWait = s.port.restartWait ∧ (countTransfer s).port.areas = s.port.areas ∧
      (countTransfer s).free = s.free ∧ (countTransfer s).pending = s.pending := by
  unfold countTransfer
  dsimp only
  (repeat' split) <;> simp

@[simp] theorem countOperation_keeps (s : State) :
      (countOperation s).held = s.held ∧ (countOperation s).pins = s.pins ∧ (countOperation s).id = s.id ∧
      (countOperation s).cfg = s.cfg ∧ (countOperation s).clampCount = s.clampCount ∧
      (countOperation s).clock = s.clock ∧ (countOperation s).intake = s.intake ∧
      (countOperation s).accounts = s.accounts ∧ (countOperation s).stack = s.stack ∧
      (countOperation s).cond = s.cond ∧ (countOperation s).line = s.line ∧ (countOperation s).peers = s.peers ∧
      (countOperation s).claims = s.claims ∧ (countOperation s).bypass.mains = s.bypass.mains ∧
      (countOperation s).bypass.lossTimer = s.bypass.lossTimer ∧
      (countOperation s).bypass.qualTimer = s.bypass.qualTimer ∧ (countOperation s).bypass.report = s.bypass.report ∧
      (countOperation s).bypass.reportCount = s.bypass.reportCount ∧
      (countOperation s).bypass.position = s.bypass.position ∧
      (countOperation s).bypass.confirmed = s.bypass.confirmed ∧
      (countOperation s).bypass.disagree = s.bypass.disagree ∧ (countOperation s).bypass.pulse = s.bypass.pulse ∧
      (countOperation s).bypass.waitingPulse = s.bypass.waitingPulse ∧
      (countOperation s).bypass.recovery = s.bypass.recovery ∧
      (countOperation s).bypass.staticCount = s.bypass.staticCount ∧ (countOperation s).visits = s.visits ∧
      (countOperation s).monitor = s.monitor ∧ (countOperation s).port.writing = s.port.writing ∧
      (countOperation s).port.restartWait = s.port.restartWait ∧ (countOperation s).port.areas = s.port.areas ∧
      (countOperation s).free = s.free ∧ (countOperation s).pending = s.pending := by
  unfold countOperation
  dsimp only
  (repeat' split) <;> simp

@[simp] theorem raiseServiceItems_keeps (s : State) :
      (raiseServiceItems s).held = s.held ∧ (raiseServiceItems s).pins = s.pins ∧ (raiseServiceItems s).id = s.id ∧
      (raiseServiceItems s).cfg = s.cfg ∧ (raiseServiceItems s).clampCount = s.clampCount ∧
      (raiseServiceItems s).clock = s.clock ∧ (raiseServiceItems s).intake = s.intake ∧
      (raiseServiceItems s).accounts = s.accounts ∧ (raiseServiceItems s).stack = s.stack ∧
      (raiseServiceItems s).cond = s.cond ∧ (raiseServiceItems s).line = s.line ∧
      (raiseServiceItems s).peers = s.peers ∧ (raiseServiceItems s).claims = s.claims ∧
      (raiseServiceItems s).bypass = s.bypass ∧ (raiseServiceItems s).visits = s.visits ∧
      (raiseServiceItems s).monitor = s.monitor ∧ (raiseServiceItems s).port.writing = s.port.writing ∧
      (raiseServiceItems s).port.restartWait = s.port.restartWait ∧ (raiseServiceItems s).port.areas = s.port.areas ∧
      (raiseServiceItems s).free = s.free ∧ (raiseServiceItems s).pending = s.pending := by
  unfold raiseServiceItems
  dsimp only
  (repeat' split) <;> simp

@[simp] theorem transferFault_keeps (s : State) :
      (transferFault s).held = s.held ∧ (transferFault s).pins = s.pins ∧ (transferFault s).id = s.id ∧
      (transferFault s).cfg = s.cfg ∧ (transferFault s).clampCount = s.clampCount ∧
      (transferFault s).clock = s.clock ∧ (transferFault s).intake = s.intake ∧
      (transferFault s).accounts = s.accounts ∧ (transferFault s).stack = s.stack ∧ (transferFault s).cond = s.cond ∧
      (transferFault s).line = s.line ∧ (transferFault s).peers = s.peers ∧ (transferFault s).claims = s.claims ∧
      (transferFault s).bypass = s.bypass ∧ (transferFault s).visits = s.visits ∧
      (transferFault s).monitor.hot = s.monitor.hot ∧ (transferFault s).monitor.lineErrors = s.monitor.lineErrors ∧
      (transferFault s).port.writing = s.port.writing ∧ (transferFault s).port.restartWait = s.port.restartWait ∧
      (transferFault s).port.areas = s.port.areas ∧ (transferFault s).free = s.free ∧
      (transferFault s).pending = s.pending := by
  unfold transferFault
  simp

@[simp] theorem uncommanded_keeps (s : State) :
      (uncommanded s).held = s.held ∧ (uncommanded s).pins = s.pins ∧ (uncommanded s).id = s.id ∧
      (uncommanded s).cfg = s.cfg ∧ (uncommanded s).clampCount = s.clampCount ∧ (uncommanded s).clock = s.clock ∧
      (uncommanded s).intake = s.intake ∧ (uncommanded s).accounts = s.accounts ∧ (uncommanded s).stack = s.stack ∧
      (uncommanded s).cond = s.cond ∧ (uncommanded s).line = s.line ∧ (uncommanded s).peers = s.peers ∧
      (uncommanded s).claims = s.claims ∧ (uncommanded s).bypass = s.bypass ∧ (uncommanded s).visits = s.visits ∧
      (uncommanded s).monitor.hot = s.monitor.hot ∧ (uncommanded s).monitor.lineErrors = s.monitor.lineErrors ∧
      (uncommanded s).port.writing = s.port.writing ∧ (uncommanded s).port.restartWait = s.port.restartWait ∧
      (uncommanded s).port.areas = s.port.areas ∧ (uncommanded s).free = s.free ∧
      (uncommanded s).pending = s.pending := by
  unfold uncommanded
  simp

@[simp] theorem startReturn_keeps (s : State) :
      (startReturn s).held = s.held ∧ (startReturn s).pins = s.pins ∧ (startReturn s).id = s.id ∧
      (startReturn s).cfg = s.cfg ∧ (startReturn s).clampCount = s.clampCount ∧ (startReturn s).clock = s.clock ∧
      (startReturn s).intake = s.intake ∧ (startReturn s).accounts = s.accounts ∧
      (startReturn s).stack.dischargeDeferred = s.stack.dischargeDeferred ∧
      (startReturn s).stack.withdrawalDeferred = s.stack.withdrawalDeferred ∧
      (startReturn s).stack.settle = s.stack.settle ∧ (startReturn s).cond = s.cond ∧ (startReturn s).line = s.line ∧
      (startReturn s).peers = s.peers ∧ (startReturn s).claims = s.claims ∧
      (startReturn s).bypass.mains = s.bypass.mains ∧ (startReturn s).bypass.lossTimer = s.bypass.lossTimer ∧
      (startReturn s).bypass.qualTimer = s.bypass.qualTimer ∧ (startReturn s).bypass.report = s.bypass.report ∧
      (startReturn s).bypass.reportCount = s.bypass.reportCount ∧
      (startReturn s).bypass.position = s.bypass.position ∧ (startReturn s).bypass.confirmed = s.bypass.confirmed ∧
      (startReturn s).bypass.disagree = s.bypass.disagree ∧ (startReturn s).bypass.recovery = s.bypass.recovery ∧
      (startReturn s).bypass.staticCount = s.bypass.staticCount ∧
      (startReturn s).bypass.breakerCount = s.bypass.breakerCount ∧ (startReturn s).visits = s.visits ∧
      (startReturn s).queue = s.queue ∧ (startReturn s).monitor = s.monitor ∧ (startReturn s).port = s.port ∧
      (startReturn s).free = s.free ∧ (startReturn s).pending = s.pending := by
  unfold startReturn
  simp

@[simp] theorem askReturn_keeps (s : State) :
      (askReturn s).held = s.held ∧ (askReturn s).pins = s.pins ∧ (askReturn s).id = s.id ∧
      (askReturn s).cfg = s.cfg ∧ (askReturn s).clampCount = s.clampCount ∧ (askReturn s).clock = s.clock ∧
      (askReturn s).intake = s.intake ∧ (askReturn s).accounts = s.accounts ∧
      (askReturn s).stack.dischargeDeferred = s.stack.dischargeDeferred ∧
      (askReturn s).stack.withdrawalDeferred = s.stack.withdrawalDeferred ∧
      (askReturn s).stack.settle = s.stack.settle ∧ (askReturn s).cond = s.cond ∧ (askReturn s).line = s.line ∧
      (askReturn s).peers = s.peers ∧ (askReturn s).claims = s.claims ∧ (askReturn s).bypass.mains = s.bypass.mains ∧
      (askReturn s).bypass.lossTimer = s.bypass.lossTimer ∧ (askReturn s).bypass.qualTimer = s.bypass.qualTimer ∧
      (askReturn s).bypass.report = s.bypass.report ∧ (askReturn s).bypass.reportCount = s.bypass.reportCount ∧
      (askReturn s).bypass.position = s.bypass.position ∧ (askReturn s).bypass.confirmed = s.bypass.confirmed ∧
      (askReturn s).bypass.disagree = s.bypass.disagree ∧ (askReturn s).bypass.recovery = s.bypass.recovery ∧
      (askReturn s).bypass.staticCount = s.bypass.staticCount ∧
      (askReturn s).bypass.breakerCount = s.bypass.breakerCount ∧ (askReturn s).visits = s.visits ∧
      (askReturn s).queue = s.queue ∧ (askReturn s).monitor = s.monitor ∧ (askReturn s).port = s.port ∧
      (askReturn s).free = s.free ∧ (askReturn s).pending = s.pending := by
  unfold askReturn
  (repeat' split) <;> simp

@[simp] theorem confirmTransfer_keeps (w : WithdrawalFrame) (s : State) :
      (confirmTransfer w s).held = s.held ∧ (confirmTransfer w s).pins = s.pins ∧ (confirmTransfer w s).id = s.id ∧
      (confirmTransfer w s).cfg = s.cfg ∧ (confirmTransfer w s).clampCount = s.clampCount ∧
      (confirmTransfer w s).clock = s.clock ∧ (confirmTransfer w s).intake = s.intake ∧
      (confirmTransfer w s).accounts = s.accounts ∧
      (confirmTransfer w s).stack.dischargeDeferred = s.stack.dischargeDeferred ∧
      (confirmTransfer w s).stack.withdrawalDeferred = s.stack.withdrawalDeferred ∧
      (confirmTransfer w s).stack.settle = s.stack.settle ∧ (confirmTransfer w s).cond = s.cond ∧
      (confirmTransfer w s).line = s.line ∧ (confirmTransfer w s).peers = s.peers ∧
      (confirmTransfer w s).claims = s.claims ∧ (confirmTransfer w s).bypass.mains = s.bypass.mains ∧
      (confirmTransfer w s).bypass.lossTimer = s.bypass.lossTimer ∧
      (confirmTransfer w s).bypass.qualTimer = s.bypass.qualTimer ∧
      (confirmTransfer w s).bypass.report = s.bypass.report ∧
      (confirmTransfer w s).bypass.reportCount = s.bypass.reportCount ∧
      (confirmTransfer w s).bypass.position = s.bypass.position ∧
      (confirmTransfer w s).bypass.confirmed = s.bypass.confirmed ∧
      (confirmTransfer w s).bypass.disagree = s.bypass.disagree ∧
      (confirmTransfer w s).bypass.recovery = s.bypass.recovery ∧
      (confirmTransfer w s).bypass.staticCount = s.bypass.staticCount ∧
      (confirmTransfer w s).bypass.breakerCount = s.bypass.breakerCount ∧ (confirmTransfer w s).visits = s.visits ∧
      (confirmTransfer w s).queue = s.queue ∧ (confirmTransfer w s).monitor = s.monitor ∧
      (confirmTransfer w s).port = s.port ∧ (confirmTransfer w s).free = s.free ∧
      (confirmTransfer w s).pending = s.pending := by
  unfold confirmTransfer
  (repeat' split) <;> simp

@[simp] theorem uncommandedClosure_keeps (s : State) :
      (uncommandedClosure s).held = s.held ∧ (uncommandedClosure s).pins = s.pins ∧
      (uncommandedClosure s).id = s.id ∧ (uncommandedClosure s).cfg = s.cfg ∧
      (uncommandedClosure s).clampCount = s.clampCount ∧ (uncommandedClosure s).clock = s.clock ∧
      (uncommandedClosure s).intake = s.intake ∧ (uncommandedClosure s).accounts.second = s.accounts.second ∧
      (uncommandedClosure s).stack.dischargeDeferred = s.stack.dischargeDeferred ∧
      (uncommandedClosure s).cond.latch = s.cond.latch ∧
      (uncommandedClosure s).cond.equalizeDue = s.cond.equalizeDue ∧
      (uncommandedClosure s).cond.waiting = s.cond.waiting ∧
      (uncommandedClosure s).cond.remainingField = s.cond.remainingField ∧
      (uncommandedClosure s).line.state = s.line.state ∧
      (uncommandedClosure s).line.synchronised = s.line.synchronised ∧
      (uncommandedClosure s).line.received = s.line.received ∧
      (uncommandedClosure s).line.crcFailures = s.line.crcFailures ∧
      (uncommandedClosure s).line.lengthFailures = s.line.lengthFailures ∧
      (uncommandedClosure s).line.contentDiscards = s.line.contentDiscards ∧
      (uncommandedClosure s).line.addressDiscards = s.line.addressDiscards ∧
      (uncommandedClosure s).line.sent = s.line.sent ∧ (uncommandedClosure s).line.losses = s.line.losses ∧
      (uncommandedClosure s).line.abandoned = s.line.abandoned ∧
      (uncommandedClosure s).line.statusTimer = s.line.statusTimer ∧
      (uncommandedClosure s).line.joiningTimer = s.line.joiningTimer ∧
      (uncommandedClosure s).line.answers = s.line.answers ∧ (uncommandedClosure s).peers = s.peers ∧
      (uncommandedClosure s).claims.consent = s.claims.consent ∧ (uncommandedClosure s).claims.last = s.claims.last ∧
      (uncommandedClosure s).claims.lastKind = s.claims.lastKind ∧
      (uncommandedClosure s).claims.latch = s.claims.latch ∧ (uncommandedClosure s).bypass = s.bypass ∧
      (uncommandedClosure s).visits = s.visits ∧ (uncommandedClosure s).monitor.hot = s.monitor.hot ∧
      (uncommandedClosure s).monitor.lineErrors = s.monitor.lineErrors ∧
      (uncommandedClosure s).port.writing = s.port.writing ∧
      (uncommandedClosure s).port.restartWait = s.port.restartWait ∧
      (uncommandedClosure s).port.areas = s.port.areas ∧ (uncommandedClosure s).free = s.free ∧
      (uncommandedClosure s).pending = s.pending := by
  unfold uncommandedClosure
  simp

@[simp] theorem timeOutTransfer_keeps (s : State) :
      (timeOutTransfer s).held = s.held ∧ (timeOutTransfer s).pins = s.pins ∧ (timeOutTransfer s).id = s.id ∧
      (timeOutTransfer s).cfg = s.cfg ∧ (timeOutTransfer s).clampCount = s.clampCount ∧
      (timeOutTransfer s).clock = s.clock ∧ (timeOutTransfer s).intake = s.intake ∧
      (timeOutTransfer s).accounts.second = s.accounts.second ∧
      (timeOutTransfer s).stack.withdrawalDeferred = s.stack.withdrawalDeferred ∧
      (timeOutTransfer s).cond.latch = s.cond.latch ∧ (timeOutTransfer s).cond.equalizeDue = s.cond.equalizeDue ∧
      (timeOutTransfer s).cond.remainingField = s.cond.remainingField ∧
      (timeOutTransfer s).line.state = s.line.state ∧ (timeOutTransfer s).line.synchronised = s.line.synchronised ∧
      (timeOutTransfer s).line.received = s.line.received ∧
      (timeOutTransfer s).line.crcFailures = s.line.crcFailures ∧
      (timeOutTransfer s).line.lengthFailures = s.line.lengthFailures ∧
      (timeOutTransfer s).line.contentDiscards = s.line.contentDiscards ∧
      (timeOutTransfer s).line.addressDiscards = s.line.addressDiscards ∧
      (timeOutTransfer s).line.sent = s.line.sent ∧ (timeOutTransfer s).line.losses = s.line.losses ∧
      (timeOutTransfer s).line.abandoned = s.line.abandoned ∧
      (timeOutTransfer s).line.statusTimer = s.line.statusTimer ∧
      (timeOutTransfer s).line.joiningTimer = s.line.joiningTimer ∧
      (timeOutTransfer s).line.answers = s.line.answers ∧ (timeOutTransfer s).peers = s.peers ∧
      (timeOutTransfer s).claims.consent = s.claims.consent ∧ (timeOutTransfer s).claims.latch = s.claims.latch ∧
      (timeOutTransfer s).bypass.mains = s.bypass.mains ∧ (timeOutTransfer s).bypass.lossTimer = s.bypass.lossTimer ∧
      (timeOutTransfer s).bypass.qualTimer = s.bypass.qualTimer ∧
      (timeOutTransfer s).bypass.report = s.bypass.report ∧
      (timeOutTransfer s).bypass.reportCount = s.bypass.reportCount ∧
      (timeOutTransfer s).bypass.position = s.bypass.position ∧
      (timeOutTransfer s).bypass.confirmed = s.bypass.confirmed ∧
      (timeOutTransfer s).bypass.disagree = s.bypass.disagree ∧
      (timeOutTransfer s).bypass.staticCount = s.bypass.staticCount ∧
      (timeOutTransfer s).bypass.breakerCount = s.bypass.breakerCount ∧
      (timeOutTransfer s).visits.stable = s.visits.stable ∧
      (timeOutTransfer s).visits.settleTimer = s.visits.settleTimer ∧
      (timeOutTransfer s).monitor.hot = s.monitor.hot ∧
      (timeOutTransfer s).monitor.lineErrors = s.monitor.lineErrors ∧
      (timeOutTransfer s).port.writing = s.port.writing ∧ (timeOutTransfer s).port.restartWait = s.port.restartWait ∧
      (timeOutTransfer s).port.areas = s.port.areas ∧ (timeOutTransfer s).free = s.free ∧
      (timeOutTransfer s).pending = s.pending := by
  unfold timeOutTransfer
  dsimp only
  simp

@[simp] theorem timeOutReturn_keeps (s : State) :
      (timeOutReturn s).held = s.held ∧ (timeOutReturn s).pins = s.pins ∧ (timeOutReturn s).id = s.id ∧
      (timeOutReturn s).cfg = s.cfg ∧ (timeOutReturn s).clampCount = s.clampCount ∧
      (timeOutReturn s).clock = s.clock ∧ (timeOutReturn s).intake = s.intake ∧
      (timeOutReturn s).accounts = s.accounts ∧
      (timeOutReturn s).stack.dischargeDeferred = s.stack.dischargeDeferred ∧
      (timeOutReturn s).stack.withdrawalDeferred = s.stack.withdrawalDeferred ∧
      (timeOutReturn s).stack.settle = s.stack.settle ∧ (timeOutReturn s).cond = s.cond ∧
      (timeOutReturn s).line = s.line ∧ (timeOutReturn s).peers = s.peers ∧ (timeOutReturn s).claims = s.claims ∧
      (timeOutReturn s).bypass = s.bypass ∧ (timeOutReturn s).visits = s.visits ∧
      (timeOutReturn s).monitor.hot = s.monitor.hot ∧ (timeOutReturn s).monitor.lineErrors = s.monitor.lineErrors ∧
      (timeOutReturn s).port.writing = s.port.writing ∧ (timeOutReturn s).port.restartWait = s.port.restartWait ∧
      (timeOutReturn s).port.areas = s.port.areas ∧ (timeOutReturn s).free = s.free ∧
      (timeOutReturn s).pending = s.pending := by
  unfold timeOutReturn
  simp

@[simp] theorem takeContacts_keeps (cl op : Bool) (s : State) :
      (takeContacts cl op s).held = s.held ∧ (takeContacts cl op s).pins = s.pins ∧
      (takeContacts cl op s).id = s.id ∧ (takeContacts cl op s).cfg = s.cfg ∧
      (takeContacts cl op s).clampCount = s.clampCount ∧ (takeContacts cl op s).clock = s.clock ∧
      (takeContacts cl op s).intake = s.intake ∧ (takeContacts cl op s).accounts = s.accounts ∧
      (takeContacts cl op s).stack = s.stack ∧ (takeContacts cl op s).cond = s.cond ∧
      (takeContacts cl op s).line = s.line ∧ (takeContacts cl op s).peers = s.peers ∧
      (takeContacts cl op s).claims = s.claims ∧ (takeContacts cl op s).bypass.mains = s.bypass.mains ∧
      (takeContacts cl op s).bypass.lossTimer = s.bypass.lossTimer ∧
      (takeContacts cl op s).bypass.qualTimer = s.bypass.qualTimer ∧
      (takeContacts cl op s).bypass.report = s.bypass.report ∧
      (takeContacts cl op s).bypass.reportCount = s.bypass.reportCount ∧
      (takeContacts cl op s).bypass.confirmed = s.bypass.confirmed ∧
      (takeContacts cl op s).bypass.pulse = s.bypass.pulse ∧
      (takeContacts cl op s).bypass.waitingPulse = s.bypass.waitingPulse ∧
      (takeContacts cl op s).bypass.recovery = s.bypass.recovery ∧
      (takeContacts cl op s).bypass.staticCount = s.bypass.staticCount ∧
      (takeContacts cl op s).bypass.breakerCount = s.bypass.breakerCount ∧ (takeContacts cl op s).visits = s.visits ∧
      (takeContacts cl op s).queue = s.queue ∧ (takeContacts cl op s).monitor = s.monitor ∧
      (takeContacts cl op s).port = s.port ∧ (takeContacts cl op s).free = s.free ∧
      (takeContacts cl op s).pending = s.pending := by
  unfold takeContacts
  simp

@[simp] theorem becomeClosed_keeps (last : Confirmed) (s : State) :
      (becomeClosed last s).held = s.held ∧ (becomeClosed last s).pins = s.pins ∧ (becomeClosed last s).id = s.id ∧
      (becomeClosed last s).cfg = s.cfg ∧ (becomeClosed last s).clampCount = s.clampCount ∧ (becomeClosed last s).clock = s.clock ∧
      (becomeClosed last s).intake = s.intake ∧ (becomeClosed last s).accounts.second = s.accounts.second ∧
      (becomeClosed last s).stack.dischargeDeferred = s.stack.dischargeDeferred ∧
      (becomeClosed last s).cond.latch = s.cond.latch ∧ (becomeClosed last s).cond.equalizeDue = s.cond.equalizeDue ∧
      (becomeClosed last s).cond.waiting = s.cond.waiting ∧ (becomeClosed last s).cond.remainingField = s.cond.remainingField ∧
      (becomeClosed last s).line.state = s.line.state ∧ (becomeClosed last s).line.synchronised = s.line.synchronised ∧
      (becomeClosed last s).line.received = s.line.received ∧ (becomeClosed last s).line.crcFailures = s.line.crcFailures ∧
      (becomeClosed last s).line.lengthFailures = s.line.lengthFailures ∧
      (becomeClosed last s).line.contentDiscards = s.line.contentDiscards ∧
      (becomeClosed last s).line.addressDiscards = s.line.addressDiscards ∧ (becomeClosed last s).line.sent = s.line.sent ∧
      (becomeClosed last s).line.losses = s.line.losses ∧ (becomeClosed last s).line.abandoned = s.line.abandoned ∧
      (becomeClosed last s).line.statusTimer = s.line.statusTimer ∧
      (becomeClosed last s).line.joiningTimer = s.line.joiningTimer ∧ (becomeClosed last s).line.answers = s.line.answers ∧
      (becomeClosed last s).peers = s.peers ∧ (becomeClosed last s).claims.consent = s.claims.consent ∧
      (becomeClosed last s).claims.last = s.claims.last ∧ (becomeClosed last s).claims.lastKind = s.claims.lastKind ∧
      (becomeClosed last s).claims.latch = s.claims.latch ∧ (becomeClosed last s).bypass.mains = s.bypass.mains ∧
      (becomeClosed last s).bypass.lossTimer = s.bypass.lossTimer ∧
      (becomeClosed last s).bypass.qualTimer = s.bypass.qualTimer ∧ (becomeClosed last s).bypass.report = s.bypass.report ∧
      (becomeClosed last s).bypass.reportCount = s.bypass.reportCount ∧
      (becomeClosed last s).bypass.position = s.bypass.position ∧ (becomeClosed last s).bypass.confirmed = s.bypass.confirmed ∧
      (becomeClosed last s).bypass.disagree = s.bypass.disagree ∧ (becomeClosed last s).bypass.recovery = s.bypass.recovery ∧
      (becomeClosed last s).bypass.staticCount = s.bypass.staticCount ∧
      (becomeClosed last s).bypass.breakerCount = s.bypass.breakerCount ∧ (becomeClosed last s).visits = s.visits ∧
      (becomeClosed last s).monitor.hot = s.monitor.hot ∧ (becomeClosed last s).monitor.lineErrors = s.monitor.lineErrors ∧
      (becomeClosed last s).port.writing = s.port.writing ∧ (becomeClosed last s).port.restartWait = s.port.restartWait ∧
      (becomeClosed last s).port.areas = s.port.areas ∧ (becomeClosed last s).free = s.free ∧
      (becomeClosed last s).pending = s.pending := by
  unfold becomeClosed
  (repeat' split) <;> simp

@[simp] theorem becomeOpen_keeps (s : State) :
      (becomeOpen s).held = s.held ∧ (becomeOpen s).pins = s.pins ∧ (becomeOpen s).id = s.id ∧
      (becomeOpen s).cfg = s.cfg ∧ (becomeOpen s).clampCount = s.clampCount ∧ (becomeOpen s).clock = s.clock ∧
      (becomeOpen s).intake = s.intake ∧ (becomeOpen s).accounts.second = s.accounts.second ∧
      (becomeOpen s).stack.withdrawalDeferred = s.stack.withdrawalDeferred ∧
      (becomeOpen s).cond.latch = s.cond.latch ∧ (becomeOpen s).cond.equalizeDue = s.cond.equalizeDue ∧
      (becomeOpen s).cond.remainingField = s.cond.remainingField ∧ (becomeOpen s).line.state = s.line.state ∧
      (becomeOpen s).line.synchronised = s.line.synchronised ∧ (becomeOpen s).line.received = s.line.received ∧
      (becomeOpen s).line.crcFailures = s.line.crcFailures ∧
      (becomeOpen s).line.lengthFailures = s.line.lengthFailures ∧
      (becomeOpen s).line.contentDiscards = s.line.contentDiscards ∧
      (becomeOpen s).line.addressDiscards = s.line.addressDiscards ∧ (becomeOpen s).line.sent = s.line.sent ∧
      (becomeOpen s).line.losses = s.line.losses ∧ (becomeOpen s).line.abandoned = s.line.abandoned ∧
      (becomeOpen s).line.statusTimer = s.line.statusTimer ∧ (becomeOpen s).line.joiningTimer = s.line.joiningTimer ∧
      (becomeOpen s).line.answers = s.line.answers ∧ (becomeOpen s).peers = s.peers ∧
      (becomeOpen s).claims.consent = s.claims.consent ∧ (becomeOpen s).claims.latch = s.claims.latch ∧
      (becomeOpen s).bypass.mains = s.bypass.mains ∧ (becomeOpen s).bypass.lossTimer = s.bypass.lossTimer ∧
      (becomeOpen s).bypass.qualTimer = s.bypass.qualTimer ∧ (becomeOpen s).bypass.report = s.bypass.report ∧
      (becomeOpen s).bypass.reportCount = s.bypass.reportCount ∧ (becomeOpen s).bypass.position = s.bypass.position ∧
      (becomeOpen s).bypass.confirmed = s.bypass.confirmed ∧ (becomeOpen s).bypass.disagree = s.bypass.disagree ∧
      (becomeOpen s).bypass.pulse = s.bypass.pulse ∧ (becomeOpen s).bypass.waitingPulse = s.bypass.waitingPulse ∧
      (becomeOpen s).bypass.staticCount = s.bypass.staticCount ∧
      (becomeOpen s).bypass.breakerCount = s.bypass.breakerCount ∧ (becomeOpen s).visits.stable = s.visits.stable ∧
      (becomeOpen s).visits.settleTimer = s.visits.settleTimer ∧ (becomeOpen s).monitor.hot = s.monitor.hot ∧
      (becomeOpen s).monitor.lineErrors = s.monitor.lineErrors ∧ (becomeOpen s).port.writing = s.port.writing ∧
      (becomeOpen s).port.restartWait = s.port.restartWait ∧ (becomeOpen s).port.areas = s.port.areas ∧
      (becomeOpen s).free = s.free ∧ (becomeOpen s).pending = s.pending := by
  unfold becomeOpen
  dsimp only
  (repeat' split) <;> simp

@[simp] theorem confirmClosed_keeps (s : State) :
      (confirmClosed s).held = s.held ∧ (confirmClosed s).pins = s.pins ∧ (confirmClosed s).id = s.id ∧
      (confirmClosed s).cfg = s.cfg ∧ (confirmClosed s).clampCount = s.clampCount ∧
      (confirmClosed s).clock = s.clock ∧ (confirmClosed s).intake = s.intake ∧
      (confirmClosed s).accounts = s.accounts ∧ (confirmClosed s).stack = s.stack ∧ (confirmClosed s).cond = s.cond ∧
      (confirmClosed s).line = s.line ∧ (confirmClosed s).peers = s.peers ∧ (confirmClosed s).claims = s.claims ∧
      (confirmClosed s).bypass.mains = s.bypass.mains ∧ (confirmClosed s).bypass.lossTimer = s.bypass.lossTimer ∧
      (confirmClosed s).bypass.qualTimer = s.bypass.qualTimer ∧ (confirmClosed s).bypass.report = s.bypass.report ∧
      (confirmClosed s).bypass.reportCount = s.bypass.reportCount ∧
      (confirmClosed s).bypass.position = s.bypass.position ∧ (confirmClosed s).bypass.disagree = s.bypass.disagree ∧
      (confirmClosed s).bypass.pulse = s.bypass.pulse ∧
      (confirmClosed s).bypass.waitingPulse = s.bypass.waitingPulse ∧
      (confirmClosed s).bypass.recovery = s.bypass.recovery ∧
      (confirmClosed s).bypass.staticCount = s.bypass.staticCount ∧ (confirmClosed s).visits = s.visits ∧
      (confirmClosed s).monitor = s.monitor ∧ (confirmClosed s).port.writing = s.port.writing ∧
      (confirmClosed s).port.restartWait = s.port.restartWait ∧ (confirmClosed s).port.areas = s.port.areas ∧
      (confirmClosed s).free = s.free ∧ (confirmClosed s).pending = s.pending := by
  unfold confirmClosed
  dsimp only
  (repeat' split) <;> simp

@[simp] theorem confirmOpen_keeps (s : State) :
      (confirmOpen s).held = s.held ∧ (confirmOpen s).pins = s.pins ∧ (confirmOpen s).id = s.id ∧
      (confirmOpen s).cfg = s.cfg ∧ (confirmOpen s).clampCount = s.clampCount ∧ (confirmOpen s).clock = s.clock ∧
      (confirmOpen s).intake = s.intake ∧ (confirmOpen s).accounts = s.accounts ∧ (confirmOpen s).stack = s.stack ∧
      (confirmOpen s).cond = s.cond ∧ (confirmOpen s).line = s.line ∧ (confirmOpen s).peers = s.peers ∧
      (confirmOpen s).claims = s.claims ∧ (confirmOpen s).bypass.mains = s.bypass.mains ∧
      (confirmOpen s).bypass.lossTimer = s.bypass.lossTimer ∧ (confirmOpen s).bypass.qualTimer = s.bypass.qualTimer ∧
      (confirmOpen s).bypass.report = s.bypass.report ∧ (confirmOpen s).bypass.reportCount = s.bypass.reportCount ∧
      (confirmOpen s).bypass.position = s.bypass.position ∧ (confirmOpen s).bypass.disagree = s.bypass.disagree ∧
      (confirmOpen s).bypass.pulse = s.bypass.pulse ∧ (confirmOpen s).bypass.waitingPulse = s.bypass.waitingPulse ∧
      (confirmOpen s).bypass.recovery = s.bypass.recovery ∧
      (confirmOpen s).bypass.staticCount = s.bypass.staticCount ∧ (confirmOpen s).visits = s.visits ∧
      (confirmOpen s).monitor = s.monitor ∧ (confirmOpen s).port.writing = s.port.writing ∧
      (confirmOpen s).port.restartWait = s.port.restartWait ∧ (confirmOpen s).port.areas = s.port.areas ∧
      (confirmOpen s).free = s.free ∧ (confirmOpen s).pending = s.pending := by
  unfold confirmOpen
  dsimp only
  (repeat' split) <;> simp

@[simp] theorem moveBreaker_keeps (cl op : Bool) (s : State) :
      (moveBreaker cl op s).held = s.held ∧ (moveBreaker cl op s).pins = s.pins ∧ (moveBreaker cl op s).id = s.id ∧
      (moveBreaker cl op s).cfg = s.cfg ∧ (moveBreaker cl op s).clampCount = s.clampCount ∧
      (moveBreaker cl op s).clock = s.clock ∧ (moveBreaker cl op s).intake = s.intake ∧
      (moveBreaker cl op s).accounts.second = s.accounts.second ∧ (moveBreaker cl op s).cond.latch = s.cond.latch ∧
      (moveBreaker cl op s).cond.equalizeDue = s.cond.equalizeDue ∧
      (moveBreaker cl op s).cond.remainingField = s.cond.remainingField ∧
      (moveBreaker cl op s).line.state = s.line.state ∧
      (moveBreaker cl op s).line.synchronised = s.line.synchronised ∧
      (moveBreaker cl op s).line.received = s.line.received ∧
      (moveBreaker cl op s).line.crcFailures = s.line.crcFailures ∧
      (moveBreaker cl op s).line.lengthFailures = s.line.lengthFailures ∧
      (moveBreaker cl op s).line.contentDiscards = s.line.contentDiscards ∧
      (moveBreaker cl op s).line.addressDiscards = s.line.addressDiscards ∧
      (moveBreaker cl op s).line.sent = s.line.sent ∧ (moveBreaker cl op s).line.losses = s.line.losses ∧
      (moveBreaker cl op s).line.abandoned = s.line.abandoned ∧
      (moveBreaker cl op s).line.statusTimer = s.line.statusTimer ∧
      (moveBreaker cl op s).line.joiningTimer = s.line.joiningTimer ∧
      (moveBreaker cl op s).line.answers = s.line.answers ∧ (moveBreaker cl op s).peers = s.peers ∧
      (moveBreaker cl op s).claims.consent = s.claims.consent ∧ (moveBreaker cl op s).claims.latch = s.claims.latch ∧
      (moveBreaker cl op s).bypass.mains = s.bypass.mains ∧
      (moveBreaker cl op s).bypass.lossTimer = s.bypass.lossTimer ∧
      (moveBreaker cl op s).bypass.qualTimer = s.bypass.qualTimer ∧
      (moveBreaker cl op s).bypass.report = s.bypass.report ∧
      (moveBreaker cl op s).bypass.reportCount = s.bypass.reportCount ∧
      (moveBreaker cl op s).bypass.staticCount = s.bypass.staticCount ∧
      (moveBreaker cl op s).visits.stable = s.visits.stable ∧
      (moveBreaker cl op s).visits.settleTimer = s.visits.settleTimer ∧
      (moveBreaker cl op s).monitor.hot = s.monitor.hot ∧
      (moveBreaker cl op s).monitor.lineErrors = s.monitor.lineErrors ∧
      (moveBreaker cl op s).port.writing = s.port.writing ∧
      (moveBreaker cl op s).port.restartWait = s.port.restartWait ∧ (moveBreaker cl op s).port.areas = s.port.areas ∧
      (moveBreaker cl op s).free = s.free ∧ (moveBreaker cl op s).pending = s.pending := by
  unfold moveBreaker
  dsimp only
  (repeat' split) <;> simp

@[simp] theorem adopt_keeps (s : State) :
      (adopt s).held = s.held ∧ (adopt s).pins = s.pins ∧ (adopt s).id = s.id ∧ (adopt s).cfg = s.cfg ∧
      (adopt s).clampCount = s.clampCount ∧ (adopt s).clock = s.clock ∧ (adopt s).intake = s.intake ∧
      (adopt s).accounts.second = s.accounts.second ∧ (adopt s).stack.dischargeDeferred = s.stack.dischargeDeferred ∧
      (adopt s).cond.latch = s.cond.latch ∧ (adopt s).cond.equalizeDue = s.cond.equalizeDue ∧
      (adopt s).cond.waiting = s.cond.waiting ∧ (adopt s).cond.remainingField = s.cond.remainingField ∧
      (adopt s).line.state = s.line.state ∧ (adopt s).line.synchronised = s.line.synchronised ∧
      (adopt s).line.received = s.line.received ∧ (adopt s).line.crcFailures = s.line.crcFailures ∧
      (adopt s).line.lengthFailures = s.line.lengthFailures ∧
      (adopt s).line.contentDiscards = s.line.contentDiscards ∧
      (adopt s).line.addressDiscards = s.line.addressDiscards ∧ (adopt s).line.sent = s.line.sent ∧
      (adopt s).line.losses = s.line.losses ∧ (adopt s).line.abandoned = s.line.abandoned ∧
      (adopt s).line.statusTimer = s.line.statusTimer ∧ (adopt s).line.joiningTimer = s.line.joiningTimer ∧
      (adopt s).line.answers = s.line.answers ∧ (adopt s).peers = s.peers ∧
      (adopt s).claims.consent = s.claims.consent ∧ (adopt s).claims.last = s.claims.last ∧
      (adopt s).claims.lastKind = s.claims.lastKind ∧ (adopt s).claims.latch = s.claims.latch ∧
      (adopt s).bypass = s.bypass ∧ (adopt s).visits = s.visits ∧ (adopt s).monitor = s.monitor ∧
      (adopt s).port.writing = s.port.writing ∧ (adopt s).port.restartWait = s.port.restartWait ∧
      (adopt s).port.areas = s.port.areas ∧ (adopt s).free = s.free ∧ (adopt s).pending = s.pending := by
  unfold adopt
  (repeat' split) <;> simp

@[simp] theorem takeMains_keeps (level : Bool) (s : State) :
      (takeMains level s).held = s.held ∧ (takeMains level s).pins = s.pins ∧ (takeMains level s).id = s.id ∧
      (takeMains level s).cfg = s.cfg ∧ (takeMains level s).clampCount = s.clampCount ∧
      (takeMains level s).clock = s.clock ∧ (takeMains level s).intake = s.intake ∧
      (takeMains level s).accounts = s.accounts ∧ (takeMains level s).stack = s.stack ∧
      (takeMains level s).cond = s.cond ∧ (takeMains level s).line = s.line ∧ (takeMains level s).peers = s.peers ∧
      (takeMains level s).claims = s.claims ∧ (takeMains level s).bypass.mains = s.bypass.mains ∧
      (takeMains level s).bypass.report = s.bypass.report ∧
      (takeMains level s).bypass.reportCount = s.bypass.reportCount ∧
      (takeMains level s).bypass.position = s.bypass.position ∧
      (takeMains level s).bypass.confirmed = s.bypass.confirmed ∧
      (takeMains level s).bypass.disagree = s.bypass.disagree ∧ (takeMains level s).bypass.pulse = s.bypass.pulse ∧
      (takeMains level s).bypass.waitingPulse = s.bypass.waitingPulse ∧
      (takeMains level s).bypass.recovery = s.bypass.recovery ∧
      (takeMains level s).bypass.staticCount = s.bypass.staticCount ∧
      (takeMains level s).bypass.breakerCount = s.bypass.breakerCount ∧ (takeMains level s).visits = s.visits ∧
      (takeMains level s).queue = s.queue ∧ (takeMains level s).monitor = s.monitor ∧
      (takeMains level s).port = s.port ∧ (takeMains level s).free = s.free ∧
      (takeMains level s).pending = s.pending := by
  unfold takeMains
  (repeat' split) <;> simp

@[simp] theorem loseMains_keeps (s : State) :
      (loseMains s).held = s.held ∧ (loseMains s).pins = s.pins ∧ (loseMains s).id = s.id ∧
      (loseMains s).cfg = s.cfg ∧ (loseMains s).clampCount = s.clampCount ∧ (loseMains s).clock = s.clock ∧
      (loseMains s).intake = s.intake ∧ (loseMains s).accounts.second = s.accounts.second ∧
      (loseMains s).stack.withdrawalDeferred = s.stack.withdrawalDeferred ∧ (loseMains s).cond.latch = s.cond.latch ∧
      (loseMains s).cond.equalizeDue = s.cond.equalizeDue ∧ (loseMains s).cond.waiting = s.cond.waiting ∧
      (loseMains s).cond.remainingField = s.cond.remainingField ∧ (loseMains s).line.state = s.line.state ∧
      (loseMains s).line.synchronised = s.line.synchronised ∧ (loseMains s).line.received = s.line.received ∧
      (loseMains s).line.crcFailures = s.line.crcFailures ∧
      (loseMains s).line.lengthFailures = s.line.lengthFailures ∧
      (loseMains s).line.contentDiscards = s.line.contentDiscards ∧
      (loseMains s).line.addressDiscards = s.line.addressDiscards ∧ (loseMains s).line.sent = s.line.sent ∧
      (loseMains s).line.losses = s.line.losses ∧ (loseMains s).line.abandoned = s.line.abandoned ∧
      (loseMains s).line.statusTimer = s.line.statusTimer ∧ (loseMains s).line.joiningTimer = s.line.joiningTimer ∧
      (loseMains s).line.answers = s.line.answers ∧ (loseMains s).peers = s.peers ∧
      (loseMains s).claims.consent = s.claims.consent ∧ (loseMains s).claims.last = s.claims.last ∧
      (loseMains s).claims.lastKind = s.claims.lastKind ∧ (loseMains s).claims.latch = s.claims.latch ∧
      (loseMains s).bypass.qualTimer = s.bypass.qualTimer ∧ (loseMains s).bypass.report = s.bypass.report ∧
      (loseMains s).bypass.reportCount = s.bypass.reportCount ∧ (loseMains s).bypass.position = s.bypass.position ∧
      (loseMains s).bypass.confirmed = s.bypass.confirmed ∧ (loseMains s).bypass.disagree = s.bypass.disagree ∧
      (loseMains s).bypass.pulse = s.bypass.pulse ∧ (loseMains s).bypass.waitingPulse = s.bypass.waitingPulse ∧
      (loseMains s).bypass.recovery = s.bypass.recovery ∧ (loseMains s).bypass.staticCount = s.bypass.staticCount ∧
      (loseMains s).bypass.breakerCount = s.bypass.breakerCount ∧ (loseMains s).visits = s.visits ∧
      (loseMains s).monitor = s.monitor ∧ (loseMains s).port.writing = s.port.writing ∧
      (loseMains s).port.restartWait = s.port.restartWait ∧ (loseMains s).port.areas = s.port.areas ∧
      (loseMains s).free = s.free ∧ (loseMains s).pending = s.pending := by
  unfold loseMains
  simp

@[simp] theorem restoreMains_keeps (s : State) :
      (restoreMains s).held = s.held ∧ (restoreMains s).pins = s.pins ∧ (restoreMains s).id = s.id ∧
      (restoreMains s).cfg = s.cfg ∧ (restoreMains s).clampCount = s.clampCount ∧ (restoreMains s).clock = s.clock ∧
      (restoreMains s).intake = s.intake ∧ (restoreMains s).accounts = s.accounts ∧ (restoreMains s).cond = s.cond ∧
      (restoreMains s).line.state = s.line.state ∧ (restoreMains s).line.synchronised = s.line.synchronised ∧
      (restoreMains s).line.received = s.line.received ∧ (restoreMains s).line.crcFailures = s.line.crcFailures ∧
      (restoreMains s).line.lengthFailures = s.line.lengthFailures ∧
      (restoreMains s).line.contentDiscards = s.line.contentDiscards ∧
      (restoreMains s).line.addressDiscards = s.line.addressDiscards ∧ (restoreMains s).line.sent = s.line.sent ∧
      (restoreMains s).line.losses = s.line.losses ∧ (restoreMains s).line.abandoned = s.line.abandoned ∧
      (restoreMains s).line.statusTimer = s.line.statusTimer ∧
      (restoreMains s).line.joiningTimer = s.line.joiningTimer ∧ (restoreMains s).line.answers = s.line.answers ∧
      (restoreMains s).peers = s.peers ∧ (restoreMains s).claims = s.claims ∧
      (restoreMains s).bypass.lossTimer = s.bypass.lossTimer ∧ (restoreMains s).bypass.report = s.bypass.report ∧
      (restoreMains s).bypass.reportCount = s.bypass.reportCount ∧
      (restoreMains s).bypass.position = s.bypass.position ∧ (restoreMains s).bypass.confirmed = s.bypass.confirmed ∧
      (restoreMains s).bypass.disagree = s.bypass.disagree ∧ (restoreMains s).bypass.pulse = s.bypass.pulse ∧
      (restoreMains s).bypass.waitingPulse = s.bypass.waitingPulse ∧
      (restoreMains s).bypass.recovery = s.bypass.recovery ∧
      (restoreMains s).bypass.staticCount = s.bypass.staticCount ∧
      (restoreMains s).bypass.breakerCount = s.bypass.breakerCount ∧ (restoreMains s).visits = s.visits ∧
      (restoreMains s).queue = s.queue ∧ (restoreMains s).monitor = s.monitor ∧ (restoreMains s).port = s.port ∧
      (restoreMains s).free = s.free ∧ (restoreMains s).pending = s.pending := by
  unfold restoreMains
  dsimp only
  (repeat' split) <;> simp

@[simp] theorem queueStatus_keeps (s : State) :
      (queueStatus s).held = s.held ∧ (queueStatus s).pins = s.pins ∧ (queueStatus s).id = s.id ∧
      (queueStatus s).cfg = s.cfg ∧ (queueStatus s).clampCount = s.clampCount ∧ (queueStatus s).clock = s.clock ∧
      (queueStatus s).intake = s.intake ∧ (queueStatus s).accounts = s.accounts ∧ (queueStatus s).stack = s.stack ∧
      (queueStatus s).cond = s.cond ∧ (queueStatus s).line.state = s.line.state ∧
      (queueStatus s).line.synchronised = s.line.synchronised ∧ (queueStatus s).line.received = s.line.received ∧
      (queueStatus s).line.crcFailures = s.line.crcFailures ∧
      (queueStatus s).line.lengthFailures = s.line.lengthFailures ∧
      (queueStatus s).line.contentDiscards = s.line.contentDiscards ∧
      (queueStatus s).line.addressDiscards = s.line.addressDiscards ∧ (queueStatus s).line.sent = s.line.sent ∧
      (queueStatus s).line.losses = s.line.losses ∧ (queueStatus s).line.abandoned = s.line.abandoned ∧
      (queueStatus s).line.statusTimer = s.line.statusTimer ∧
      (queueStatus s).line.joiningTimer = s.line.joiningTimer ∧ (queueStatus s).line.answers = s.line.answers ∧
      (queueStatus s).peers = s.peers ∧ (queueStatus s).claims = s.claims ∧ (queueStatus s).bypass = s.bypass ∧
      (queueStatus s).visits = s.visits ∧ (queueStatus s).queue = s.queue ∧ (queueStatus s).monitor = s.monitor ∧
      (queueStatus s).port = s.port ∧ (queueStatus s).free = s.free ∧ (queueStatus s).pending = s.pending := by
  unfold queueStatus
  simp

@[simp] theorem announceChange_keeps (before s : State) :
      (announceChange before s).held = s.held ∧ (announceChange before s).pins = s.pins ∧
      (announceChange before s).id = s.id ∧ (announceChange before s).cfg = s.cfg ∧
      (announceChange before s).clampCount = s.clampCount ∧ (announceChange before s).clock = s.clock ∧
      (announceChange before s).intake = s.intake ∧ (announceChange before s).accounts = s.accounts ∧
      (announceChange before s).stack = s.stack ∧ (announceChange before s).cond = s.cond ∧
      (announceChange before s).line.state = s.line.state ∧
      (announceChange before s).line.synchronised = s.line.synchronised ∧
      (announceChange before s).line.received = s.line.received ∧
      (announceChange before s).line.crcFailures = s.line.crcFailures ∧
      (announceChange before s).line.lengthFailures = s.line.lengthFailures ∧
      (announceChange before s).line.contentDiscards = s.line.contentDiscards ∧
      (announceChange before s).line.addressDiscards = s.line.addressDiscards ∧
      (announceChange before s).line.sent = s.line.sent ∧ (announceChange before s).line.losses = s.line.losses ∧
      (announceChange before s).line.abandoned = s.line.abandoned ∧
      (announceChange before s).line.statusTimer = s.line.statusTimer ∧
      (announceChange before s).line.joiningTimer = s.line.joiningTimer ∧
      (announceChange before s).line.answers = s.line.answers ∧ (announceChange before s).peers = s.peers ∧
      (announceChange before s).claims = s.claims ∧ (announceChange before s).bypass = s.bypass ∧
      (announceChange before s).visits = s.visits ∧ (announceChange before s).queue = s.queue ∧
      (announceChange before s).monitor = s.monitor ∧ (announceChange before s).port = s.port ∧
      (announceChange before s).free = s.free ∧ (announceChange before s).pending = s.pending := by
  unfold announceChange
  (repeat' split) <;> simp

@[simp] theorem holdClaim_keeps (c : OwnClaim) (s : State) :
      (holdClaim c s).held = s.held ∧ (holdClaim c s).pins = s.pins ∧ (holdClaim c s).id = s.id ∧
      (holdClaim c s).cfg = s.cfg ∧ (holdClaim c s).clampCount = s.clampCount ∧ (holdClaim c s).clock = s.clock ∧
      (holdClaim c s).intake = s.intake ∧ (holdClaim c s).accounts = s.accounts ∧ (holdClaim c s).stack = s.stack ∧
      (holdClaim c s).cond = s.cond ∧ (holdClaim c s).line = s.line ∧ (holdClaim c s).peers = s.peers ∧
      (holdClaim c s).claims.consent = s.claims.consent ∧ (holdClaim c s).claims.spacing = s.claims.spacing ∧
      (holdClaim c s).bypass = s.bypass ∧ (holdClaim c s).visits = s.visits ∧ (holdClaim c s).queue = s.queue ∧
      (holdClaim c s).monitor.hot = s.monitor.hot ∧ (holdClaim c s).monitor.lineErrors = s.monitor.lineErrors ∧
      (holdClaim c s).port = s.port ∧ (holdClaim c s).free = s.free ∧ (holdClaim c s).pending = s.pending := by
  unfold holdClaim
  simp

@[simp] theorem pushTest_keeps (o : TestOrigin) (s : State) :
      (pushTest o s).held = s.held ∧ (pushTest o s).pins = s.pins ∧ (pushTest o s).id = s.id ∧
      (pushTest o s).cfg = s.cfg ∧ (pushTest o s).clampCount = s.clampCount ∧ (pushTest o s).clock = s.clock ∧
      (pushTest o s).intake = s.intake ∧ (pushTest o s).accounts = s.accounts ∧
      (pushTest o s).stack.dischargeDeferred = s.stack.dischargeDeferred ∧
      (pushTest o s).stack.withdrawalDeferred = s.stack.withdrawalDeferred ∧
      (pushTest o s).stack.settle = s.stack.settle ∧ (pushTest o s).cond.latch = s.cond.latch ∧
      (pushTest o s).cond.equalizeDue = s.cond.equalizeDue ∧ (pushTest o s).cond.testLatch = s.cond.testLatch ∧
      (pushTest o s).cond.testDue = s.cond.testDue ∧ (pushTest o s).cond.waiting = s.cond.waiting ∧
      (pushTest o s).cond.overdueRaised = s.cond.overdueRaised ∧
      (pushTest o s).cond.remainingField = s.cond.remainingField ∧ (pushTest o s).line = s.line ∧
      (pushTest o s).peers = s.peers ∧ (pushTest o s).claims = s.claims ∧ (pushTest o s).bypass = s.bypass ∧
      (pushTest o s).visits = s.visits ∧ (pushTest o s).queue = s.queue ∧ (pushTest o s).monitor = s.monitor ∧
      (pushTest o s).port = s.port ∧ (pushTest o s).free = s.free ∧ (pushTest o s).pending = s.pending := by
  unfold pushTest
  dsimp only
  simp

@[simp] theorem pushClaimed_keeps (owner : Option Nat) (s : State) :
      (pushClaimed owner s).held = s.held ∧ (pushClaimed owner s).pins = s.pins ∧ (pushClaimed owner s).id = s.id ∧
      (pushClaimed owner s).cfg = s.cfg ∧ (pushClaimed owner s).clampCount = s.clampCount ∧
      (pushClaimed owner s).clock = s.clock ∧ (pushClaimed owner s).intake = s.intake ∧
      (pushClaimed owner s).accounts = s.accounts ∧
      (pushClaimed owner s).stack.dischargeDeferred = s.stack.dischargeDeferred ∧
      (pushClaimed owner s).stack.withdrawalDeferred = s.stack.withdrawalDeferred ∧
      (pushClaimed owner s).stack.settle = s.stack.settle ∧ (pushClaimed owner s).cond = s.cond ∧
      (pushClaimed owner s).line = s.line ∧ (pushClaimed owner s).peers = s.peers ∧
      (pushClaimed owner s).claims = s.claims ∧ (pushClaimed owner s).bypass.mains = s.bypass.mains ∧
      (pushClaimed owner s).bypass.lossTimer = s.bypass.lossTimer ∧
      (pushClaimed owner s).bypass.qualTimer = s.bypass.qualTimer ∧
      (pushClaimed owner s).bypass.report = s.bypass.report ∧
      (pushClaimed owner s).bypass.reportCount = s.bypass.reportCount ∧
      (pushClaimed owner s).bypass.position = s.bypass.position ∧
      (pushClaimed owner s).bypass.confirmed = s.bypass.confirmed ∧
      (pushClaimed owner s).bypass.disagree = s.bypass.disagree ∧
      (pushClaimed owner s).bypass.recovery = s.bypass.recovery ∧
      (pushClaimed owner s).bypass.staticCount = s.bypass.staticCount ∧
      (pushClaimed owner s).bypass.breakerCount = s.bypass.breakerCount ∧
      (pushClaimed owner s).visits.history = s.visits.history ∧
      (pushClaimed owner s).visits.counter = s.visits.counter ∧
      (pushClaimed owner s).visits.overdueTimer = s.visits.overdueTimer ∧
      (pushClaimed owner s).visits.stable = s.visits.stable ∧
      (pushClaimed owner s).visits.settleTimer = s.visits.settleTimer ∧
      (pushClaimed owner s).visits.requestHeld = s.visits.requestHeld ∧ (pushClaimed owner s).queue = s.queue ∧
      (pushClaimed owner s).monitor = s.monitor ∧ (pushClaimed owner s).port = s.port ∧
      (pushClaimed owner s).free = s.free ∧ (pushClaimed owner s).pending = s.pending := by
  unfold pushClaimed
  dsimp only
  (repeat' split) <;> simp

@[simp] theorem commit_keeps (s : State) :
      (commit s).held = s.held ∧ (commit s).pins = s.pins ∧ (commit s).id = s.id ∧ (commit s).cfg = s.cfg ∧
      (commit s).clampCount = s.clampCount ∧ (commit s).clock = s.clock ∧ (commit s).intake = s.intake ∧
      (commit s).accounts = s.accounts ∧ (commit s).stack.dischargeDeferred = s.stack.dischargeDeferred ∧
      (commit s).stack.withdrawalDeferred = s.stack.withdrawalDeferred ∧ (commit s).stack.settle = s.stack.settle ∧
      (commit s).cond.latch = s.cond.latch ∧ (commit s).cond.equalizeDue = s.cond.equalizeDue ∧
      (commit s).cond.testLatch = s.cond.testLatch ∧ (commit s).cond.testDue = s.cond.testDue ∧
      (commit s).cond.waiting = s.cond.waiting ∧ (commit s).cond.overdueRaised = s.cond.overdueRaised ∧
      (commit s).cond.remainingField = s.cond.remainingField ∧ (commit s).line.state = s.line.state ∧
      (commit s).line.synchronised = s.line.synchronised ∧ (commit s).line.received = s.line.received ∧
      (commit s).line.crcFailures = s.line.crcFailures ∧ (commit s).line.lengthFailures = s.line.lengthFailures ∧
      (commit s).line.contentDiscards = s.line.contentDiscards ∧
      (commit s).line.addressDiscards = s.line.addressDiscards ∧ (commit s).line.sent = s.line.sent ∧
      (commit s).line.losses = s.line.losses ∧ (commit s).line.abandoned = s.line.abandoned ∧
      (commit s).line.statusTimer = s.line.statusTimer ∧ (commit s).line.joiningTimer = s.line.joiningTimer ∧
      (commit s).line.answers = s.line.answers ∧ (commit s).peers = s.peers ∧
      (commit s).claims.consent = s.claims.consent ∧ (commit s).bypass.mains = s.bypass.mains ∧
      (commit s).bypass.lossTimer = s.bypass.lossTimer ∧ (commit s).bypass.qualTimer = s.bypass.qualTimer ∧
      (commit s).bypass.report = s.bypass.report ∧ (commit s).bypass.reportCount = s.bypass.reportCount ∧
      (commit s).bypass.position = s.bypass.position ∧ (commit s).bypass.confirmed = s.bypass.confirmed ∧
      (commit s).bypass.disagree = s.bypass.disagree ∧ (commit s).bypass.recovery = s.bypass.recovery ∧
      (commit s).bypass.staticCount = s.bypass.staticCount ∧ (commit s).bypass.breakerCount = s.bypass.breakerCount ∧
      (commit s).visits.history = s.visits.history ∧ (commit s).visits.counter = s.visits.counter ∧
      (commit s).visits.overdueTimer = s.visits.overdueTimer ∧ (commit s).visits.stable = s.visits.stable ∧
      (commit s).visits.settleTimer = s.visits.settleTimer ∧ (commit s).visits.requestHeld = s.visits.requestHeld ∧
      (commit s).queue = s.queue ∧ (commit s).monitor.hot = s.monitor.hot ∧
      (commit s).monitor.lineErrors = s.monitor.lineErrors ∧ (commit s).port = s.port ∧ (commit s).free = s.free ∧
      (commit s).pending = s.pending := by
  unfold commit
  (repeat' split) <;> simp

@[simp] theorem clearSettle_keeps (s : State) :
      (clearSettle s).held = s.held ∧ (clearSettle s).pins = s.pins ∧ (clearSettle s).id = s.id ∧
      (clearSettle s).cfg = s.cfg ∧ (clearSettle s).clampCount = s.clampCount ∧ (clearSettle s).clock = s.clock ∧
      (clearSettle s).intake = s.intake ∧ (clearSettle s).accounts = s.accounts ∧
      (clearSettle s).stack.frames = s.stack.frames ∧
      (clearSettle s).stack.dischargeDeferred = s.stack.dischargeDeferred ∧
      (clearSettle s).stack.withdrawalDeferred = s.stack.withdrawalDeferred ∧ (clearSettle s).cond = s.cond ∧
      (clearSettle s).line = s.line ∧ (clearSettle s).peers = s.peers ∧ (clearSettle s).claims = s.claims ∧
      (clearSettle s).bypass = s.bypass ∧ (clearSettle s).visits = s.visits ∧ (clearSettle s).queue = s.queue ∧
      (clearSettle s).monitor = s.monitor ∧ (clearSettle s).port = s.port ∧ (clearSettle s).free = s.free ∧
      (clearSettle s).pending = s.pending := by
  unfold clearSettle
  simp

@[simp] theorem dropWaiting_keeps (s : State) :
      (dropWaiting s).held = s.held ∧ (dropWaiting s).pins = s.pins ∧ (dropWaiting s).id = s.id ∧
      (dropWaiting s).cfg = s.cfg ∧ (dropWaiting s).clampCount = s.clampCount ∧ (dropWaiting s).clock = s.clock ∧
      (dropWaiting s).intake = s.intake ∧ (dropWaiting s).accounts = s.accounts ∧ (dropWaiting s).stack = s.stack ∧
      (dropWaiting s).cond.latch = s.cond.latch ∧ (dropWaiting s).cond.equalizeDue = s.cond.equalizeDue ∧
      (dropWaiting s).cond.testLatch = s.cond.testLatch ∧ (dropWaiting s).cond.testDue = s.cond.testDue ∧
      (dropWaiting s).cond.overdueRaised = s.cond.overdueRaised ∧
      (dropWaiting s).cond.testSecond = s.cond.testSecond ∧
      (dropWaiting s).cond.remainingField = s.cond.remainingField ∧ (dropWaiting s).line = s.line ∧
      (dropWaiting s).peers = s.peers ∧ (dropWaiting s).claims = s.claims ∧ (dropWaiting s).bypass = s.bypass ∧
      (dropWaiting s).visits = s.visits ∧ (dropWaiting s).queue = s.queue ∧ (dropWaiting s).monitor = s.monitor ∧
      (dropWaiting s).port = s.port ∧ (dropWaiting s).free = s.free ∧ (dropWaiting s).pending = s.pending := by
  unfold dropWaiting
  simp

@[simp] theorem takeWaiting_keeps (s : State) :
      (takeWaiting s).held = s.held ∧ (takeWaiting s).pins = s.pins ∧ (takeWaiting s).id = s.id ∧
      (takeWaiting s).cfg = s.cfg ∧ (takeWaiting s).clampCount = s.clampCount ∧ (takeWaiting s).clock = s.clock ∧
      (takeWaiting s).intake = s.intake ∧ (takeWaiting s).accounts = s.accounts ∧ (takeWaiting s).stack = s.stack ∧
      (takeWaiting s).cond.latch = s.cond.latch ∧ (takeWaiting s).cond.equalizeDue = s.cond.equalizeDue ∧
      (takeWaiting s).cond.testLatch = s.cond.testLatch ∧ (takeWaiting s).cond.testDue = s.cond.testDue ∧
      (takeWaiting s).cond.overdueRaised = s.cond.overdueRaised ∧
      (takeWaiting s).cond.testSecond = s.cond.testSecond ∧
      (takeWaiting s).cond.remainingField = s.cond.remainingField ∧ (takeWaiting s).line.state = s.line.state ∧
      (takeWaiting s).line.synchronised = s.line.synchronised ∧ (takeWaiting s).line.received = s.line.received ∧
      (takeWaiting s).line.crcFailures = s.line.crcFailures ∧
      (takeWaiting s).line.lengthFailures = s.line.lengthFailures ∧
      (takeWaiting s).line.contentDiscards = s.line.contentDiscards ∧
      (takeWaiting s).line.addressDiscards = s.line.addressDiscards ∧ (takeWaiting s).line.sent = s.line.sent ∧
      (takeWaiting s).line.losses = s.line.losses ∧ (takeWaiting s).line.abandoned = s.line.abandoned ∧
      (takeWaiting s).line.statusTimer = s.line.statusTimer ∧
      (takeWaiting s).line.joiningTimer = s.line.joiningTimer ∧ (takeWaiting s).line.answers = s.line.answers ∧
      (takeWaiting s).peers = s.peers ∧ (takeWaiting s).claims.consent = s.claims.consent ∧
      (takeWaiting s).claims.last = s.claims.last ∧ (takeWaiting s).claims.lastKind = s.claims.lastKind ∧
      (takeWaiting s).claims.spacing = s.claims.spacing ∧ (takeWaiting s).claims.latch = s.claims.latch ∧
      (takeWaiting s).bypass = s.bypass ∧ (takeWaiting s).visits = s.visits ∧ (takeWaiting s).queue = s.queue ∧
      (takeWaiting s).monitor = s.monitor ∧ (takeWaiting s).port = s.port ∧ (takeWaiting s).free = s.free ∧
      (takeWaiting s).pending = s.pending := by
  unfold takeWaiting
  (repeat' split) <;> simp

@[simp] theorem tryEqualize_keeps (s : State) :
      (tryEqualize s).held = s.held ∧ (tryEqualize s).pins = s.pins ∧ (tryEqualize s).id = s.id ∧
      (tryEqualize s).cfg = s.cfg ∧ (tryEqualize s).clampCount = s.clampCount ∧ (tryEqualize s).clock = s.clock ∧
      (tryEqualize s).intake = s.intake ∧ (tryEqualize s).accounts = s.accounts ∧
      (tryEqualize s).stack.dischargeDeferred = s.stack.dischargeDeferred ∧
      (tryEqualize s).stack.withdrawalDeferred = s.stack.withdrawalDeferred ∧
      (tryEqualize s).stack.settle = s.stack.settle ∧ (tryEqualize s).cond.equalizeDue = s.cond.equalizeDue ∧
      (tryEqualize s).cond.testLatch = s.cond.testLatch ∧ (tryEqualize s).cond.testDue = s.cond.testDue ∧
      (tryEqualize s).cond.waiting = s.cond.waiting ∧ (tryEqualize s).cond.overdueRaised = s.cond.overdueRaised ∧
      (tryEqualize s).cond.testSecond = s.cond.testSecond ∧ (tryEqualize s).line = s.line ∧
      (tryEqualize s).peers = s.peers ∧ (tryEqualize s).claims = s.claims ∧ (tryEqualize s).bypass = s.bypass ∧
      (tryEqualize s).visits = s.visits ∧ (tryEqualize s).queue = s.queue ∧ (tryEqualize s).monitor = s.monitor ∧
      (tryEqualize s).port.list = s.port.list ∧ (tryEqualize s).port.writing = s.port.writing ∧
      (tryEqualize s).port.restartWait = s.port.restartWait ∧ (tryEqualize s).port.areas = s.port.areas ∧
      (tryEqualize s).free = s.free ∧ (tryEqualize s).pending = s.pending := by
  unfold tryEqualize
  (repeat' split) <;> simp

@[simp] theorem tryTest_keeps (s : State) :
      (tryTest s).held = s.held ∧ (tryTest s).pins = s.pins ∧ (tryTest s).id = s.id ∧ (tryTest s).cfg = s.cfg ∧
      (tryTest s).clampCount = s.clampCount ∧ (tryTest s).clock = s.clock ∧ (tryTest s).intake = s.intake ∧
      (tryTest s).accounts = s.accounts ∧ (tryTest s).stack = s.stack ∧ (tryTest s).cond.latch = s.cond.latch ∧
      (tryTest s).cond.equalizeDue = s.cond.equalizeDue ∧ (tryTest s).cond.testLatch = s.cond.testLatch ∧
      (tryTest s).cond.testDue = s.cond.testDue ∧ (tryTest s).cond.overdueRaised = s.cond.overdueRaised ∧
      (tryTest s).cond.testSecond = s.cond.testSecond ∧ (tryTest s).cond.remainingField = s.cond.remainingField ∧
      (tryTest s).line.state = s.line.state ∧ (tryTest s).line.synchronised = s.line.synchronised ∧
      (tryTest s).line.received = s.line.received ∧ (tryTest s).line.crcFailures = s.line.crcFailures ∧
      (tryTest s).line.lengthFailures = s.line.lengthFailures ∧
      (tryTest s).line.contentDiscards = s.line.contentDiscards ∧
      (tryTest s).line.addressDiscards = s.line.addressDiscards ∧ (tryTest s).line.sent = s.line.sent ∧
      (tryTest s).line.losses = s.line.losses ∧ (tryTest s).line.abandoned = s.line.abandoned ∧
      (tryTest s).line.statusTimer = s.line.statusTimer ∧ (tryTest s).line.joiningTimer = s.line.joiningTimer ∧
      (tryTest s).line.answers = s.line.answers ∧ (tryTest s).peers = s.peers ∧
      (tryTest s).claims.consent = s.claims.consent ∧ (tryTest s).claims.last = s.claims.last ∧
      (tryTest s).claims.lastKind = s.claims.lastKind ∧ (tryTest s).claims.spacing = s.claims.spacing ∧
      (tryTest s).claims.latch = s.claims.latch ∧ (tryTest s).bypass = s.bypass ∧ (tryTest s).visits = s.visits ∧
      (tryTest s).queue = s.queue ∧ (tryTest s).monitor = s.monitor ∧ (tryTest s).port = s.port ∧
      (tryTest s).free = s.free ∧ (tryTest s).pending = s.pending := by
  unfold tryTest
  dsimp only
  (repeat' split) <;> simp

@[simp] theorem tryKey_keeps (s : State) :
      (tryKey s).held = s.held ∧ (tryKey s).pins = s.pins ∧ (tryKey s).id = s.id ∧ (tryKey s).cfg = s.cfg ∧
      (tryKey s).clampCount = s.clampCount ∧ (tryKey s).clock = s.clock ∧ (tryKey s).intake = s.intake ∧
      (tryKey s).accounts = s.accounts ∧ (tryKey s).stack = s.stack ∧ (tryKey s).cond = s.cond ∧
      (tryKey s).line.state = s.line.state ∧ (tryKey s).line.synchronised = s.line.synchronised ∧
      (tryKey s).line.received = s.line.received ∧ (tryKey s).line.crcFailures = s.line.crcFailures ∧
      (tryKey s).line.lengthFailures = s.line.lengthFailures ∧
      (tryKey s).line.contentDiscards = s.line.contentDiscards ∧
      (tryKey s).line.addressDiscards = s.line.addressDiscards ∧ (tryKey s).line.sent = s.line.sent ∧
      (tryKey s).line.losses = s.line.losses ∧ (tryKey s).line.abandoned = s.line.abandoned ∧
      (tryKey s).line.statusTimer = s.line.statusTimer ∧ (tryKey s).line.joiningTimer = s.line.joiningTimer ∧
      (tryKey s).line.answers = s.line.answers ∧ (tryKey s).peers = s.peers ∧
      (tryKey s).claims.consent = s.claims.consent ∧ (tryKey s).claims.last = s.claims.last ∧
      (tryKey s).claims.lastKind = s.claims.lastKind ∧ (tryKey s).claims.spacing = s.claims.spacing ∧
      (tryKey s).claims.latch = s.claims.latch ∧ (tryKey s).bypass = s.bypass ∧ (tryKey s).visits = s.visits ∧
      (tryKey s).queue = s.queue ∧ (tryKey s).monitor = s.monitor ∧ (tryKey s).port = s.port ∧
      (tryKey s).free = s.free ∧ (tryKey s).pending = s.pending := by
  unfold tryKey
  (repeat' split) <;> simp

@[simp] theorem startActivities_keeps (s : State) :
      (startActivities s).held = s.held ∧ (startActivities s).pins = s.pins ∧ (startActivities s).id = s.id ∧
      (startActivities s).cfg = s.cfg ∧ (startActivities s).clampCount = s.clampCount ∧
      (startActivities s).clock = s.clock ∧ (startActivities s).intake = s.intake ∧
      (startActivities s).accounts = s.accounts ∧
      (startActivities s).stack.dischargeDeferred = s.stack.dischargeDeferred ∧
      (startActivities s).stack.withdrawalDeferred = s.stack.withdrawalDeferred ∧
      (startActivities s).stack.settle = s.stack.settle ∧ (startActivities s).cond.equalizeDue = s.cond.equalizeDue ∧
      (startActivities s).cond.testLatch = s.cond.testLatch ∧ (startActivities s).cond.testDue = s.cond.testDue ∧
      (startActivities s).cond.overdueRaised = s.cond.overdueRaised ∧
      (startActivities s).cond.testSecond = s.cond.testSecond ∧ (startActivities s).line.state = s.line.state ∧
      (startActivities s).line.synchronised = s.line.synchronised ∧
      (startActivities s).line.received = s.line.received ∧
      (startActivities s).line.crcFailures = s.line.crcFailures ∧
      (startActivities s).line.lengthFailures = s.line.lengthFailures ∧
      (startActivities s).line.contentDiscards = s.line.contentDiscards ∧
      (startActivities s).line.addressDiscards = s.line.addressDiscards ∧
      (startActivities s).line.sent = s.line.sent ∧ (startActivities s).line.losses = s.line.losses ∧
      (startActivities s).line.abandoned = s.line.abandoned ∧
      (startActivities s).line.statusTimer = s.line.statusTimer ∧
      (startActivities s).line.joiningTimer = s.line.joiningTimer ∧
      (startActivities s).line.answers = s.line.answers ∧ (startActivities s).peers = s.peers ∧
      (startActivities s).claims.consent = s.claims.consent ∧ (startActivities s).claims.last = s.claims.last ∧
      (startActivities s).claims.lastKind = s.claims.lastKind ∧
      (startActivities s).claims.spacing = s.claims.spacing ∧ (startActivities s).claims.latch = s.claims.latch ∧
      (startActivities s).bypass = s.bypass ∧ (startActivities s).visits = s.visits ∧
      (startActivities s).queue = s.queue ∧ (startActivities s).monitor = s.monitor ∧
      (startActivities s).port.list = s.port.list ∧ (startActivities s).port.writing = s.port.writing ∧
      (startActivities s).port.restartWait = s.port.restartWait ∧ (startActivities s).port.areas = s.port.areas ∧
      (startActivities s).pending = s.pending := by
  unfold startActivities
  dsimp only
  (repeat' split) <;> simp

@[simp] theorem conditionAborts_keeps (s : State) :
      (conditionAborts s).held = s.held ∧ (conditionAborts s).pins = s.pins ∧ (conditionAborts s).id = s.id ∧
      (conditionAborts s).cfg = s.cfg ∧ (conditionAborts s).clampCount = s.clampCount ∧
      (conditionAborts s).clock = s.clock ∧ (conditionAborts s).intake = s.intake ∧
      (conditionAborts s).accounts.second = s.accounts.second ∧
      (conditionAborts s).stack.dischargeDeferred = s.stack.dischargeDeferred ∧
      (conditionAborts s).stack.withdrawalDeferred = s.stack.withdrawalDeferred ∧
      (conditionAborts s).cond.equalizeDue = s.cond.equalizeDue ∧ (conditionAborts s).cond.waiting = s.cond.waiting ∧
      (conditionAborts s).line.state = s.line.state ∧ (conditionAborts s).line.synchronised = s.line.synchronised ∧
      (conditionAborts s).line.received = s.line.received ∧
      (conditionAborts s).line.crcFailures = s.line.crcFailures ∧
      (conditionAborts s).line.lengthFailures = s.line.lengthFailures ∧
      (conditionAborts s).line.contentDiscards = s.line.contentDiscards ∧
      (conditionAborts s).line.addressDiscards = s.line.addressDiscards ∧
      (conditionAborts s).line.sent = s.line.sent ∧ (conditionAborts s).line.losses = s.line.losses ∧
      (conditionAborts s).line.abandoned = s.line.abandoned ∧
      (conditionAborts s).line.statusTimer = s.line.statusTimer ∧
      (conditionAborts s).line.joiningTimer = s.line.joiningTimer ∧
      (conditionAborts s).line.answers = s.line.answers ∧ (conditionAborts s).peers = s.peers ∧
      (conditionAborts s).claims.consent = s.claims.consent ∧ (conditionAborts s).claims.last = s.claims.last ∧
      (conditionAborts s).claims.lastKind = s.claims.lastKind ∧ (conditionAborts s).claims.latch = s.claims.latch ∧
      (conditionAborts s).bypass = s.bypass ∧ (conditionAborts s).visits = s.visits ∧
      (conditionAborts s).monitor = s.monitor ∧ (conditionAborts s).port.writing = s.port.writing ∧
      (conditionAborts s).port.restartWait = s.port.restartWait ∧ (conditionAborts s).port.areas = s.port.areas ∧
      (conditionAborts s).free = s.free ∧ (conditionAborts s).pending = s.pending := by
  unfold conditionAborts
  dsimp only
  (repeat' split) <;> simp

@[simp] theorem supportAbort_keeps (s : State) :
      (supportAbort s).held = s.held ∧ (supportAbort s).pins = s.pins ∧ (supportAbort s).id = s.id ∧
      (supportAbort s).cfg = s.cfg ∧ (supportAbort s).clampCount = s.clampCount ∧ (supportAbort s).clock = s.clock ∧
      (supportAbort s).intake = s.intake ∧ (supportAbort s).accounts.second = s.accounts.second ∧
      (supportAbort s).stack.dischargeDeferred = s.stack.dischargeDeferred ∧
      (supportAbort s).stack.withdrawalDeferred = s.stack.withdrawalDeferred ∧
      (supportAbort s).cond.latch = s.cond.latch ∧ (supportAbort s).cond.equalizeDue = s.cond.equalizeDue ∧
      (supportAbort s).cond.waiting = s.cond.waiting ∧ (supportAbort s).cond.remainingField = s.cond.remainingField ∧
      (supportAbort s).line.state = s.line.state ∧ (supportAbort s).line.synchronised = s.line.synchronised ∧
      (supportAbort s).line.received = s.line.received ∧ (supportAbort s).line.crcFailures = s.line.crcFailures ∧
      (supportAbort s).line.lengthFailures = s.line.lengthFailures ∧
      (supportAbort s).line.contentDiscards = s.line.contentDiscards ∧
      (supportAbort s).line.addressDiscards = s.line.addressDiscards ∧ (supportAbort s).line.sent = s.line.sent ∧
      (supportAbort s).line.losses = s.line.losses ∧ (supportAbort s).line.abandoned = s.line.abandoned ∧
      (supportAbort s).line.statusTimer = s.line.statusTimer ∧
      (supportAbort s).line.joiningTimer = s.line.joiningTimer ∧ (supportAbort s).line.answers = s.line.answers ∧
      (supportAbort s).peers = s.peers ∧ (supportAbort s).claims.consent = s.claims.consent ∧
      (supportAbort s).claims.last = s.claims.last ∧ (supportAbort s).claims.lastKind = s.claims.lastKind ∧
      (supportAbort s).claims.latch = s.claims.latch ∧ (supportAbort s).bypass = s.bypass ∧
      (supportAbort s).visits = s.visits ∧ (supportAbort s).monitor = s.monitor ∧
      (supportAbort s).port.writing = s.port.writing ∧ (supportAbort s).port.restartWait = s.port.restartWait ∧
      (supportAbort s).port.areas = s.port.areas ∧ (supportAbort s).free = s.free ∧
      (supportAbort s).pending = s.pending := by
  unfold supportAbort
  (repeat' split) <;> simp

@[simp] theorem tryCommit_keeps (s : State) :
      (tryCommit s).held = s.held ∧ (tryCommit s).pins = s.pins ∧ (tryCommit s).id = s.id ∧
      (tryCommit s).cfg = s.cfg ∧ (tryCommit s).clampCount = s.clampCount ∧ (tryCommit s).clock = s.clock ∧
      (tryCommit s).intake = s.intake ∧ (tryCommit s).accounts = s.accounts ∧
      (tryCommit s).stack.dischargeDeferred = s.stack.dischargeDeferred ∧
      (tryCommit s).stack.withdrawalDeferred = s.stack.withdrawalDeferred ∧
      (tryCommit s).stack.settle = s.stack.settle ∧ (tryCommit s).cond.latch = s.cond.latch ∧
      (tryCommit s).cond.equalizeDue = s.cond.equalizeDue ∧ (tryCommit s).cond.testLatch = s.cond.testLatch ∧
      (tryCommit s).cond.testDue = s.cond.testDue ∧ (tryCommit s).cond.waiting = s.cond.waiting ∧
      (tryCommit s).cond.overdueRaised = s.cond.overdueRaised ∧
      (tryCommit s).cond.remainingField = s.cond.remainingField ∧ (tryCommit s).line.state = s.line.state ∧
      (tryCommit s).line.synchronised = s.line.synchronised ∧ (tryCommit s).line.received = s.line.received ∧
      (tryCommit s).line.crcFailures = s.line.crcFailures ∧
      (tryCommit s).line.lengthFailures = s.line.lengthFailures ∧
      (tryCommit s).line.contentDiscards = s.line.contentDiscards ∧
      (tryCommit s).line.addressDiscards = s.line.addressDiscards ∧ (tryCommit s).line.sent = s.line.sent ∧
      (tryCommit s).line.losses = s.line.losses ∧ (tryCommit s).line.abandoned = s.line.abandoned ∧
      (tryCommit s).line.statusTimer = s.line.statusTimer ∧ (tryCommit s).line.joiningTimer = s.line.joiningTimer ∧
      (tryCommit s).line.answers = s.line.answers ∧ (tryCommit s).peers = s.peers ∧
      (tryCommit s).claims.consent = s.claims.consent ∧ (tryCommit s).bypass.mains = s.bypass.mains ∧
      (tryCommit s).bypass.lossTimer = s.bypass.lossTimer ∧ (tryCommit s).bypass.qualTimer = s.bypass.qualTimer ∧
      (tryCommit s).bypass.report = s.bypass.report ∧ (tryCommit s).bypass.reportCount = s.bypass.reportCount ∧
      (tryCommit s).bypass.position = s.bypass.position ∧ (tryCommit s).bypass.confirmed = s.bypass.confirmed ∧
      (tryCommit s).bypass.disagree = s.bypass.disagree ∧ (tryCommit s).bypass.recovery = s.bypass.recovery ∧
      (tryCommit s).bypass.staticCount = s.bypass.staticCount ∧
      (tryCommit s).bypass.breakerCount = s.bypass.breakerCount ∧ (tryCommit s).visits.history = s.visits.history ∧
      (tryCommit s).visits.counter = s.visits.counter ∧ (tryCommit s).visits.overdueTimer = s.visits.overdueTimer ∧
      (tryCommit s).visits.stable = s.visits.stable ∧ (tryCommit s).visits.settleTimer = s.visits.settleTimer ∧
      (tryCommit s).visits.requestHeld = s.visits.requestHeld ∧ (tryCommit s).queue = s.queue ∧
      (tryCommit s).monitor.hot = s.monitor.hot ∧ (tryCommit s).monitor.lineErrors = s.monitor.lineErrors ∧
      (tryCommit s).port = s.port ∧ (tryCommit s).free = s.free ∧ (tryCommit s).pending = s.pending := by
  unfold tryCommit
  (repeat' split) <;> simp

@[simp] theorem settle_keeps (s : State) :
      (settle s).held = s.held ∧ (settle s).pins = s.pins ∧ (settle s).id = s.id ∧ (settle s).cfg = s.cfg ∧
      (settle s).clampCount = s.clampCount ∧ (settle s).clock = s.clock ∧ (settle s).intake = s.intake ∧
      (settle s).accounts.second = s.accounts.second ∧
      (settle s).stack.dischargeDeferred = s.stack.dischargeDeferred ∧
      (settle s).stack.withdrawalDeferred = s.stack.withdrawalDeferred ∧
      (settle s).cond.equalizeDue = s.cond.equalizeDue ∧ (settle s).line.state = s.line.state ∧
      (settle s).line.synchronised = s.line.synchronised ∧ (settle s).line.received = s.line.received ∧
      (settle s).line.crcFailures = s.line.crcFailures ∧ (settle s).line.lengthFailures = s.line.lengthFailures ∧
      (settle s).line.contentDiscards = s.line.contentDiscards ∧
      (settle s).line.addressDiscards = s.line.addressDiscards ∧ (settle s).line.sent = s.line.sent ∧
      (settle s).line.losses = s.line.losses ∧ (settle s).line.abandoned = s.line.abandoned ∧
      (settle s).line.statusTimer = s.line.statusTimer ∧ (settle s).line.joiningTimer = s.line.joiningTimer ∧
      (settle s).line.answers = s.line.answers ∧ (settle s).peers = s.peers ∧
      (settle s).bypass.mains = s.bypass.mains ∧ (settle s).bypass.lossTimer = s.bypass.lossTimer ∧
      (settle s).bypass.qualTimer = s.bypass.qualTimer ∧ (settle s).bypass.report = s.bypass.report ∧
      (settle s).bypass.reportCount = s.bypass.reportCount ∧ (settle s).bypass.position = s.bypass.position ∧
      (settle s).bypass.confirmed = s.bypass.confirmed ∧ (settle s).bypass.disagree = s.bypass.disagree ∧
      (settle s).bypass.recovery = s.bypass.recovery ∧ (settle s).bypass.staticCount = s.bypass.staticCount ∧
      (settle s).bypass.breakerCount = s.bypass.breakerCount ∧ (settle s).visits.history = s.visits.history ∧
      (settle s).visits.counter = s.visits.counter ∧ (settle s).visits.overdueTimer = s.visits.overdueTimer ∧
      (settle s).visits.stable = s.visits.stable ∧ (settle s).visits.settleTimer = s.visits.settleTimer ∧
      (settle s).visits.requestHeld = s.visits.requestHeld ∧ (settle s).monitor.hot = s.monitor.hot ∧
      (settle s).monitor.lineErrors = s.monitor.lineErrors ∧ (settle s).port.writing = s.port.writing ∧
      (settle s).port.restartWait = s.port.restartWait ∧ (settle s).port.areas = s.port.areas ∧
      (settle s).pending = s.pending := by
  unfold settle
  dsimp only
  simp

@[simp] theorem finish_keeps (before s : State) :
      (finish before s).held = s.held ∧ (finish before s).pins = s.pins ∧ (finish before s).id = s.id ∧
      (finish before s).cfg = s.cfg ∧ (finish before s).clampCount = s.clampCount ∧
      (finish before s).clock = s.clock ∧ (finish before s).intake = s.intake ∧
      (finish before s).accounts.second = s.accounts.second ∧
      (finish before s).stack.dischargeDeferred = s.stack.dischargeDeferred ∧
      (finish before s).stack.withdrawalDeferred = s.stack.withdrawalDeferred ∧
      (finish before s).cond.equalizeDue = s.cond.equalizeDue ∧ (finish before s).line.state = s.line.state ∧
      (finish before s).line.synchronised = s.line.synchronised ∧ (finish before s).line.received = s.line.received ∧
      (finish before s).line.crcFailures = s.line.crcFailures ∧
      (finish before s).line.lengthFailures = s.line.lengthFailures ∧
      (finish before s).line.contentDiscards = s.line.contentDiscards ∧
      (finish before s).line.addressDiscards = s.line.addressDiscards ∧ (finish before s).line.sent = s.line.sent ∧
      (finish before s).line.losses = s.line.losses ∧ (finish before s).line.abandoned = s.line.abandoned ∧
      (finish before s).line.statusTimer = s.line.statusTimer ∧
      (finish before s).line.joiningTimer = s.line.joiningTimer ∧ (finish before s).line.answers = s.line.answers ∧
      (finish before s).peers = s.peers ∧ (finish before s).bypass.mains = s.bypass.mains ∧
      (finish before s).bypass.lossTimer = s.bypass.lossTimer ∧
      (finish before s).bypass.qualTimer = s.bypass.qualTimer ∧ (finish before s).bypass.report = s.bypass.report ∧
      (finish before s).bypass.reportCount = s.bypass.reportCount ∧
      (finish before s).bypass.position = s.bypass.position ∧
      (finish before s).bypass.confirmed = s.bypass.confirmed ∧
      (finish before s).bypass.disagree = s.bypass.disagree ∧ (finish before s).bypass.recovery = s.bypass.recovery ∧
      (finish before s).bypass.staticCount = s.bypass.staticCount ∧
      (finish before s).bypass.breakerCount = s.bypass.breakerCount ∧
      (finish before s).visits.history = s.visits.history ∧ (finish before s).visits.counter = s.visits.counter ∧
      (finish before s).visits.overdueTimer = s.visits.overdueTimer ∧
      (finish before s).visits.stable = s.visits.stable ∧
      (finish before s).visits.settleTimer = s.visits.settleTimer ∧
      (finish before s).visits.requestHeld = s.visits.requestHeld ∧ (finish before s).monitor.hot = s.monitor.hot ∧
      (finish before s).monitor.lineErrors = s.monitor.lineErrors ∧
      (finish before s).port.restartWait = s.port.restartWait ∧ (finish before s).port.areas = s.port.areas ∧
      (finish before s).pending = s.pending := by
  unfold finish
  simp

end Sys2Proof.Machine
end

