-- ==== Sys2Proof/Laws/Aftermath.lean ====
section
/-! SUPPORT. What the end of an event leaves alone, whatever the event was, and what it does in a quiet state. -/

namespace Sys2Proof.Machine

open Sys2Proof.Safety

/-- The end of an event changes only what `Aftermath` names. -/
theorem finish_aftermath (before u : State) : Aftermath u (finish before u) := by
  have h := finish_keeps before u
  generalize finish before u = t at h ⊢
  rcases t with ⟨_, _, _, _, _, _, _, ⟨_, _, _⟩, ⟨_, _, _, _⟩, ⟨_, _, _, _, _, _, _, _⟩,
    ⟨_, _, _, _, _, _, _, _, _, _, _, _, _, _, _, _⟩, _, _, ⟨_, _, _, _, _, _, _, _, _, _, _, _, _⟩, ⟨_, _, _, _, _, _, _⟩, _,
    ⟨_, _, _⟩, ⟨_, _, _, _, _⟩, _, _⟩
  simp only at h
  simp only [Aftermath, h]

theorem Aftermath.trans {u v t : State} (h : Aftermath u v) (k : Aftermath v t) : Aftermath u t := by
  unfold Aftermath at *
  rw [h] at k
  exact k

/-- Queueing a STATUS touches the transmit queue and the drop count alone. -/
theorem queueStatus_frame (s : State) : queueStatus s = { s with line := { s.line with
    tx := (queueStatus s).line.tx, drops := (queueStatus s).line.drops } } := by
  unfold queueStatus handFrame newFrame
  dsimp only
  split
  · rfl
  · split
    · rfl
    · split
      · rfl
      · rfl

theorem announceChange_frame (before s : State) : announceChange before s = { s with line := { s.line with
    tx := (announceChange before s).line.tx, drops := (announceChange before s).line.drops } } := by
  unfold announceChange
  split
  · rfl
  · exact queueStatus_frame s

/-- The end of an event at the memory port touches the page states, the write list and the write alone. -/
theorem settlePort_frame (before : List PageId) (s : State) : settlePort before s = { s with port := { s.port with
    states := (settlePort before s).port.states
    list := (settlePort before s).port.list
    writing := (settlePort before s).port.writing } } := by
  unfold settlePort beginWrite setPageState
  dsimp only
  split <;> rfl

/-- In a quiet state the blocks settle by taking the follow conditions and the consent anew. -/
theorem settle_quiet (u : State) (h : Quiet u) : settle u = retakeConsent (refresh u) := by
  obtain ⟨own, test, latch, testLatch, waiting, request, hot⟩ := h
  have hyield : yieldIfMust (refresh u) = refresh u := by simp [yieldIfMust, refresh, own]
  have htest : (refresh u).hasTest = false := test
  have hcond : conditionAborts (refresh u) = refresh u := by
    have hbar : ((refresh u).hasEqualize && (refresh u).monitor.active.stringHot) = false := by
      change (u.hasEqualize && u.monitor.hot.any id) = false
      cases he : u.hasEqualize
      · rfl
      · simp [hot he]
    simp [conditionAborts, htest, hbar]
  have hsupp : supportAbort (refresh (refresh u)) = refresh u := by
    have : (refresh (refresh u)).hasTest = false := test
    simp only [supportAbort, this, Bool.false_and, Bool.false_eq_true, if_false]
    rfl
  have hcommit : tryCommit (refresh (refresh u)) = refresh u := by
    have : commitReady (refresh (refresh u)) = false := by simp [commitReady, refresh, own]
    simp only [tryCommit, this, Bool.false_eq_true, if_false]
    rfl
  have hown : giveOwner (refresh u) = refresh u := by simp [giveOwner, request]
  have howed : handOwedClaim (refresh u) = refresh u := by simp [handOwedClaim, refresh, own]
  have hstart : startActivities (refresh u) = refresh u := by
    have h1 : equalizeReady (refresh u) = false := by simp [equalizeReady, latch]
    have h2 : testClaimReady (refresh u) = false := by simp [testClaimReady, testLatch]
    have h4 : keyClaimReady (refresh u) = false := by simp [keyClaimReady, request]
    simp [startActivities, tryEqualize, tryTest, tryKey, takeWaiting, waiting, h1, h2, h4]
  unfold settle
  simp only [hyield, hcond, hsupp, hcommit]
  rw [show refresh (refresh u) = refresh u from rfl, hown, howed, hstart]

/-- The end of an event in a quiet state changes only what `QuietAftermath` names. -/
theorem finish_quiet (before u : State) (h : Quiet u) : QuietAftermath u (finish before u) := by
  unfold QuietAftermath finish
  rw [settlePort_frame, announceChange_frame, settle_quiet u h]
  rfl

/-- What an event answers after an own effect that left `u`. -/
theorem finish_after (before u : State) : After u (finish before u) := ⟨finish_aftermath before u, finish_quiet before u⟩

end Sys2Proof.Machine
end

