-- ==== Sys2Proof/Laws/FramesEvents.lean ====
section
/-! SUPPORT. What each operation of what the requests and events do before they end leaves alone: one lemma per operation, every field
of the state that it does not write. -/

namespace Sys2Proof.Machine

@[simp] theorem handResult_keeps (term : Nat) (payload : List Byte) (awaited : Bool) (s : State) :
      (handResult term payload awaited s).held = s.held ∧ (handResult term payload awaited s).pins = s.pins ∧
      (handResult term payload awaited s).id = s.id ∧ (handResult term payload awaited s).cfg = s.cfg ∧
      (handResult term payload awaited s).clampCount = s.clampCount ∧
      (handResult term payload awaited s).clock = s.clock ∧ (handResult term payload awaited s).intake = s.intake ∧
      (handResult term payload awaited s).accounts = s.accounts ∧
      (handResult term payload awaited s).stack = s.stack ∧ (handResult term payload awaited s).cond = s.cond ∧
      (handResult term payload awaited s).line.state = s.line.state ∧
      (handResult term payload awaited s).line.synchronised = s.line.synchronised ∧
      (handResult term payload awaited s).line.received = s.line.received ∧
      (handResult term payload awaited s).line.crcFailures = s.line.crcFailures ∧
      (handResult term payload awaited s).line.lengthFailures = s.line.lengthFailures ∧
      (handResult term payload awaited s).line.contentDiscards = s.line.contentDiscards ∧
      (handResult term payload awaited s).line.addressDiscards = s.line.addressDiscards ∧
      (handResult term payload awaited s).line.sent = s.line.sent ∧
      (handResult term payload awaited s).line.losses = s.line.losses ∧
      (handResult term payload awaited s).line.abandoned = s.line.abandoned ∧
      (handResult term payload awaited s).line.statusTimer = s.line.statusTimer ∧
      (handResult term payload awaited s).line.joiningTimer = s.line.joiningTimer ∧
      (handResult term payload awaited s).line.answers = s.line.answers ∧
      (handResult term payload awaited s).peers = s.peers ∧ (handResult term payload awaited s).claims = s.claims ∧
      (handResult term payload awaited s).bypass = s.bypass ∧ (handResult term payload awaited s).visits = s.visits ∧
      (handResult term payload awaited s).queue = s.queue ∧ (handResult term payload awaited s).monitor = s.monitor ∧
      (handResult term payload awaited s).port = s.port ∧ (handResult term payload awaited s).free = s.free ∧
      (handResult term payload awaited s).pending = s.pending := by
  unfold handResult
  simp

@[simp] theorem storeAnswer_keeps (term : Nat) (request result : List Byte) (s : State) :
      (storeAnswer term request result s).held = s.held ∧ (storeAnswer term request result s).pins = s.pins ∧
      (storeAnswer term request result s).id = s.id ∧ (storeAnswer term request result s).cfg = s.cfg ∧
      (storeAnswer term request result s).clampCount = s.clampCount ∧
      (storeAnswer term request result s).clock = s.clock ∧ (storeAnswer term request result s).intake = s.intake ∧
      (storeAnswer term request result s).accounts = s.accounts ∧
      (storeAnswer term request result s).stack = s.stack ∧ (storeAnswer term request result s).cond = s.cond ∧
      (storeAnswer term request result s).line.state = s.line.state ∧
      (storeAnswer term request result s).line.synchronised = s.line.synchronised ∧
      (storeAnswer term request result s).line.tx = s.line.tx ∧
      (storeAnswer term request result s).line.received = s.line.received ∧
      (storeAnswer term request result s).line.crcFailures = s.line.crcFailures ∧
      (storeAnswer term request result s).line.lengthFailures = s.line.lengthFailures ∧
      (storeAnswer term request result s).line.contentDiscards = s.line.contentDiscards ∧
      (storeAnswer term request result s).line.addressDiscards = s.line.addressDiscards ∧
      (storeAnswer term request result s).line.sent = s.line.sent ∧
      (storeAnswer term request result s).line.losses = s.line.losses ∧
      (storeAnswer term request result s).line.abandoned = s.line.abandoned ∧
      (storeAnswer term request result s).line.displaced = s.line.displaced ∧
      (storeAnswer term request result s).line.drops = s.line.drops ∧
      (storeAnswer term request result s).line.statusTimer = s.line.statusTimer ∧
      (storeAnswer term request result s).line.joiningTimer = s.line.joiningTimer ∧
      (storeAnswer term request result s).peers = s.peers ∧ (storeAnswer term request result s).claims = s.claims ∧
      (storeAnswer term request result s).bypass = s.bypass ∧ (storeAnswer term request result s).visits = s.visits ∧
      (storeAnswer term request result s).queue = s.queue ∧ (storeAnswer term request result s).monitor = s.monitor ∧
      (storeAnswer term request result s).port = s.port ∧ (storeAnswer term request result s).free = s.free ∧
      (storeAnswer term request result s).pending = s.pending := by
  unfold storeAnswer
  simp

@[simp] theorem replaceTarget_keeps (t : Target) (s : State) :
      (replaceTarget t s).held = s.held ∧ (replaceTarget t s).pins = s.pins ∧ (replaceTarget t s).id = s.id ∧
      (replaceTarget t s).cfg = s.cfg ∧ (replaceTarget t s).clampCount = s.clampCount ∧
      (replaceTarget t s).clock = s.clock ∧ (replaceTarget t s).intake = s.intake ∧
      (replaceTarget t s).accounts.second = s.accounts.second ∧ (replaceTarget t s).stack = s.stack ∧
      (replaceTarget t s).cond.latch = s.cond.latch ∧ (replaceTarget t s).cond.equalizeDue = s.cond.equalizeDue ∧
      (replaceTarget t s).cond.testLatch = s.cond.testLatch ∧ (replaceTarget t s).cond.waiting = s.cond.waiting ∧
      (replaceTarget t s).cond.overdueRaised = s.cond.overdueRaised ∧
      (replaceTarget t s).cond.testSecond = s.cond.testSecond ∧
      (replaceTarget t s).cond.remainingField = s.cond.remainingField ∧ (replaceTarget t s).line = s.line ∧
      (replaceTarget t s).peers = s.peers ∧ (replaceTarget t s).claims = s.claims ∧
      (replaceTarget t s).bypass = s.bypass ∧ (replaceTarget t s).visits = s.visits ∧
      (replaceTarget t s).monitor = s.monitor ∧ (replaceTarget t s).port.writing = s.port.writing ∧
      (replaceTarget t s).port.restartWait = s.port.restartWait ∧ (replaceTarget t s).port.areas = s.port.areas ∧
      (replaceTarget t s).free = s.free ∧ (replaceTarget t s).pending = s.pending := by
  unfold replaceTarget
  (repeat' split) <;> simp

@[simp] theorem doneEffect_keeps (k : ItemKind) (target : Target) (s : State) :
      (doneEffect k target s).held = s.held ∧ (doneEffect k target s).pins = s.pins ∧
      (doneEffect k target s).id = s.id ∧ (doneEffect k target s).cfg = s.cfg ∧
      (doneEffect k target s).clampCount = s.clampCount ∧ (doneEffect k target s).clock = s.clock ∧
      (doneEffect k target s).intake = s.intake ∧ (doneEffect k target s).accounts.second = s.accounts.second ∧
      (doneEffect k target s).stack = s.stack ∧ (doneEffect k target s).cond.latch = s.cond.latch ∧
      (doneEffect k target s).cond.equalizeDue = s.cond.equalizeDue ∧
      (doneEffect k target s).cond.testLatch = s.cond.testLatch ∧
      (doneEffect k target s).cond.waiting = s.cond.waiting ∧
      (doneEffect k target s).cond.overdueRaised = s.cond.overdueRaised ∧
      (doneEffect k target s).cond.testSecond = s.cond.testSecond ∧
      (doneEffect k target s).cond.remainingField = s.cond.remainingField ∧ (doneEffect k target s).line = s.line ∧
      (doneEffect k target s).peers = s.peers ∧ (doneEffect k target s).claims = s.claims ∧
      (doneEffect k target s).bypass.mains = s.bypass.mains ∧
      (doneEffect k target s).bypass.lossTimer = s.bypass.lossTimer ∧
      (doneEffect k target s).bypass.qualTimer = s.bypass.qualTimer ∧
      (doneEffect k target s).bypass.report = s.bypass.report ∧
      (doneEffect k target s).bypass.reportCount = s.bypass.reportCount ∧
      (doneEffect k target s).bypass.position = s.bypass.position ∧
      (doneEffect k target s).bypass.confirmed = s.bypass.confirmed ∧
      (doneEffect k target s).bypass.disagree = s.bypass.disagree ∧
      (doneEffect k target s).bypass.pulse = s.bypass.pulse ∧
      (doneEffect k target s).bypass.waitingPulse = s.bypass.waitingPulse ∧
      (doneEffect k target s).bypass.recovery = s.bypass.recovery ∧ (doneEffect k target s).visits = s.visits ∧
      (doneEffect k target s).monitor.hot = s.monitor.hot ∧
      (doneEffect k target s).monitor.lineErrors = s.monitor.lineErrors ∧
      (doneEffect k target s).port.writing = s.port.writing ∧
      (doneEffect k target s).port.restartWait = s.port.restartWait ∧
      (doneEffect k target s).port.areas = s.port.areas ∧ (doneEffect k target s).free = s.free ∧
      (doneEffect k target s).pending = s.pending := by
  unfold doneEffect
  (repeat' split) <;> simp

@[simp] theorem beginRestart_keeps (s : State) :
      (beginRestart s).held = s.held ∧ (beginRestart s).pins = s.pins ∧ (beginRestart s).id = s.id ∧
      (beginRestart s).cfg = s.cfg ∧ (beginRestart s).clampCount = s.clampCount ∧ (beginRestart s).clock = s.clock ∧
      (beginRestart s).intake = s.intake ∧ (beginRestart s).accounts.strings = s.accounts.strings ∧
      (beginRestart s).accounts.energy = s.accounts.energy ∧ (beginRestart s).stack = s.stack ∧
      (beginRestart s).cond = s.cond ∧ (beginRestart s).line = s.line ∧ (beginRestart s).peers = s.peers ∧
      (beginRestart s).claims = s.claims ∧ (beginRestart s).bypass = s.bypass ∧ (beginRestart s).visits = s.visits ∧
      (beginRestart s).queue = s.queue ∧ (beginRestart s).monitor = s.monitor ∧
      (beginRestart s).port.states = s.port.states ∧ (beginRestart s).port.writing = s.port.writing ∧
      (beginRestart s).port.areas = s.port.areas ∧ (beginRestart s).free = s.free ∧
      (beginRestart s).pending = s.pending := by
  unfold beginRestart
  simp

@[simp] theorem serveRead_keeps (term : Nat) (tag : Byte) (kind index : Nat) (s : State) :
      (serveRead term tag kind index s).held = s.held ∧ (serveRead term tag kind index s).pins = s.pins ∧
      (serveRead term tag kind index s).id = s.id ∧ (serveRead term tag kind index s).cfg = s.cfg ∧
      (serveRead term tag kind index s).clampCount = s.clampCount ∧
      (serveRead term tag kind index s).clock = s.clock ∧ (serveRead term tag kind index s).intake = s.intake ∧
      (serveRead term tag kind index s).accounts = s.accounts ∧ (serveRead term tag kind index s).stack = s.stack ∧
      (serveRead term tag kind index s).cond = s.cond ∧ (serveRead term tag kind index s).line.state = s.line.state ∧
      (serveRead term tag kind index s).line.synchronised = s.line.synchronised ∧
      (serveRead term tag kind index s).line.received = s.line.received ∧
      (serveRead term tag kind index s).line.crcFailures = s.line.crcFailures ∧
      (serveRead term tag kind index s).line.lengthFailures = s.line.lengthFailures ∧
      (serveRead term tag kind index s).line.contentDiscards = s.line.contentDiscards ∧
      (serveRead term tag kind index s).line.addressDiscards = s.line.addressDiscards ∧
      (serveRead term tag kind index s).line.sent = s.line.sent ∧
      (serveRead term tag kind index s).line.losses = s.line.losses ∧
      (serveRead term tag kind index s).line.abandoned = s.line.abandoned ∧
      (serveRead term tag kind index s).line.statusTimer = s.line.statusTimer ∧
      (serveRead term tag kind index s).line.joiningTimer = s.line.joiningTimer ∧
      (serveRead term tag kind index s).line.answers = s.line.answers ∧
      (serveRead term tag kind index s).peers = s.peers ∧ (serveRead term tag kind index s).claims = s.claims ∧
      (serveRead term tag kind index s).bypass = s.bypass ∧ (serveRead term tag kind index s).visits = s.visits ∧
      (serveRead term tag kind index s).queue = s.queue ∧ (serveRead term tag kind index s).monitor = s.monitor ∧
      (serveRead term tag kind index s).port = s.port ∧ (serveRead term tag kind index s).free = s.free ∧
      (serveRead term tag kind index s).pending = s.pending := by
  unfold serveRead
  split
  · simp
  · simp
  · simp
  refine foldl_inv (P := fun t =>
    t.held = s.held ∧ t.pins = s.pins ∧ t.id = s.id ∧ t.cfg = s.cfg ∧ t.clampCount = s.clampCount ∧
    t.clock = s.clock ∧ t.intake = s.intake ∧ t.accounts = s.accounts ∧ t.stack = s.stack ∧ t.cond = s.cond ∧
    t.line.state = s.line.state ∧ t.line.synchronised = s.line.synchronised ∧ t.line.received = s.line.received ∧
    t.line.crcFailures = s.line.crcFailures ∧ t.line.lengthFailures = s.line.lengthFailures ∧
    t.line.contentDiscards = s.line.contentDiscards ∧ t.line.addressDiscards = s.line.addressDiscards ∧
    t.line.sent = s.line.sent ∧ t.line.losses = s.line.losses ∧ t.line.abandoned = s.line.abandoned ∧
    t.line.statusTimer = s.line.statusTimer ∧ t.line.joiningTimer = s.line.joiningTimer ∧
    t.line.answers = s.line.answers ∧ t.peers = s.peers ∧ t.claims = s.claims ∧ t.bypass = s.bypass ∧
    t.visits = s.visits ∧ t.queue = s.queue ∧ t.monitor = s.monitor ∧ t.port = s.port ∧ t.free = s.free ∧
    t.pending = s.pending) _ ?_ _ _ ?_
  · intro t a h
    simp [h]
  · simp

@[simp] theorem sampleAccounts_keeps (bs : List BurstString) (s : State) :
      (sampleAccounts bs s).held = s.held ∧ (sampleAccounts bs s).pins = s.pins ∧ (sampleAccounts bs s).id = s.id ∧
      (sampleAccounts bs s).cfg = s.cfg ∧ (sampleAccounts bs s).clampCount = s.clampCount ∧
      (sampleAccounts bs s).clock = s.clock ∧ (sampleAccounts bs s).intake = s.intake ∧
      (sampleAccounts bs s).accounts.second = s.accounts.second ∧ (sampleAccounts bs s).stack = s.stack ∧
      (sampleAccounts bs s).cond.equalizeDue = s.cond.equalizeDue ∧
      (sampleAccounts bs s).cond.testLatch = s.cond.testLatch ∧ (sampleAccounts bs s).cond.testDue = s.cond.testDue ∧
      (sampleAccounts bs s).cond.waiting = s.cond.waiting ∧
      (sampleAccounts bs s).cond.overdueRaised = s.cond.overdueRaised ∧
      (sampleAccounts bs s).cond.testSecond = s.cond.testSecond ∧
      (sampleAccounts bs s).cond.remainingField = s.cond.remainingField ∧ (sampleAccounts bs s).line = s.line ∧
      (sampleAccounts bs s).peers = s.peers ∧ (sampleAccounts bs s).claims = s.claims ∧
      (sampleAccounts bs s).bypass = s.bypass ∧ (sampleAccounts bs s).visits = s.visits ∧
      (sampleAccounts bs s).monitor = s.monitor ∧ (sampleAccounts bs s).port.writing = s.port.writing ∧
      (sampleAccounts bs s).port.restartWait = s.port.restartWait ∧ (sampleAccounts bs s).port.areas = s.port.areas ∧
      (sampleAccounts bs s).free = s.free ∧ (sampleAccounts bs s).pending = s.pending := by
  unfold sampleAccounts
  refine foldl_inv (P := fun t =>
    t.held = s.held ∧ t.pins = s.pins ∧ t.id = s.id ∧ t.cfg = s.cfg ∧ t.clampCount = s.clampCount ∧
    t.clock = s.clock ∧ t.intake = s.intake ∧ t.accounts.second = s.accounts.second ∧ t.stack = s.stack ∧
    t.cond.equalizeDue = s.cond.equalizeDue ∧ t.cond.testLatch = s.cond.testLatch ∧ t.cond.testDue = s.cond.testDue ∧
    t.cond.waiting = s.cond.waiting ∧ t.cond.overdueRaised = s.cond.overdueRaised ∧
    t.cond.testSecond = s.cond.testSecond ∧ t.cond.remainingField = s.cond.remainingField ∧ t.line = s.line ∧
    t.peers = s.peers ∧ t.claims = s.claims ∧ t.bypass = s.bypass ∧ t.visits = s.visits ∧ t.monitor = s.monitor ∧
    t.port.writing = s.port.writing ∧ t.port.restartWait = s.port.restartWait ∧ t.port.areas = s.port.areas ∧
    t.free = s.free ∧ t.pending = s.pending) _ ?_ _ _ ?_
  · intro t a h
    simp [h]
  · simp

@[simp] theorem sampleHot_keeps (bs : List BurstString) (s : State) :
      (sampleHot bs s).held = s.held ∧ (sampleHot bs s).pins = s.pins ∧ (sampleHot bs s).id = s.id ∧
      (sampleHot bs s).cfg = s.cfg ∧ (sampleHot bs s).clampCount = s.clampCount ∧ (sampleHot bs s).clock = s.clock ∧
      (sampleHot bs s).intake = s.intake ∧ (sampleHot bs s).accounts = s.accounts ∧
      (sampleHot bs s).stack = s.stack ∧ (sampleHot bs s).cond = s.cond ∧ (sampleHot bs s).line = s.line ∧
      (sampleHot bs s).peers = s.peers ∧ (sampleHot bs s).claims = s.claims ∧ (sampleHot bs s).bypass = s.bypass ∧
      (sampleHot bs s).visits = s.visits ∧ (sampleHot bs s).queue = s.queue ∧
      (sampleHot bs s).monitor.active = s.monitor.active ∧
      (sampleHot bs s).monitor.lineErrors = s.monitor.lineErrors ∧ (sampleHot bs s).port = s.port ∧
      (sampleHot bs s).free = s.free ∧ (sampleHot bs s).pending = s.pending := by
  unfold sampleHot
  simp

@[simp] theorem changeTest_keeps (qs : List TestString) (s : State) :
      (changeTest qs s).held = s.held ∧ (changeTest qs s).pins = s.pins ∧ (changeTest qs s).id = s.id ∧
      (changeTest qs s).cfg = s.cfg ∧ (changeTest qs s).clampCount = s.clampCount ∧
      (changeTest qs s).clock = s.clock ∧ (changeTest qs s).intake = s.intake ∧
      (changeTest qs s).accounts = s.accounts ∧
      (changeTest qs s).stack.dischargeDeferred = s.stack.dischargeDeferred ∧
      (changeTest qs s).stack.withdrawalDeferred = s.stack.withdrawalDeferred ∧
      (changeTest qs s).stack.settle = s.stack.settle ∧ (changeTest qs s).cond = s.cond ∧
      (changeTest qs s).line = s.line ∧ (changeTest qs s).peers = s.peers ∧ (changeTest qs s).claims = s.claims ∧
      (changeTest qs s).bypass = s.bypass ∧ (changeTest qs s).visits = s.visits ∧ (changeTest qs s).queue = s.queue ∧
      (changeTest qs s).monitor = s.monitor ∧ (changeTest qs s).port = s.port ∧ (changeTest qs s).free = s.free ∧
      (changeTest qs s).pending = s.pending := by
  unfold changeTest
  simp

@[simp] theorem sampleTest_keeps (bs : List BurstString) (s : State) :
      (sampleTest bs s).held = s.held ∧ (sampleTest bs s).pins = s.pins ∧ (sampleTest bs s).id = s.id ∧
      (sampleTest bs s).cfg = s.cfg ∧ (sampleTest bs s).clampCount = s.clampCount ∧
      (sampleTest bs s).clock = s.clock ∧ (sampleTest bs s).intake = s.intake ∧
      (sampleTest bs s).accounts.second = s.accounts.second ∧
      (sampleTest bs s).stack.dischargeDeferred = s.stack.dischargeDeferred ∧
      (sampleTest bs s).stack.withdrawalDeferred = s.stack.withdrawalDeferred ∧
      (sampleTest bs s).cond.latch = s.cond.latch ∧ (sampleTest bs s).cond.equalizeDue = s.cond.equalizeDue ∧
      (sampleTest bs s).cond.waiting = s.cond.waiting ∧
      (sampleTest bs s).cond.remainingField = s.cond.remainingField ∧ (sampleTest bs s).line.state = s.line.state ∧
      (sampleTest bs s).line.synchronised = s.line.synchronised ∧ (sampleTest bs s).line.received = s.line.received ∧
      (sampleTest bs s).line.crcFailures = s.line.crcFailures ∧
      (sampleTest bs s).line.lengthFailures = s.line.lengthFailures ∧
      (sampleTest bs s).line.contentDiscards = s.line.contentDiscards ∧
      (sampleTest bs s).line.addressDiscards = s.line.addressDiscards ∧ (sampleTest bs s).line.sent = s.line.sent ∧
      (sampleTest bs s).line.losses = s.line.losses ∧ (sampleTest bs s).line.abandoned = s.line.abandoned ∧
      (sampleTest bs s).line.statusTimer = s.line.statusTimer ∧
      (sampleTest bs s).line.joiningTimer = s.line.joiningTimer ∧ (sampleTest bs s).line.answers = s.line.answers ∧
      (sampleTest bs s).peers = s.peers ∧ (sampleTest bs s).claims.consent = s.claims.consent ∧
      (sampleTest bs s).claims.last = s.claims.last ∧ (sampleTest bs s).claims.lastKind = s.claims.lastKind ∧
      (sampleTest bs s).claims.latch = s.claims.latch ∧ (sampleTest bs s).bypass = s.bypass ∧
      (sampleTest bs s).visits = s.visits ∧ (sampleTest bs s).monitor = s.monitor ∧
      (sampleTest bs s).port.writing = s.port.writing ∧ (sampleTest bs s).port.restartWait = s.port.restartWait ∧
      (sampleTest bs s).port.areas = s.port.areas ∧ (sampleTest bs s).free = s.free ∧
      (sampleTest bs s).pending = s.pending := by
  unfold sampleTest
  dsimp only
  (repeat' split) <;> simp

@[simp] theorem abortBeforeSample_keeps (bs : List BurstString) (s : State) :
      (abortBeforeSample bs s).held = s.held ∧ (abortBeforeSample bs s).pins = s.pins ∧ (abortBeforeSample bs s).id = s.id ∧
      (abortBeforeSample bs s).cfg = s.cfg ∧ (abortBeforeSample bs s).clampCount = s.clampCount ∧
      (abortBeforeSample bs s).clock = s.clock ∧ (abortBeforeSample bs s).intake = s.intake ∧
      (abortBeforeSample bs s).accounts = s.accounts ∧
      (abortBeforeSample bs s).stack.dischargeDeferred = s.stack.dischargeDeferred ∧
      (abortBeforeSample bs s).stack.withdrawalDeferred = s.stack.withdrawalDeferred ∧
      (abortBeforeSample bs s).cond.equalizeDue = s.cond.equalizeDue ∧ (abortBeforeSample bs s).cond.testLatch = s.cond.testLatch ∧
      (abortBeforeSample bs s).cond.testDue = s.cond.testDue ∧ (abortBeforeSample bs s).cond.waiting = s.cond.waiting ∧
      (abortBeforeSample bs s).cond.overdueRaised = s.cond.overdueRaised ∧
      (abortBeforeSample bs s).cond.testSecond = s.cond.testSecond ∧ (abortBeforeSample bs s).line.state = s.line.state ∧
      (abortBeforeSample bs s).line.synchronised = s.line.synchronised ∧ (abortBeforeSample bs s).line.received = s.line.received ∧
      (abortBeforeSample bs s).line.crcFailures = s.line.crcFailures ∧
      (abortBeforeSample bs s).line.lengthFailures = s.line.lengthFailures ∧
      (abortBeforeSample bs s).line.contentDiscards = s.line.contentDiscards ∧
      (abortBeforeSample bs s).line.addressDiscards = s.line.addressDiscards ∧ (abortBeforeSample bs s).line.sent = s.line.sent ∧
      (abortBeforeSample bs s).line.losses = s.line.losses ∧ (abortBeforeSample bs s).line.abandoned = s.line.abandoned ∧
      (abortBeforeSample bs s).line.displaced = s.line.displaced ∧ (abortBeforeSample bs s).line.drops = s.line.drops ∧
      (abortBeforeSample bs s).line.statusTimer = s.line.statusTimer ∧
      (abortBeforeSample bs s).line.joiningTimer = s.line.joiningTimer ∧ (abortBeforeSample bs s).line.answers = s.line.answers ∧
      (abortBeforeSample bs s).peers = s.peers ∧ (abortBeforeSample bs s).claims = s.claims ∧ (abortBeforeSample bs s).bypass = s.bypass ∧
      (abortBeforeSample bs s).visits = s.visits ∧ (abortBeforeSample bs s).queue = s.queue ∧
      (abortBeforeSample bs s).monitor = s.monitor ∧ (abortBeforeSample bs s).port.list = s.port.list ∧
      (abortBeforeSample bs s).port.writing = s.port.writing ∧ (abortBeforeSample bs s).port.restartWait = s.port.restartWait ∧
      (abortBeforeSample bs s).port.areas = s.port.areas ∧ (abortBeforeSample bs s).pending = s.pending := by
  unfold abortBeforeSample
  dsimp only
  (repeat' split) <;> simp

@[simp] theorem commitBeforeSample_keeps (bs : List BurstString) (s : State) :
      (commitBeforeSample bs s).held = s.held ∧ (commitBeforeSample bs s).pins = s.pins ∧
      (commitBeforeSample bs s).id = s.id ∧ (commitBeforeSample bs s).cfg = s.cfg ∧
      (commitBeforeSample bs s).clampCount = s.clampCount ∧ (commitBeforeSample bs s).clock = s.clock ∧
      (commitBeforeSample bs s).intake = s.intake ∧ (commitBeforeSample bs s).accounts = s.accounts ∧
      (commitBeforeSample bs s).stack.dischargeDeferred = s.stack.dischargeDeferred ∧
      (commitBeforeSample bs s).stack.withdrawalDeferred = s.stack.withdrawalDeferred ∧
      (commitBeforeSample bs s).stack.settle = s.stack.settle ∧ (commitBeforeSample bs s).cond.latch = s.cond.latch ∧
      (commitBeforeSample bs s).cond.equalizeDue = s.cond.equalizeDue ∧
      (commitBeforeSample bs s).cond.testLatch = s.cond.testLatch ∧
      (commitBeforeSample bs s).cond.testDue = s.cond.testDue ∧
      (commitBeforeSample bs s).cond.waiting = s.cond.waiting ∧
      (commitBeforeSample bs s).cond.overdueRaised = s.cond.overdueRaised ∧
      (commitBeforeSample bs s).cond.remainingField = s.cond.remainingField ∧
      (commitBeforeSample bs s).line.state = s.line.state ∧
      (commitBeforeSample bs s).line.synchronised = s.line.synchronised ∧
      (commitBeforeSample bs s).line.received = s.line.received ∧
      (commitBeforeSample bs s).line.crcFailures = s.line.crcFailures ∧
      (commitBeforeSample bs s).line.lengthFailures = s.line.lengthFailures ∧
      (commitBeforeSample bs s).line.contentDiscards = s.line.contentDiscards ∧
      (commitBeforeSample bs s).line.addressDiscards = s.line.addressDiscards ∧
      (commitBeforeSample bs s).line.sent = s.line.sent ∧ (commitBeforeSample bs s).line.losses = s.line.losses ∧
      (commitBeforeSample bs s).line.abandoned = s.line.abandoned ∧
      (commitBeforeSample bs s).line.statusTimer = s.line.statusTimer ∧
      (commitBeforeSample bs s).line.joiningTimer = s.line.joiningTimer ∧
      (commitBeforeSample bs s).line.answers = s.line.answers ∧ (commitBeforeSample bs s).peers = s.peers ∧
      (commitBeforeSample bs s).claims.consent = s.claims.consent ∧
      (commitBeforeSample bs s).bypass.mains = s.bypass.mains ∧
      (commitBeforeSample bs s).bypass.lossTimer = s.bypass.lossTimer ∧
      (commitBeforeSample bs s).bypass.qualTimer = s.bypass.qualTimer ∧
      (commitBeforeSample bs s).bypass.report = s.bypass.report ∧
      (commitBeforeSample bs s).bypass.reportCount = s.bypass.reportCount ∧
      (commitBeforeSample bs s).bypass.position = s.bypass.position ∧
      (commitBeforeSample bs s).bypass.confirmed = s.bypass.confirmed ∧
      (commitBeforeSample bs s).bypass.disagree = s.bypass.disagree ∧
      (commitBeforeSample bs s).bypass.recovery = s.bypass.recovery ∧
      (commitBeforeSample bs s).bypass.staticCount = s.bypass.staticCount ∧
      (commitBeforeSample bs s).bypass.breakerCount = s.bypass.breakerCount ∧
      (commitBeforeSample bs s).visits.history = s.visits.history ∧
      (commitBeforeSample bs s).visits.counter = s.visits.counter ∧
      (commitBeforeSample bs s).visits.overdueTimer = s.visits.overdueTimer ∧
      (commitBeforeSample bs s).visits.stable = s.visits.stable ∧
      (commitBeforeSample bs s).visits.settleTimer = s.visits.settleTimer ∧
      (commitBeforeSample bs s).visits.requestHeld = s.visits.requestHeld ∧
      (commitBeforeSample bs s).queue = s.queue ∧ (commitBeforeSample bs s).monitor.hot = s.monitor.hot ∧
      (commitBeforeSample bs s).monitor.lineErrors = s.monitor.lineErrors ∧ (commitBeforeSample bs s).port = s.port ∧
      (commitBeforeSample bs s).pending = s.pending := by
  unfold commitBeforeSample
  dsimp only
  (repeat' split) <;> simp

@[simp] theorem sampleTestAndHot_keeps (bs : List BurstString) (s : State) :
      (sampleTestAndHot bs s).held = s.held ∧ (sampleTestAndHot bs s).pins = s.pins ∧
      (sampleTestAndHot bs s).id = s.id ∧ (sampleTestAndHot bs s).cfg = s.cfg ∧
      (sampleTestAndHot bs s).clampCount = s.clampCount ∧ (sampleTestAndHot bs s).clock = s.clock ∧
      (sampleTestAndHot bs s).intake = s.intake ∧ (sampleTestAndHot bs s).accounts.second = s.accounts.second ∧
      (sampleTestAndHot bs s).stack.dischargeDeferred = s.stack.dischargeDeferred ∧
      (sampleTestAndHot bs s).stack.withdrawalDeferred = s.stack.withdrawalDeferred ∧
      (sampleTestAndHot bs s).cond.latch = s.cond.latch ∧
      (sampleTestAndHot bs s).cond.equalizeDue = s.cond.equalizeDue ∧
      (sampleTestAndHot bs s).cond.waiting = s.cond.waiting ∧
      (sampleTestAndHot bs s).cond.remainingField = s.cond.remainingField ∧
      (sampleTestAndHot bs s).line.state = s.line.state ∧
      (sampleTestAndHot bs s).line.synchronised = s.line.synchronised ∧
      (sampleTestAndHot bs s).line.received = s.line.received ∧
      (sampleTestAndHot bs s).line.crcFailures = s.line.crcFailures ∧
      (sampleTestAndHot bs s).line.lengthFailures = s.line.lengthFailures ∧
      (sampleTestAndHot bs s).line.contentDiscards = s.line.contentDiscards ∧
      (sampleTestAndHot bs s).line.addressDiscards = s.line.addressDiscards ∧
      (sampleTestAndHot bs s).line.sent = s.line.sent ∧ (sampleTestAndHot bs s).line.losses = s.line.losses ∧
      (sampleTestAndHot bs s).line.abandoned = s.line.abandoned ∧
      (sampleTestAndHot bs s).line.statusTimer = s.line.statusTimer ∧
      (sampleTestAndHot bs s).line.joiningTimer = s.line.joiningTimer ∧
      (sampleTestAndHot bs s).line.answers = s.line.answers ∧ (sampleTestAndHot bs s).peers = s.peers ∧
      (sampleTestAndHot bs s).claims.consent = s.claims.consent ∧
      (sampleTestAndHot bs s).claims.last = s.claims.last ∧
      (sampleTestAndHot bs s).claims.lastKind = s.claims.lastKind ∧
      (sampleTestAndHot bs s).claims.latch = s.claims.latch ∧ (sampleTestAndHot bs s).bypass = s.bypass ∧
      (sampleTestAndHot bs s).visits = s.visits ∧ (sampleTestAndHot bs s).monitor.active = s.monitor.active ∧
      (sampleTestAndHot bs s).monitor.lineErrors = s.monitor.lineErrors ∧
      (sampleTestAndHot bs s).port.writing = s.port.writing ∧
      (sampleTestAndHot bs s).port.restartWait = s.port.restartWait ∧
      (sampleTestAndHot bs s).port.areas = s.port.areas ∧ (sampleTestAndHot bs s).pending = s.pending := by
  unfold sampleTestAndHot
  dsimp only
  (repeat' split) <;> simp

@[simp] theorem startBeforeAccounts_keeps (bs : List BurstString) (s : State) :
      (startBeforeAccounts bs s).held = s.held ∧ (startBeforeAccounts bs s).pins = s.pins ∧
      (startBeforeAccounts bs s).id = s.id ∧ (startBeforeAccounts bs s).cfg = s.cfg ∧
      (startBeforeAccounts bs s).clampCount = s.clampCount ∧ (startBeforeAccounts bs s).clock = s.clock ∧
      (startBeforeAccounts bs s).intake = s.intake ∧ (startBeforeAccounts bs s).accounts = s.accounts ∧
      (startBeforeAccounts bs s).stack.dischargeDeferred = s.stack.dischargeDeferred ∧
      (startBeforeAccounts bs s).stack.withdrawalDeferred = s.stack.withdrawalDeferred ∧
      (startBeforeAccounts bs s).stack.settle = s.stack.settle ∧
      (startBeforeAccounts bs s).cond.equalizeDue = s.cond.equalizeDue ∧
      (startBeforeAccounts bs s).cond.testLatch = s.cond.testLatch ∧
      (startBeforeAccounts bs s).cond.testDue = s.cond.testDue ∧
      (startBeforeAccounts bs s).cond.waiting = s.cond.waiting ∧
      (startBeforeAccounts bs s).cond.overdueRaised = s.cond.overdueRaised ∧
      (startBeforeAccounts bs s).cond.testSecond = s.cond.testSecond ∧ (startBeforeAccounts bs s).line = s.line ∧
      (startBeforeAccounts bs s).peers = s.peers ∧ (startBeforeAccounts bs s).claims = s.claims ∧
      (startBeforeAccounts bs s).bypass = s.bypass ∧ (startBeforeAccounts bs s).visits = s.visits ∧
      (startBeforeAccounts bs s).queue = s.queue ∧ (startBeforeAccounts bs s).monitor = s.monitor ∧
      (startBeforeAccounts bs s).port.list = s.port.list ∧ (startBeforeAccounts bs s).port.writing = s.port.writing ∧
      (startBeforeAccounts bs s).port.restartWait = s.port.restartWait ∧
      (startBeforeAccounts bs s).port.areas = s.port.areas ∧ (startBeforeAccounts bs s).pending = s.pending := by
  unfold startBeforeAccounts
  dsimp only
  (repeat' split) <;> simp

@[simp] theorem sampleReceivers_keeps (bs : List BurstString) (s : State) :
      (sampleReceivers bs s).held = s.held ∧ (sampleReceivers bs s).pins = s.pins ∧
      (sampleReceivers bs s).id = s.id ∧ (sampleReceivers bs s).cfg = s.cfg ∧
      (sampleReceivers bs s).clampCount = s.clampCount ∧ (sampleReceivers bs s).clock = s.clock ∧
      (sampleReceivers bs s).intake = s.intake ∧ (sampleReceivers bs s).accounts.second = s.accounts.second ∧
      (sampleReceivers bs s).stack.dischargeDeferred = s.stack.dischargeDeferred ∧
      (sampleReceivers bs s).stack.withdrawalDeferred = s.stack.withdrawalDeferred ∧
      (sampleReceivers bs s).cond.equalizeDue = s.cond.equalizeDue ∧
      (sampleReceivers bs s).cond.waiting = s.cond.waiting ∧
      (sampleReceivers bs s).line.state = s.line.state ∧
      (sampleReceivers bs s).line.synchronised = s.line.synchronised ∧
      (sampleReceivers bs s).line.received = s.line.received ∧
      (sampleReceivers bs s).line.crcFailures = s.line.crcFailures ∧
      (sampleReceivers bs s).line.lengthFailures = s.line.lengthFailures ∧
      (sampleReceivers bs s).line.contentDiscards = s.line.contentDiscards ∧
      (sampleReceivers bs s).line.addressDiscards = s.line.addressDiscards ∧
      (sampleReceivers bs s).line.sent = s.line.sent ∧ (sampleReceivers bs s).line.losses = s.line.losses ∧
      (sampleReceivers bs s).line.abandoned = s.line.abandoned ∧
      (sampleReceivers bs s).line.statusTimer = s.line.statusTimer ∧
      (sampleReceivers bs s).line.joiningTimer = s.line.joiningTimer ∧
      (sampleReceivers bs s).line.answers = s.line.answers ∧ (sampleReceivers bs s).peers = s.peers ∧
      (sampleReceivers bs s).claims.consent = s.claims.consent ∧
      (sampleReceivers bs s).claims.last = s.claims.last ∧
      (sampleReceivers bs s).claims.lastKind = s.claims.lastKind ∧
      (sampleReceivers bs s).claims.latch = s.claims.latch ∧ (sampleReceivers bs s).bypass = s.bypass ∧
      (sampleReceivers bs s).visits = s.visits ∧ (sampleReceivers bs s).monitor.active = s.monitor.active ∧
      (sampleReceivers bs s).monitor.lineErrors = s.monitor.lineErrors ∧
      (sampleReceivers bs s).port.writing = s.port.writing ∧
      (sampleReceivers bs s).port.restartWait = s.port.restartWait ∧
      (sampleReceivers bs s).port.areas = s.port.areas ∧ (sampleReceivers bs s).pending = s.pending := by
  unfold sampleReceivers
  dsimp only
  (repeat' split) <;> simp

@[simp] theorem raiseSensorChecks_keeps (k : Intake) (s : State) :
      (raiseSensorChecks k s).held = s.held ∧ (raiseSensorChecks k s).pins = s.pins ∧
      (raiseSensorChecks k s).id = s.id ∧ (raiseSensorChecks k s).cfg = s.cfg ∧
      (raiseSensorChecks k s).clampCount = s.clampCount ∧ (raiseSensorChecks k s).clock = s.clock ∧
      (raiseSensorChecks k s).intake = s.intake ∧ (raiseSensorChecks k s).accounts = s.accounts ∧
      (raiseSensorChecks k s).stack = s.stack ∧ (raiseSensorChecks k s).cond = s.cond ∧
      (raiseSensorChecks k s).line = s.line ∧ (raiseSensorChecks k s).peers = s.peers ∧
      (raiseSensorChecks k s).claims = s.claims ∧ (raiseSensorChecks k s).bypass = s.bypass ∧
      (raiseSensorChecks k s).visits = s.visits ∧ (raiseSensorChecks k s).monitor = s.monitor ∧
      (raiseSensorChecks k s).port.writing = s.port.writing ∧
      (raiseSensorChecks k s).port.restartWait = s.port.restartWait ∧
      (raiseSensorChecks k s).port.areas = s.port.areas ∧ (raiseSensorChecks k s).free = s.free ∧
      (raiseSensorChecks k s).pending = s.pending := by
  unfold raiseSensorChecks
  dsimp only
  have h := foldl_inv (P := fun t =>
    t.held = s.held ∧ t.pins = s.pins ∧ t.id = s.id ∧ t.cfg = s.cfg ∧ t.clampCount = s.clampCount ∧
    t.clock = s.clock ∧ t.intake = s.intake ∧ t.accounts = s.accounts ∧ t.stack = s.stack ∧ t.cond = s.cond ∧
    t.line = s.line ∧ t.peers = s.peers ∧ t.claims = s.claims ∧ t.bypass = s.bypass ∧ t.visits = s.visits ∧
    t.monitor = s.monitor ∧ t.port.writing = s.port.writing ∧ t.port.restartWait = s.port.restartWait ∧
    t.port.areas = s.port.areas ∧ t.free = s.free ∧ t.pending = s.pending)
    (fun t i => raiseItem .sensorCheck (.string i) 2 t) (fun t i h => by simp [h]) (enteringLost k.readings) s (by simp)
  split <;> simp [h]


@[simp] theorem wearAll_keeps (s : State) :
      (wearAll s).held = s.held ∧ (wearAll s).pins = s.pins ∧ (wearAll s).id = s.id ∧ (wearAll s).cfg = s.cfg ∧
      (wearAll s).clampCount = s.clampCount ∧ (wearAll s).clock = s.clock ∧ (wearAll s).intake = s.intake ∧
      (wearAll s).accounts.second = s.accounts.second ∧ (wearAll s).stack = s.stack ∧ (wearAll s).cond = s.cond ∧
      (wearAll s).line = s.line ∧ (wearAll s).peers = s.peers ∧ (wearAll s).claims = s.claims ∧
      (wearAll s).bypass = s.bypass ∧ (wearAll s).visits = s.visits ∧ (wearAll s).monitor = s.monitor ∧
      (wearAll s).port.writing = s.port.writing ∧ (wearAll s).port.restartWait = s.port.restartWait ∧
      (wearAll s).port.areas = s.port.areas ∧ (wearAll s).free = s.free ∧ (wearAll s).pending = s.pending := by
  unfold wearAll
  refine foldl_inv (P := fun t =>
    t.held = s.held ∧ t.pins = s.pins ∧ t.id = s.id ∧ t.cfg = s.cfg ∧ t.clampCount = s.clampCount ∧
    t.clock = s.clock ∧ t.intake = s.intake ∧ t.accounts.second = s.accounts.second ∧ t.stack = s.stack ∧
    t.cond = s.cond ∧ t.line = s.line ∧ t.peers = s.peers ∧ t.claims = s.claims ∧ t.bypass = s.bypass ∧
    t.visits = s.visits ∧ t.monitor = s.monitor ∧ t.port.writing = s.port.writing ∧
    t.port.restartWait = s.port.restartWait ∧ t.port.areas = s.port.areas ∧ t.free = s.free ∧ t.pending = s.pending) _ ?_ _ _ ?_
  · intro t a h
    simp [h]
  · simp

@[simp] theorem equalizeMinute_keeps (f : EqualizeFrame) (rest : List Frame) (s : State) :
      (equalizeMinute f rest s).held = s.held ∧ (equalizeMinute f rest s).pins = s.pins ∧
      (equalizeMinute f rest s).id = s.id ∧ (equalizeMinute f rest s).cfg = s.cfg ∧
      (equalizeMinute f rest s).clampCount = s.clampCount ∧ (equalizeMinute f rest s).clock = s.clock ∧
      (equalizeMinute f rest s).intake = s.intake ∧ (equalizeMinute f rest s).accounts = s.accounts ∧
      (equalizeMinute f rest s).stack.dischargeDeferred = s.stack.dischargeDeferred ∧
      (equalizeMinute f rest s).stack.withdrawalDeferred = s.stack.withdrawalDeferred ∧
      (equalizeMinute f rest s).cond.testLatch = s.cond.testLatch ∧
      (equalizeMinute f rest s).cond.testDue = s.cond.testDue ∧
      (equalizeMinute f rest s).cond.waiting = s.cond.waiting ∧
      (equalizeMinute f rest s).cond.overdueRaised = s.cond.overdueRaised ∧
      (equalizeMinute f rest s).cond.testSecond = s.cond.testSecond ∧
      (equalizeMinute f rest s).line.state = s.line.state ∧
      (equalizeMinute f rest s).line.synchronised = s.line.synchronised ∧
      (equalizeMinute f rest s).line.received = s.line.received ∧
      (equalizeMinute f rest s).line.crcFailures = s.line.crcFailures ∧
      (equalizeMinute f rest s).line.lengthFailures = s.line.lengthFailures ∧
      (equalizeMinute f rest s).line.contentDiscards = s.line.contentDiscards ∧
      (equalizeMinute f rest s).line.addressDiscards = s.line.addressDiscards ∧
      (equalizeMinute f rest s).line.sent = s.line.sent ∧ (equalizeMinute f rest s).line.losses = s.line.losses ∧
      (equalizeMinute f rest s).line.abandoned = s.line.abandoned ∧
      (equalizeMinute f rest s).line.displaced = s.line.displaced ∧
      (equalizeMinute f rest s).line.drops = s.line.drops ∧
      (equalizeMinute f rest s).line.statusTimer = s.line.statusTimer ∧
      (equalizeMinute f rest s).line.joiningTimer = s.line.joiningTimer ∧
      (equalizeMinute f rest s).line.answers = s.line.answers ∧ (equalizeMinute f rest s).peers = s.peers ∧
      (equalizeMinute f rest s).claims = s.claims ∧ (equalizeMinute f rest s).bypass = s.bypass ∧
      (equalizeMinute f rest s).visits = s.visits ∧ (equalizeMinute f rest s).queue = s.queue ∧
      (equalizeMinute f rest s).monitor = s.monitor ∧ (equalizeMinute f rest s).port.list = s.port.list ∧
      (equalizeMinute f rest s).port.writing = s.port.writing ∧
      (equalizeMinute f rest s).port.restartWait = s.port.restartWait ∧
      (equalizeMinute f rest s).port.areas = s.port.areas ∧ (equalizeMinute f rest s).free = s.free ∧
      (equalizeMinute f rest s).pending = s.pending := by
  unfold equalizeMinute
  (repeat' split) <;> simp

@[simp] theorem ageTest_keeps (s : State) :
      (ageTest s).held = s.held ∧ (ageTest s).pins = s.pins ∧ (ageTest s).id = s.id ∧ (ageTest s).cfg = s.cfg ∧
      (ageTest s).clampCount = s.clampCount ∧ (ageTest s).clock = s.clock ∧ (ageTest s).intake = s.intake ∧
      (ageTest s).accounts = s.accounts ∧ (ageTest s).stack.dischargeDeferred = s.stack.dischargeDeferred ∧
      (ageTest s).stack.withdrawalDeferred = s.stack.withdrawalDeferred ∧ (ageTest s).stack.settle = s.stack.settle ∧
      (ageTest s).cond = s.cond ∧ (ageTest s).line = s.line ∧ (ageTest s).peers = s.peers ∧
      (ageTest s).claims = s.claims ∧ (ageTest s).bypass = s.bypass ∧ (ageTest s).visits = s.visits ∧
      (ageTest s).queue = s.queue ∧ (ageTest s).monitor = s.monitor ∧ (ageTest s).port = s.port ∧
      (ageTest s).free = s.free ∧ (ageTest s).pending = s.pending := by
  unfold ageTest
  simp

@[simp] theorem setTx_keeps (tx : List TxFrame) (s : State) :
      (setTx tx s).held = s.held ∧ (setTx tx s).pins = s.pins ∧ (setTx tx s).id = s.id ∧ (setTx tx s).cfg = s.cfg ∧
      (setTx tx s).clampCount = s.clampCount ∧ (setTx tx s).clock = s.clock ∧ (setTx tx s).intake = s.intake ∧
      (setTx tx s).accounts = s.accounts ∧ (setTx tx s).stack = s.stack ∧ (setTx tx s).cond = s.cond ∧
      (setTx tx s).line.state = s.line.state ∧ (setTx tx s).line.synchronised = s.line.synchronised ∧
      (setTx tx s).line.received = s.line.received ∧ (setTx tx s).line.crcFailures = s.line.crcFailures ∧
      (setTx tx s).line.lengthFailures = s.line.lengthFailures ∧
      (setTx tx s).line.contentDiscards = s.line.contentDiscards ∧
      (setTx tx s).line.addressDiscards = s.line.addressDiscards ∧ (setTx tx s).line.sent = s.line.sent ∧
      (setTx tx s).line.losses = s.line.losses ∧ (setTx tx s).line.abandoned = s.line.abandoned ∧
      (setTx tx s).line.displaced = s.line.displaced ∧ (setTx tx s).line.drops = s.line.drops ∧
      (setTx tx s).line.statusTimer = s.line.statusTimer ∧ (setTx tx s).line.joiningTimer = s.line.joiningTimer ∧
      (setTx tx s).line.answers = s.line.answers ∧ (setTx tx s).peers = s.peers ∧ (setTx tx s).claims = s.claims ∧
      (setTx tx s).bypass = s.bypass ∧ (setTx tx s).visits = s.visits ∧ (setTx tx s).queue = s.queue ∧
      (setTx tx s).monitor = s.monitor ∧ (setTx tx s).port = s.port ∧ (setTx tx s).free = s.free ∧
      (setTx tx s).pending = s.pending := by
  unfold setTx
  simp

@[simp] theorem startFrame_keeps (s : State) :
      (startFrame s).held = s.held ∧ (startFrame s).pins = s.pins ∧ (startFrame s).id = s.id ∧
      (startFrame s).cfg = s.cfg ∧ (startFrame s).clampCount = s.clampCount ∧ (startFrame s).clock = s.clock ∧
      (startFrame s).intake = s.intake ∧ (startFrame s).accounts = s.accounts ∧ (startFrame s).stack = s.stack ∧
      (startFrame s).cond = s.cond ∧ (startFrame s).line.state = s.line.state ∧
      (startFrame s).line.synchronised = s.line.synchronised ∧ (startFrame s).line.received = s.line.received ∧
      (startFrame s).line.crcFailures = s.line.crcFailures ∧
      (startFrame s).line.lengthFailures = s.line.lengthFailures ∧
      (startFrame s).line.contentDiscards = s.line.contentDiscards ∧
      (startFrame s).line.addressDiscards = s.line.addressDiscards ∧ (startFrame s).line.sent = s.line.sent ∧
      (startFrame s).line.losses = s.line.losses ∧ (startFrame s).line.abandoned = s.line.abandoned ∧
      (startFrame s).line.displaced = s.line.displaced ∧ (startFrame s).line.drops = s.line.drops ∧
      (startFrame s).line.statusTimer = s.line.statusTimer ∧ (startFrame s).line.joiningTimer = s.line.joiningTimer ∧
      (startFrame s).line.answers = s.line.answers ∧ (startFrame s).peers = s.peers ∧
      (startFrame s).claims = s.claims ∧ (startFrame s).bypass = s.bypass ∧ (startFrame s).visits = s.visits ∧
      (startFrame s).queue = s.queue ∧ (startFrame s).monitor = s.monitor ∧ (startFrame s).port = s.port ∧
      (startFrame s).free = s.free ∧ (startFrame s).pending = s.pending := by
  unfold startFrame
  (repeat' split) <;> simp

@[simp] theorem oweClaim_keeps (f : TxFrame) (s : State) :
      (oweClaim f s).held = s.held ∧ (oweClaim f s).pins = s.pins ∧ (oweClaim f s).id = s.id ∧
      (oweClaim f s).cfg = s.cfg ∧ (oweClaim f s).clampCount = s.clampCount ∧ (oweClaim f s).clock = s.clock ∧
      (oweClaim f s).intake = s.intake ∧ (oweClaim f s).accounts = s.accounts ∧ (oweClaim f s).stack = s.stack ∧
      (oweClaim f s).cond = s.cond ∧ (oweClaim f s).line = s.line ∧ (oweClaim f s).peers = s.peers ∧
      (oweClaim f s).claims.window = s.claims.window ∧ (oweClaim f s).claims.list = s.claims.list ∧
      (oweClaim f s).claims.consent = s.claims.consent ∧ (oweClaim f s).claims.last = s.claims.last ∧
      (oweClaim f s).claims.lastKind = s.claims.lastKind ∧ (oweClaim f s).claims.spacing = s.claims.spacing ∧
      (oweClaim f s).claims.latch = s.claims.latch ∧ (oweClaim f s).bypass = s.bypass ∧
      (oweClaim f s).visits = s.visits ∧ (oweClaim f s).queue = s.queue ∧ (oweClaim f s).monitor = s.monitor ∧
      (oweClaim f s).port = s.port ∧ (oweClaim f s).free = s.free ∧ (oweClaim f s).pending = s.pending := by
  unfold oweClaim
  (repeat' split) <;> simp

@[simp] theorem abandonFrame_keeps (place : Nat) (f : TxFrame) (s : State) :
      (abandonFrame place f s).held = s.held ∧ (abandonFrame place f s).pins = s.pins ∧
      (abandonFrame place f s).id = s.id ∧ (abandonFrame place f s).cfg = s.cfg ∧
      (abandonFrame place f s).clampCount = s.clampCount ∧ (abandonFrame place f s).clock = s.clock ∧
      (abandonFrame place f s).intake = s.intake ∧ (abandonFrame place f s).accounts = s.accounts ∧
      (abandonFrame place f s).stack = s.stack ∧ (abandonFrame place f s).cond = s.cond ∧
      (abandonFrame place f s).line.state = s.line.state ∧
      (abandonFrame place f s).line.synchronised = s.line.synchronised ∧
      (abandonFrame place f s).line.received = s.line.received ∧
      (abandonFrame place f s).line.crcFailures = s.line.crcFailures ∧
      (abandonFrame place f s).line.lengthFailures = s.line.lengthFailures ∧
      (abandonFrame place f s).line.contentDiscards = s.line.contentDiscards ∧
      (abandonFrame place f s).line.addressDiscards = s.line.addressDiscards ∧
      (abandonFrame place f s).line.sent = s.line.sent ∧ (abandonFrame place f s).line.losses = s.line.losses ∧
      (abandonFrame place f s).line.statusTimer = s.line.statusTimer ∧
      (abandonFrame place f s).line.joiningTimer = s.line.joiningTimer ∧
      (abandonFrame place f s).line.answers = s.line.answers ∧ (abandonFrame place f s).peers = s.peers ∧
      (abandonFrame place f s).claims.window = s.claims.window ∧
      (abandonFrame place f s).claims.list = s.claims.list ∧
      (abandonFrame place f s).claims.consent = s.claims.consent ∧
      (abandonFrame place f s).claims.last = s.claims.last ∧
      (abandonFrame place f s).claims.lastKind = s.claims.lastKind ∧
      (abandonFrame place f s).claims.spacing = s.claims.spacing ∧
      (abandonFrame place f s).claims.latch = s.claims.latch ∧ (abandonFrame place f s).bypass = s.bypass ∧
      (abandonFrame place f s).visits = s.visits ∧ (abandonFrame place f s).queue = s.queue ∧
      (abandonFrame place f s).monitor = s.monitor ∧ (abandonFrame place f s).port = s.port ∧
      (abandonFrame place f s).free = s.free ∧ (abandonFrame place f s).pending = s.pending := by
  unfold abandonFrame
  simp

@[simp] theorem reportSent_keeps (f : TxFrame) (s : State) :
      (reportSent f s).held = s.held ∧ (reportSent f s).pins = s.pins ∧ (reportSent f s).id = s.id ∧
      (reportSent f s).cfg = s.cfg ∧ (reportSent f s).clampCount = s.clampCount ∧ (reportSent f s).clock = s.clock ∧
      (reportSent f s).intake = s.intake ∧ (reportSent f s).accounts = s.accounts ∧
      (reportSent f s).stack.frames = s.stack.frames ∧
      (reportSent f s).stack.dischargeDeferred = s.stack.dischargeDeferred ∧
      (reportSent f s).stack.withdrawalDeferred = s.stack.withdrawalDeferred ∧ (reportSent f s).cond = s.cond ∧
      (reportSent f s).line.state = s.line.state ∧ (reportSent f s).line.synchronised = s.line.synchronised ∧
      (reportSent f s).line.tx = s.line.tx ∧ (reportSent f s).line.received = s.line.received ∧
      (reportSent f s).line.crcFailures = s.line.crcFailures ∧
      (reportSent f s).line.lengthFailures = s.line.lengthFailures ∧
      (reportSent f s).line.contentDiscards = s.line.contentDiscards ∧
      (reportSent f s).line.addressDiscards = s.line.addressDiscards ∧ (reportSent f s).line.sent = s.line.sent ∧
      (reportSent f s).line.losses = s.line.losses ∧ (reportSent f s).line.abandoned = s.line.abandoned ∧
      (reportSent f s).line.displaced = s.line.displaced ∧ (reportSent f s).line.drops = s.line.drops ∧
      (reportSent f s).line.joiningTimer = s.line.joiningTimer ∧ (reportSent f s).line.answers = s.line.answers ∧
      (reportSent f s).peers = s.peers ∧ (reportSent f s).claims.window = s.claims.window ∧
      (reportSent f s).claims.list = s.claims.list ∧ (reportSent f s).claims.consent = s.claims.consent ∧
      (reportSent f s).claims.last = s.claims.last ∧ (reportSent f s).claims.lastKind = s.claims.lastKind ∧
      (reportSent f s).claims.spacing = s.claims.spacing ∧ (reportSent f s).claims.latch = s.claims.latch ∧
      (reportSent f s).bypass = s.bypass ∧ (reportSent f s).visits = s.visits ∧ (reportSent f s).queue = s.queue ∧
      (reportSent f s).monitor = s.monitor ∧ (reportSent f s).port = s.port ∧ (reportSent f s).free = s.free ∧
      (reportSent f s).pending = s.pending := by
  unfold reportSent
  dsimp only
  (repeat' split) <;> simp

@[simp] theorem sendFrame_keeps (place : Nat) (f : TxFrame) (s : State) :
      (sendFrame place f s).held = s.held ∧ (sendFrame place f s).pins = s.pins ∧ (sendFrame place f s).id = s.id ∧
      (sendFrame place f s).cfg = s.cfg ∧ (sendFrame place f s).clampCount = s.clampCount ∧
      (sendFrame place f s).clock = s.clock ∧ (sendFrame place f s).intake = s.intake ∧
      (sendFrame place f s).accounts = s.accounts ∧ (sendFrame place f s).stack.frames = s.stack.frames ∧
      (sendFrame place f s).stack.dischargeDeferred = s.stack.dischargeDeferred ∧
      (sendFrame place f s).stack.withdrawalDeferred = s.stack.withdrawalDeferred ∧
      (sendFrame place f s).cond = s.cond ∧ (sendFrame place f s).line.state = s.line.state ∧
      (sendFrame place f s).line.synchronised = s.line.synchronised ∧
      (sendFrame place f s).line.received = s.line.received ∧
      (sendFrame place f s).line.crcFailures = s.line.crcFailures ∧
      (sendFrame place f s).line.lengthFailures = s.line.lengthFailures ∧
      (sendFrame place f s).line.contentDiscards = s.line.contentDiscards ∧
      (sendFrame place f s).line.addressDiscards = s.line.addressDiscards ∧
      (sendFrame place f s).line.losses = s.line.losses ∧ (sendFrame place f s).line.abandoned = s.line.abandoned ∧
      (sendFrame place f s).line.displaced = s.line.displaced ∧ (sendFrame place f s).line.drops = s.line.drops ∧
      (sendFrame place f s).line.joiningTimer = s.line.joiningTimer ∧
      (sendFrame place f s).line.answers = s.line.answers ∧ (sendFrame place f s).peers = s.peers ∧
      (sendFrame place f s).claims.window = s.claims.window ∧ (sendFrame place f s).claims.list = s.claims.list ∧
      (sendFrame place f s).claims.consent = s.claims.consent ∧ (sendFrame place f s).claims.last = s.claims.last ∧
      (sendFrame place f s).claims.lastKind = s.claims.lastKind ∧
      (sendFrame place f s).claims.spacing = s.claims.spacing ∧ (sendFrame place f s).claims.latch = s.claims.latch ∧
      (sendFrame place f s).bypass = s.bypass ∧ (sendFrame place f s).visits = s.visits ∧
      (sendFrame place f s).queue = s.queue ∧ (sendFrame place f s).monitor = s.monitor ∧
      (sendFrame place f s).port = s.port ∧ (sendFrame place f s).free = s.free ∧
      (sendFrame place f s).pending = s.pending := by
  unfold sendFrame
  simp

@[simp] theorem mute_keeps (s : State) :
      (mute s).held = s.held ∧ (mute s).pins = s.pins ∧ (mute s).id = s.id ∧ (mute s).cfg = s.cfg ∧
      (mute s).clampCount = s.clampCount ∧ (mute s).clock = s.clock ∧ (mute s).intake = s.intake ∧
      (mute s).accounts = s.accounts ∧ (mute s).stack.frames = s.stack.frames ∧
      (mute s).stack.dischargeDeferred = s.stack.dischargeDeferred ∧
      (mute s).stack.withdrawalDeferred = s.stack.withdrawalDeferred ∧ (mute s).cond = s.cond ∧
      (mute s).line.synchronised = s.line.synchronised ∧ (mute s).line.received = s.line.received ∧
      (mute s).line.crcFailures = s.line.crcFailures ∧ (mute s).line.lengthFailures = s.line.lengthFailures ∧
      (mute s).line.contentDiscards = s.line.contentDiscards ∧
      (mute s).line.addressDiscards = s.line.addressDiscards ∧ (mute s).line.sent = s.line.sent ∧
      (mute s).line.losses = s.line.losses ∧ (mute s).line.abandoned = s.line.abandoned ∧
      (mute s).line.joiningTimer = s.line.joiningTimer ∧ (mute s).line.answers = s.line.answers ∧
      (mute s).peers = s.peers ∧ (mute s).claims.consent = s.claims.consent ∧
      (mute s).claims.latch = s.claims.latch ∧ (mute s).bypass = s.bypass ∧ (mute s).visits = s.visits ∧
      (mute s).queue = s.queue ∧ (mute s).monitor.hot = s.monitor.hot ∧
      (mute s).monitor.lineErrors = s.monitor.lineErrors ∧ (mute s).port = s.port ∧ (mute s).free = s.free ∧
      (mute s).pending = s.pending := by
  unfold mute
  simp

@[simp] theorem hear_keeps (station : Nat) (s : State) :
      (hear station s).held = s.held ∧ (hear station s).pins = s.pins ∧ (hear station s).id = s.id ∧
      (hear station s).cfg = s.cfg ∧ (hear station s).clampCount = s.clampCount ∧ (hear station s).clock = s.clock ∧
      (hear station s).intake = s.intake ∧ (hear station s).accounts = s.accounts ∧
      (hear station s).stack = s.stack ∧ (hear station s).cond = s.cond ∧ (hear station s).line = s.line ∧
      (hear station s).peers = s.peers ∧ (hear station s).claims.window = s.claims.window ∧
      (hear station s).claims.list = s.claims.list ∧ (hear station s).claims.consent = s.claims.consent ∧
      (hear station s).claims.last = s.claims.last ∧ (hear station s).claims.lastKind = s.claims.lastKind ∧
      (hear station s).claims.spacing = s.claims.spacing ∧ (hear station s).claims.latch = s.claims.latch ∧
      (hear station s).bypass = s.bypass ∧ (hear station s).visits = s.visits ∧ (hear station s).queue = s.queue ∧
      (hear station s).monitor = s.monitor ∧ (hear station s).port = s.port ∧ (hear station s).free = s.free ∧
      (hear station s).pending = s.pending := by
  unfold hear
  (repeat' split) <;> simp

@[simp] theorem claimsTakeNotice_keeps (station : Nat) (n : Notice) (s : State) :
      (claimsTakeNotice station n s).held = s.held ∧ (claimsTakeNotice station n s).pins = s.pins ∧
      (claimsTakeNotice station n s).id = s.id ∧ (claimsTakeNotice station n s).cfg = s.cfg ∧
      (claimsTakeNotice station n s).clampCount = s.clampCount ∧ (claimsTakeNotice station n s).clock = s.clock ∧
      (claimsTakeNotice station n s).intake = s.intake ∧ (claimsTakeNotice station n s).accounts = s.accounts ∧
      (claimsTakeNotice station n s).stack = s.stack ∧ (claimsTakeNotice station n s).cond = s.cond ∧
      (claimsTakeNotice station n s).line.state = s.line.state ∧
      (claimsTakeNotice station n s).line.synchronised = s.line.synchronised ∧
      (claimsTakeNotice station n s).line.received = s.line.received ∧
      (claimsTakeNotice station n s).line.crcFailures = s.line.crcFailures ∧
      (claimsTakeNotice station n s).line.lengthFailures = s.line.lengthFailures ∧
      (claimsTakeNotice station n s).line.contentDiscards = s.line.contentDiscards ∧
      (claimsTakeNotice station n s).line.addressDiscards = s.line.addressDiscards ∧
      (claimsTakeNotice station n s).line.sent = s.line.sent ∧
      (claimsTakeNotice station n s).line.losses = s.line.losses ∧
      (claimsTakeNotice station n s).line.abandoned = s.line.abandoned ∧
      (claimsTakeNotice station n s).line.statusTimer = s.line.statusTimer ∧
      (claimsTakeNotice station n s).line.joiningTimer = s.line.joiningTimer ∧
      (claimsTakeNotice station n s).line.answers = s.line.answers ∧ (claimsTakeNotice station n s).peers = s.peers ∧
      (claimsTakeNotice station n s).claims.consent = s.claims.consent ∧
      (claimsTakeNotice station n s).bypass = s.bypass ∧ (claimsTakeNotice station n s).visits = s.visits ∧
      (claimsTakeNotice station n s).queue = s.queue ∧ (claimsTakeNotice station n s).monitor.hot = s.monitor.hot ∧
      (claimsTakeNotice station n s).monitor.lineErrors = s.monitor.lineErrors ∧
      (claimsTakeNotice station n s).port = s.port ∧ (claimsTakeNotice station n s).free = s.free ∧
      (claimsTakeNotice station n s).pending = s.pending := by
  unfold claimsTakeNotice
  (repeat' split) <;> simp

@[simp] theorem takeNotice_keeps (station : Nat) (n : Notice) (s : State) :
      (takeNotice station n s).held = s.held ∧ (takeNotice station n s).pins = s.pins ∧
      (takeNotice station n s).id = s.id ∧ (takeNotice station n s).cfg = s.cfg ∧
      (takeNotice station n s).clampCount = s.clampCount ∧ (takeNotice station n s).clock = s.clock ∧
      (takeNotice station n s).intake = s.intake ∧ (takeNotice station n s).accounts = s.accounts ∧
      (takeNotice station n s).stack = s.stack ∧ (takeNotice station n s).cond = s.cond ∧
      (takeNotice station n s).line.state = s.line.state ∧
      (takeNotice station n s).line.synchronised = s.line.synchronised ∧
      (takeNotice station n s).line.crcFailures = s.line.crcFailures ∧
      (takeNotice station n s).line.lengthFailures = s.line.lengthFailures ∧
      (takeNotice station n s).line.contentDiscards = s.line.contentDiscards ∧
      (takeNotice station n s).line.addressDiscards = s.line.addressDiscards ∧
      (takeNotice station n s).line.sent = s.line.sent ∧ (takeNotice station n s).line.losses = s.line.losses ∧
      (takeNotice station n s).line.abandoned = s.line.abandoned ∧
      (takeNotice station n s).line.statusTimer = s.line.statusTimer ∧
      (takeNotice station n s).line.joiningTimer = s.line.joiningTimer ∧
      (takeNotice station n s).line.answers = s.line.answers ∧
      (takeNotice station n s).claims.consent = s.claims.consent ∧ (takeNotice station n s).bypass = s.bypass ∧
      (takeNotice station n s).visits = s.visits ∧ (takeNotice station n s).queue = s.queue ∧
      (takeNotice station n s).monitor.hot = s.monitor.hot ∧
      (takeNotice station n s).monitor.lineErrors = s.monitor.lineErrors ∧ (takeNotice station n s).port = s.port ∧
      (takeNotice station n s).free = s.free ∧ (takeNotice station n s).pending = s.pending := by
  unfold takeNotice
  simp

@[simp] theorem goStale_keeps (station : Nat) (s : State) :
      (goStale station s).held = s.held ∧ (goStale station s).pins = s.pins ∧ (goStale station s).id = s.id ∧
      (goStale station s).cfg = s.cfg ∧ (goStale station s).clampCount = s.clampCount ∧
      (goStale station s).clock = s.clock ∧ (goStale station s).intake = s.intake ∧
      (goStale station s).accounts = s.accounts ∧ (goStale station s).stack = s.stack ∧
      (goStale station s).cond = s.cond ∧ (goStale station s).line = s.line ∧
      (goStale station s).claims.own = s.claims.own ∧ (goStale station s).claims.window = s.claims.window ∧
      (goStale station s).claims.consent = s.claims.consent ∧ (goStale station s).claims.last = s.claims.last ∧
      (goStale station s).claims.lastKind = s.claims.lastKind ∧
      (goStale station s).claims.spacing = s.claims.spacing ∧ (goStale station s).claims.latch = s.claims.latch ∧
      (goStale station s).bypass = s.bypass ∧ (goStale station s).visits = s.visits ∧
      (goStale station s).queue = s.queue ∧ (goStale station s).monitor.hot = s.monitor.hot ∧
      (goStale station s).monitor.lineErrors = s.monitor.lineErrors ∧ (goStale station s).port = s.port ∧
      (goStale station s).free = s.free ∧ (goStale station s).pending = s.pending := by
  unfold goStale
  dsimp only
  (repeat' split) <;> simp

@[simp] theorem recordMains_keeps (source : Nat) (kind : MainsKind) (s : State) :
      (recordMains source kind s).held = s.held ∧ (recordMains source kind s).pins = s.pins ∧
      (recordMains source kind s).id = s.id ∧ (recordMains source kind s).cfg = s.cfg ∧
      (recordMains source kind s).clampCount = s.clampCount ∧ (recordMains source kind s).clock = s.clock ∧
      (recordMains source kind s).intake = s.intake ∧ (recordMains source kind s).accounts = s.accounts ∧
      (recordMains source kind s).stack = s.stack ∧ (recordMains source kind s).cond = s.cond ∧
      (recordMains source kind s).line = s.line ∧ (recordMains source kind s).peers = s.peers ∧
      (recordMains source kind s).claims = s.claims ∧ (recordMains source kind s).bypass.mains = s.bypass.mains ∧
      (recordMains source kind s).bypass.lossTimer = s.bypass.lossTimer ∧
      (recordMains source kind s).bypass.qualTimer = s.bypass.qualTimer ∧
      (recordMains source kind s).bypass.position = s.bypass.position ∧
      (recordMains source kind s).bypass.confirmed = s.bypass.confirmed ∧
      (recordMains source kind s).bypass.disagree = s.bypass.disagree ∧
      (recordMains source kind s).bypass.pulse = s.bypass.pulse ∧
      (recordMains source kind s).bypass.waitingPulse = s.bypass.waitingPulse ∧
      (recordMains source kind s).bypass.recovery = s.bypass.recovery ∧
      (recordMains source kind s).bypass.staticCount = s.bypass.staticCount ∧
      (recordMains source kind s).bypass.breakerCount = s.bypass.breakerCount ∧
      (recordMains source kind s).visits = s.visits ∧ (recordMains source kind s).queue = s.queue ∧
      (recordMains source kind s).monitor = s.monitor ∧ (recordMains source kind s).port = s.port ∧
      (recordMains source kind s).free = s.free ∧ (recordMains source kind s).pending = s.pending := by
  unfold recordMains
  simp

@[simp] theorem endRecovery_keeps (s : State) :
      (endRecovery s).held = s.held ∧ (endRecovery s).pins = s.pins ∧ (endRecovery s).id = s.id ∧
      (endRecovery s).cfg = s.cfg ∧ (endRecovery s).clampCount = s.clampCount ∧ (endRecovery s).clock = s.clock ∧
      (endRecovery s).intake = s.intake ∧ (endRecovery s).accounts.second = s.accounts.second ∧
      (endRecovery s).stack.dischargeDeferred = s.stack.dischargeDeferred ∧
      (endRecovery s).cond.latch = s.cond.latch ∧ (endRecovery s).cond.equalizeDue = s.cond.equalizeDue ∧
      (endRecovery s).cond.waiting = s.cond.waiting ∧ (endRecovery s).cond.remainingField = s.cond.remainingField ∧
      (endRecovery s).line.state = s.line.state ∧ (endRecovery s).line.synchronised = s.line.synchronised ∧
      (endRecovery s).line.received = s.line.received ∧ (endRecovery s).line.crcFailures = s.line.crcFailures ∧
      (endRecovery s).line.lengthFailures = s.line.lengthFailures ∧
      (endRecovery s).line.contentDiscards = s.line.contentDiscards ∧
      (endRecovery s).line.addressDiscards = s.line.addressDiscards ∧ (endRecovery s).line.sent = s.line.sent ∧
      (endRecovery s).line.losses = s.line.losses ∧ (endRecovery s).line.abandoned = s.line.abandoned ∧
      (endRecovery s).line.statusTimer = s.line.statusTimer ∧
      (endRecovery s).line.joiningTimer = s.line.joiningTimer ∧ (endRecovery s).line.answers = s.line.answers ∧
      (endRecovery s).peers = s.peers ∧ (endRecovery s).claims.consent = s.claims.consent ∧
      (endRecovery s).claims.last = s.claims.last ∧ (endRecovery s).claims.lastKind = s.claims.lastKind ∧
      (endRecovery s).claims.latch = s.claims.latch ∧ (endRecovery s).bypass.mains = s.bypass.mains ∧
      (endRecovery s).bypass.lossTimer = s.bypass.lossTimer ∧ (endRecovery s).bypass.qualTimer = s.bypass.qualTimer ∧
      (endRecovery s).bypass.report = s.bypass.report ∧ (endRecovery s).bypass.reportCount = s.bypass.reportCount ∧
      (endRecovery s).bypass.position = s.bypass.position ∧ (endRecovery s).bypass.confirmed = s.bypass.confirmed ∧
      (endRecovery s).bypass.disagree = s.bypass.disagree ∧ (endRecovery s).bypass.pulse = s.bypass.pulse ∧
      (endRecovery s).bypass.waitingPulse = s.bypass.waitingPulse ∧
      (endRecovery s).bypass.staticCount = s.bypass.staticCount ∧
      (endRecovery s).bypass.breakerCount = s.bypass.breakerCount ∧ (endRecovery s).visits = s.visits ∧
      (endRecovery s).monitor.hot = s.monitor.hot ∧ (endRecovery s).monitor.lineErrors = s.monitor.lineErrors ∧
      (endRecovery s).port.writing = s.port.writing ∧ (endRecovery s).port.restartWait = s.port.restartWait ∧
      (endRecovery s).port.areas = s.port.areas ∧ (endRecovery s).free = s.free ∧
      (endRecovery s).pending = s.pending := by
  unfold endRecovery
  dsimp only
  (repeat' split) <;> simp

@[simp] theorem openForKey_keeps (s : State) :
      (openForKey s).held = s.held ∧ (openForKey s).pins = s.pins ∧ (openForKey s).id = s.id ∧
      (openForKey s).cfg = s.cfg ∧ (openForKey s).clampCount = s.clampCount ∧ (openForKey s).clock = s.clock ∧
      (openForKey s).intake = s.intake ∧ (openForKey s).accounts.second = s.accounts.second ∧
      (openForKey s).stack.dischargeDeferred = s.stack.dischargeDeferred ∧
      (openForKey s).stack.withdrawalDeferred = s.stack.withdrawalDeferred ∧
      (openForKey s).cond.latch = s.cond.latch ∧ (openForKey s).cond.equalizeDue = s.cond.equalizeDue ∧
      (openForKey s).cond.remainingField = s.cond.remainingField ∧ (openForKey s).line.state = s.line.state ∧
      (openForKey s).line.synchronised = s.line.synchronised ∧ (openForKey s).line.received = s.line.received ∧
      (openForKey s).line.crcFailures = s.line.crcFailures ∧
      (openForKey s).line.lengthFailures = s.line.lengthFailures ∧
      (openForKey s).line.contentDiscards = s.line.contentDiscards ∧
      (openForKey s).line.addressDiscards = s.line.addressDiscards ∧ (openForKey s).line.sent = s.line.sent ∧
      (openForKey s).line.losses = s.line.losses ∧ (openForKey s).line.abandoned = s.line.abandoned ∧
      (openForKey s).line.statusTimer = s.line.statusTimer ∧ (openForKey s).line.joiningTimer = s.line.joiningTimer ∧
      (openForKey s).line.answers = s.line.answers ∧ (openForKey s).peers = s.peers ∧
      (openForKey s).claims.consent = s.claims.consent ∧ (openForKey s).claims.latch = s.claims.latch ∧
      (openForKey s).bypass = s.bypass ∧ (openForKey s).visits.history = s.visits.history ∧
      (openForKey s).visits.stable = s.visits.stable ∧ (openForKey s).visits.settleTimer = s.visits.settleTimer ∧
      (openForKey s).visits.requestHeld = s.visits.requestHeld ∧ (openForKey s).monitor = s.monitor ∧
      (openForKey s).port.writing = s.port.writing ∧ (openForKey s).port.restartWait = s.port.restartWait ∧
      (openForKey s).port.areas = s.port.areas ∧ (openForKey s).free = s.free ∧ (openForKey s).pending = s.pending := by
  unfold openForKey
  (repeat' split) <;> simp

@[simp] theorem holdRequest_keeps (s : State) :
      (holdRequest s).held = s.held ∧ (holdRequest s).pins = s.pins ∧ (holdRequest s).id = s.id ∧
      (holdRequest s).cfg = s.cfg ∧ (holdRequest s).clampCount = s.clampCount ∧ (holdRequest s).clock = s.clock ∧
      (holdRequest s).intake = s.intake ∧ (holdRequest s).accounts = s.accounts ∧ (holdRequest s).stack = s.stack ∧
      (holdRequest s).cond = s.cond ∧ (holdRequest s).line = s.line ∧ (holdRequest s).peers = s.peers ∧
      (holdRequest s).claims = s.claims ∧ (holdRequest s).bypass = s.bypass ∧
      (holdRequest s).visits.current = s.visits.current ∧ (holdRequest s).visits.history = s.visits.history ∧
      (holdRequest s).visits.counter = s.visits.counter ∧
      (holdRequest s).visits.overdueTimer = s.visits.overdueTimer ∧ (holdRequest s).visits.stable = s.visits.stable ∧
      (holdRequest s).visits.settleTimer = s.visits.settleTimer ∧ (holdRequest s).queue = s.queue ∧
      (holdRequest s).monitor = s.monitor ∧ (holdRequest s).port = s.port ∧ (holdRequest s).free = s.free ∧
      (holdRequest s).pending = s.pending := by
  unfold holdRequest
  simp

@[simp] theorem abandonKey_keeps (s : State) :
      (abandonKey s).held = s.held ∧ (abandonKey s).pins = s.pins ∧ (abandonKey s).id = s.id ∧
      (abandonKey s).cfg = s.cfg ∧ (abandonKey s).clampCount = s.clampCount ∧ (abandonKey s).clock = s.clock ∧
      (abandonKey s).intake = s.intake ∧ (abandonKey s).accounts = s.accounts ∧ (abandonKey s).stack = s.stack ∧
      (abandonKey s).cond = s.cond ∧ (abandonKey s).line.state = s.line.state ∧
      (abandonKey s).line.synchronised = s.line.synchronised ∧ (abandonKey s).line.received = s.line.received ∧
      (abandonKey s).line.crcFailures = s.line.crcFailures ∧
      (abandonKey s).line.lengthFailures = s.line.lengthFailures ∧
      (abandonKey s).line.contentDiscards = s.line.contentDiscards ∧
      (abandonKey s).line.addressDiscards = s.line.addressDiscards ∧ (abandonKey s).line.sent = s.line.sent ∧
      (abandonKey s).line.losses = s.line.losses ∧ (abandonKey s).line.abandoned = s.line.abandoned ∧
      (abandonKey s).line.statusTimer = s.line.statusTimer ∧ (abandonKey s).line.joiningTimer = s.line.joiningTimer ∧
      (abandonKey s).line.answers = s.line.answers ∧ (abandonKey s).peers = s.peers ∧
      (abandonKey s).claims.consent = s.claims.consent ∧ (abandonKey s).claims.latch = s.claims.latch ∧
      (abandonKey s).bypass = s.bypass ∧ (abandonKey s).visits = s.visits ∧ (abandonKey s).queue = s.queue ∧
      (abandonKey s).monitor = s.monitor ∧ (abandonKey s).port = s.port ∧ (abandonKey s).free = s.free ∧
      (abandonKey s).pending = s.pending := by
  unfold abandonKey
  (repeat' split) <;> simp

@[simp] theorem dropRequest_keeps (s : State) :
      (dropRequest s).held = s.held ∧ (dropRequest s).pins = s.pins ∧ (dropRequest s).id = s.id ∧
      (dropRequest s).cfg = s.cfg ∧ (dropRequest s).clampCount = s.clampCount ∧ (dropRequest s).clock = s.clock ∧
      (dropRequest s).intake = s.intake ∧ (dropRequest s).accounts = s.accounts ∧ (dropRequest s).stack = s.stack ∧
      (dropRequest s).cond = s.cond ∧ (dropRequest s).line.state = s.line.state ∧
      (dropRequest s).line.synchronised = s.line.synchronised ∧ (dropRequest s).line.received = s.line.received ∧
      (dropRequest s).line.crcFailures = s.line.crcFailures ∧
      (dropRequest s).line.lengthFailures = s.line.lengthFailures ∧
      (dropRequest s).line.contentDiscards = s.line.contentDiscards ∧
      (dropRequest s).line.addressDiscards = s.line.addressDiscards ∧ (dropRequest s).line.sent = s.line.sent ∧
      (dropRequest s).line.losses = s.line.losses ∧ (dropRequest s).line.abandoned = s.line.abandoned ∧
      (dropRequest s).line.statusTimer = s.line.statusTimer ∧
      (dropRequest s).line.joiningTimer = s.line.joiningTimer ∧ (dropRequest s).line.answers = s.line.answers ∧
      (dropRequest s).peers = s.peers ∧ (dropRequest s).claims.consent = s.claims.consent ∧
      (dropRequest s).claims.latch = s.claims.latch ∧ (dropRequest s).bypass = s.bypass ∧
      (dropRequest s).visits.current = s.visits.current ∧ (dropRequest s).visits.history = s.visits.history ∧
      (dropRequest s).visits.counter = s.visits.counter ∧
      (dropRequest s).visits.overdueTimer = s.visits.overdueTimer ∧ (dropRequest s).visits.stable = s.visits.stable ∧
      (dropRequest s).visits.settleTimer = s.visits.settleTimer ∧ (dropRequest s).queue = s.queue ∧
      (dropRequest s).monitor = s.monitor ∧ (dropRequest s).port = s.port ∧ (dropRequest s).free = s.free ∧
      (dropRequest s).pending = s.pending := by
  unfold dropRequest
  simp

@[simp] theorem pendClose_keeps (s : State) :
      (pendClose s).held = s.held ∧ (pendClose s).pins = s.pins ∧ (pendClose s).id = s.id ∧
      (pendClose s).cfg = s.cfg ∧ (pendClose s).clampCount = s.clampCount ∧ (pendClose s).clock = s.clock ∧
      (pendClose s).intake = s.intake ∧ (pendClose s).accounts.second = s.accounts.second ∧
      (pendClose s).stack.dischargeDeferred = s.stack.dischargeDeferred ∧
      (pendClose s).stack.withdrawalDeferred = s.stack.withdrawalDeferred ∧ (pendClose s).cond.latch = s.cond.latch ∧
      (pendClose s).cond.equalizeDue = s.cond.equalizeDue ∧
      (pendClose s).cond.remainingField = s.cond.remainingField ∧ (pendClose s).line.state = s.line.state ∧
      (pendClose s).line.synchronised = s.line.synchronised ∧ (pendClose s).line.received = s.line.received ∧
      (pendClose s).line.crcFailures = s.line.crcFailures ∧
      (pendClose s).line.lengthFailures = s.line.lengthFailures ∧
      (pendClose s).line.contentDiscards = s.line.contentDiscards ∧
      (pendClose s).line.addressDiscards = s.line.addressDiscards ∧ (pendClose s).line.sent = s.line.sent ∧
      (pendClose s).line.losses = s.line.losses ∧ (pendClose s).line.abandoned = s.line.abandoned ∧
      (pendClose s).line.statusTimer = s.line.statusTimer ∧ (pendClose s).line.joiningTimer = s.line.joiningTimer ∧
      (pendClose s).line.answers = s.line.answers ∧ (pendClose s).peers = s.peers ∧
      (pendClose s).claims.consent = s.claims.consent ∧ (pendClose s).claims.latch = s.claims.latch ∧
      (pendClose s).bypass = s.bypass ∧ (pendClose s).visits.stable = s.visits.stable ∧
      (pendClose s).visits.settleTimer = s.visits.settleTimer ∧ (pendClose s).monitor = s.monitor ∧
      (pendClose s).port.writing = s.port.writing ∧ (pendClose s).port.restartWait = s.port.restartWait ∧
      (pendClose s).port.areas = s.port.areas ∧ (pendClose s).free = s.free ∧ (pendClose s).pending = s.pending := by
  unfold pendClose
  dsimp only
  (repeat' split) <;> simp

@[simp] theorem keyEffects_keeps (old new : KeyPosition) (s : State) :
      (keyEffects old new s).held = s.held ∧ (keyEffects old new s).pins = s.pins ∧
      (keyEffects old new s).id = s.id ∧ (keyEffects old new s).cfg = s.cfg ∧
      (keyEffects old new s).clampCount = s.clampCount ∧ (keyEffects old new s).clock = s.clock ∧
      (keyEffects old new s).intake = s.intake ∧ (keyEffects old new s).accounts.second = s.accounts.second ∧
      (keyEffects old new s).stack.dischargeDeferred = s.stack.dischargeDeferred ∧
      (keyEffects old new s).stack.withdrawalDeferred = s.stack.withdrawalDeferred ∧
      (keyEffects old new s).cond.latch = s.cond.latch ∧
      (keyEffects old new s).cond.equalizeDue = s.cond.equalizeDue ∧
      (keyEffects old new s).cond.remainingField = s.cond.remainingField ∧
      (keyEffects old new s).line.state = s.line.state ∧
      (keyEffects old new s).line.synchronised = s.line.synchronised ∧
      (keyEffects old new s).line.received = s.line.received ∧
      (keyEffects old new s).line.crcFailures = s.line.crcFailures ∧
      (keyEffects old new s).line.lengthFailures = s.line.lengthFailures ∧
      (keyEffects old new s).line.contentDiscards = s.line.contentDiscards ∧
      (keyEffects old new s).line.addressDiscards = s.line.addressDiscards ∧
      (keyEffects old new s).line.sent = s.line.sent ∧ (keyEffects old new s).line.losses = s.line.losses ∧
      (keyEffects old new s).line.abandoned = s.line.abandoned ∧
      (keyEffects old new s).line.statusTimer = s.line.statusTimer ∧
      (keyEffects old new s).line.joiningTimer = s.line.joiningTimer ∧
      (keyEffects old new s).line.answers = s.line.answers ∧ (keyEffects old new s).peers = s.peers ∧
      (keyEffects old new s).claims.consent = s.claims.consent ∧
      (keyEffects old new s).claims.latch = s.claims.latch ∧ (keyEffects old new s).bypass.mains = s.bypass.mains ∧
      (keyEffects old new s).bypass.lossTimer = s.bypass.lossTimer ∧
      (keyEffects old new s).bypass.qualTimer = s.bypass.qualTimer ∧
      (keyEffects old new s).bypass.report = s.bypass.report ∧
      (keyEffects old new s).bypass.reportCount = s.bypass.reportCount ∧
      (keyEffects old new s).bypass.position = s.bypass.position ∧
      (keyEffects old new s).bypass.confirmed = s.bypass.confirmed ∧
      (keyEffects old new s).bypass.disagree = s.bypass.disagree ∧
      (keyEffects old new s).bypass.recovery = s.bypass.recovery ∧
      (keyEffects old new s).bypass.staticCount = s.bypass.staticCount ∧
      (keyEffects old new s).bypass.breakerCount = s.bypass.breakerCount ∧
      (keyEffects old new s).visits.stable = s.visits.stable ∧
      (keyEffects old new s).visits.settleTimer = s.visits.settleTimer ∧ (keyEffects old new s).monitor = s.monitor ∧
      (keyEffects old new s).port.writing = s.port.writing ∧
      (keyEffects old new s).port.restartWait = s.port.restartWait ∧
      (keyEffects old new s).port.areas = s.port.areas ∧ (keyEffects old new s).free = s.free ∧
      (keyEffects old new s).pending = s.pending := by
  unfold keyEffects
  (repeat' split) <;> simp

@[simp] theorem settleKey_keeps (s : State) :
      (settleKey s).held = s.held ∧ (settleKey s).pins = s.pins ∧ (settleKey s).id = s.id ∧
      (settleKey s).cfg = s.cfg ∧ (settleKey s).clampCount = s.clampCount ∧ (settleKey s).clock = s.clock ∧
      (settleKey s).intake = s.intake ∧ (settleKey s).accounts.second = s.accounts.second ∧
      (settleKey s).stack.dischargeDeferred = s.stack.dischargeDeferred ∧
      (settleKey s).stack.withdrawalDeferred = s.stack.withdrawalDeferred ∧ (settleKey s).cond.latch = s.cond.latch ∧
      (settleKey s).cond.equalizeDue = s.cond.equalizeDue ∧
      (settleKey s).cond.remainingField = s.cond.remainingField ∧ (settleKey s).line.state = s.line.state ∧
      (settleKey s).line.synchronised = s.line.synchronised ∧ (settleKey s).line.received = s.line.received ∧
      (settleKey s).line.crcFailures = s.line.crcFailures ∧
      (settleKey s).line.lengthFailures = s.line.lengthFailures ∧
      (settleKey s).line.contentDiscards = s.line.contentDiscards ∧
      (settleKey s).line.addressDiscards = s.line.addressDiscards ∧ (settleKey s).line.sent = s.line.sent ∧
      (settleKey s).line.losses = s.line.losses ∧ (settleKey s).line.abandoned = s.line.abandoned ∧
      (settleKey s).line.statusTimer = s.line.statusTimer ∧ (settleKey s).line.joiningTimer = s.line.joiningTimer ∧
      (settleKey s).line.answers = s.line.answers ∧ (settleKey s).peers = s.peers ∧
      (settleKey s).claims.consent = s.claims.consent ∧ (settleKey s).claims.latch = s.claims.latch ∧
      (settleKey s).bypass.mains = s.bypass.mains ∧ (settleKey s).bypass.lossTimer = s.bypass.lossTimer ∧
      (settleKey s).bypass.qualTimer = s.bypass.qualTimer ∧ (settleKey s).bypass.report = s.bypass.report ∧
      (settleKey s).bypass.reportCount = s.bypass.reportCount ∧ (settleKey s).bypass.position = s.bypass.position ∧
      (settleKey s).bypass.confirmed = s.bypass.confirmed ∧ (settleKey s).bypass.disagree = s.bypass.disagree ∧
      (settleKey s).bypass.recovery = s.bypass.recovery ∧ (settleKey s).bypass.staticCount = s.bypass.staticCount ∧
      (settleKey s).bypass.breakerCount = s.bypass.breakerCount ∧
      (settleKey s).visits.settleTimer = s.visits.settleTimer ∧ (settleKey s).monitor = s.monitor ∧
      (settleKey s).port.writing = s.port.writing ∧ (settleKey s).port.restartWait = s.port.restartWait ∧
      (settleKey s).port.areas = s.port.areas ∧ (settleKey s).free = s.free ∧ (settleKey s).pending = s.pending := by
  unfold settleKey
  (repeat' split) <;> simp

@[simp] theorem countHour_keeps (s : State) :
      (countHour s).held = s.held ∧ (countHour s).pins = s.pins ∧ (countHour s).id = s.id ∧
      (countHour s).cfg = s.cfg ∧ (countHour s).clampCount = s.clampCount ∧
      (countHour s).clock.hoursAtStart = s.clock.hoursAtStart ∧ (countHour s).clock.tenths = s.clock.tenths ∧
      (countHour s).intake = s.intake ∧ (countHour s).accounts = s.accounts ∧ (countHour s).stack = s.stack ∧
      (countHour s).cond = s.cond ∧ (countHour s).line = s.line ∧ (countHour s).peers = s.peers ∧
      (countHour s).claims = s.claims ∧ (countHour s).bypass = s.bypass ∧ (countHour s).visits = s.visits ∧
      (countHour s).queue = s.queue ∧ (countHour s).monitor = s.monitor ∧ (countHour s).port.list = s.port.list ∧
      (countHour s).port.writing = s.port.writing ∧ (countHour s).port.restartWait = s.port.restartWait ∧
      (countHour s).port.areas = s.port.areas ∧ (countHour s).free = s.free ∧ (countHour s).pending = s.pending := by
  unfold countHour
  simp

@[simp] theorem hourBoundary_keeps (s : State) :
      (hourBoundary s).held = s.held ∧ (hourBoundary s).pins = s.pins ∧ (hourBoundary s).id = s.id ∧
      (hourBoundary s).cfg = s.cfg ∧ (hourBoundary s).clampCount = s.clampCount ∧
      (hourBoundary s).clock.hoursAtStart = s.clock.hoursAtStart ∧ (hourBoundary s).clock.tenths = s.clock.tenths ∧
      (hourBoundary s).intake = s.intake ∧ (hourBoundary s).accounts = s.accounts ∧
      (hourBoundary s).stack = s.stack ∧ (hourBoundary s).cond.equalizeDue = s.cond.equalizeDue ∧
      (hourBoundary s).cond.testDue = s.cond.testDue ∧ (hourBoundary s).cond.waiting = s.cond.waiting ∧
      (hourBoundary s).cond.testSecond = s.cond.testSecond ∧
      (hourBoundary s).cond.remainingField = s.cond.remainingField ∧ (hourBoundary s).line = s.line ∧
      (hourBoundary s).peers = s.peers ∧ (hourBoundary s).claims = s.claims ∧ (hourBoundary s).bypass = s.bypass ∧
      (hourBoundary s).visits = s.visits ∧ (hourBoundary s).monitor = s.monitor ∧
      (hourBoundary s).port.writing = s.port.writing ∧ (hourBoundary s).port.restartWait = s.port.restartWait ∧
      (hourBoundary s).port.areas = s.port.areas ∧ (hourBoundary s).free = s.free ∧
      (hourBoundary s).pending = s.pending := by
  unfold hourBoundary
  simp

@[simp] theorem reportFailure_keeps (s : State) :
      (reportFailure s).held = s.held ∧ (reportFailure s).pins = s.pins ∧ (reportFailure s).id = s.id ∧
      (reportFailure s).cfg = s.cfg ∧ (reportFailure s).clampCount = s.clampCount ∧
      (reportFailure s).clock = s.clock ∧ (reportFailure s).intake = s.intake ∧
      (reportFailure s).accounts = s.accounts ∧ (reportFailure s).stack = s.stack ∧ (reportFailure s).cond = s.cond ∧
      (reportFailure s).line = s.line ∧ (reportFailure s).peers = s.peers ∧ (reportFailure s).claims = s.claims ∧
      (reportFailure s).bypass = s.bypass ∧ (reportFailure s).visits = s.visits ∧
      (reportFailure s).monitor.hot = s.monitor.hot ∧ (reportFailure s).monitor.lineErrors = s.monitor.lineErrors ∧
      (reportFailure s).port.writing = s.port.writing ∧ (reportFailure s).port.restartWait = s.port.restartWait ∧
      (reportFailure s).port.areas = s.port.areas ∧ (reportFailure s).free = s.free ∧
      (reportFailure s).pending = s.pending := by
  unfold reportFailure
  simp

end Sys2Proof.Machine
end

