-- ==== Sys2Proof/Laws/State.lean ====
section
/-! SUPPORT. The state's named updates: what each writes, true by unfolding it (what each leaves alone stands with the operation's
`_keeps` lemma); and the figures read from the state, each unchanged while the fields that it reads are. -/

namespace Sys2Proof.Machine

/-! ## What an update writes -/

@[simp] theorem setFrames_frames (fs : List Frame) (s : State) : (setFrames fs s).stack.frames = fs := rfl
@[simp] theorem pushFrame_frames (f : Frame) (s : State) : (pushFrame f s).stack.frames = f :: s.stack.frames := rfl
@[simp] theorem takeOff_frames (k : Frame → Bool) (s : State) :
    (takeOff k s).stack.frames = s.stack.frames.filter fun f => !k f := rfl
@[simp] theorem clearSettle_settle (s : State) : (clearSettle s).stack.settle = false := rfl
@[simp] theorem setList_list (l : List ClaimEntry) (s : State) : (setList l s).claims.list = l := rfl
@[simp] theorem dropEntry_list (n : Nat) (s : State) : (dropEntry n s).claims.list = removeEntry n s.claims.list := rfl
@[simp] theorem retakeConsent_consent (s : State) : (retakeConsent s).claims.consent = consentOf s := rfl
@[simp] theorem setAccount_strings (i : Nat) (a : Account) (s : State) :
    (setAccount i a s).accounts.strings = s.accounts.strings.set i a := rfl
@[simp] theorem setPageState_states (p : PageId) (v : PageState) (s : State) :
    (setPageState p v s).port.states = s.port.states.set (pageIndex p) v := rfl
@[simp] theorem setArea_areas (p : PageId) (c : Option PageContent) (s : State) :
    (setArea p c s).port.areas = s.port.areas.set (pageIndex p) c := rfl
@[simp] theorem setCondition_active (k : Condition) (v : Bool) (s : State) :
    (setCondition k v s).monitor.active = s.monitor.active.put k v := rfl
@[simp] theorem refresh_active (s : State) : (refresh s).monitor.active = followed s := rfl
@[simp] theorem countReceived_received (s : State) : (countReceived s).line.received = inc16 s.line.received := rfl
@[simp] theorem setRemaining_field (m : Nat) (s : State) : (setRemaining m s).cond.remainingField = m := rfl
@[simp] theorem dropWaiting_waiting (s : State) : (dropWaiting s).cond.waiting = false := rfl
@[simp] theorem issuePulse_pulse (k : PulseKind) (s : State) : (issuePulse k s).bypass.pulse = some { kind := k, left := 5 } := rfl
@[simp] theorem takeMark_mark (s : State) : (takeMark s).queue.mark = markOf s.cfg s.queue.items s.queue.mark := rfl
@[simp] theorem takeMark_items (s : State) : (takeMark s).queue.items = s.queue.items := rfl
@[simp] theorem changeVisit_current (f : Visit → Visit) (s : State) :
    (changeVisit f s).visits.current = s.visits.current.map f := rfl

/-! ## Reading back -/

/-- A condition reads as it was put. -/
@[simp] theorem Conditions.get_put_self (c : Conditions) (k : Condition) (v : Bool) : (c.put k v).get k = v := by
  cases k <;> rfl

/-- Putting a condition leaves the others alone. -/
theorem Conditions.get_put_other (c : Conditions) (k l : Condition) (v : Bool) (h : l ≠ k) : (c.put k v).get l = c.get l := by
  cases k <;> cases l <;> first | rfl | exact absurd rfl h

/-- A page's write state reads as it was set, for a page that the port has. -/
theorem pageState_setPageState (p : PageId) (v : PageState) (s : State) (h : pageIndex p < s.port.states.length) :
    pageState p (setPageState p v s) = v := by
  simp [pageState, List.getD, h]

/-- A peer entry reads as it was set. -/
theorem peer_setPeer (n : Nat) (p : Peer) (s : State) (h0 : n ≠ 0) (h : n - 1 < s.peers.length) : (setPeer n p s).peer n = p := by
  simp [setPeer, State.peer, h0, List.getD, h]

/-- Setting a peer entry leaves the others alone. -/
theorem peer_setPeer_other (m n : Nat) (p : Peer) (s : State) (h : m ≠ n) : (setPeer n p s).peer m = s.peer m := by
  unfold setPeer State.peer
  split
  · rfl
  · split
    · rfl
    · simp only [List.getD]
      rw [List.getElem?_set_ne (by omega)]

/-! ## Figures that depend on a few fields -/

theorem State.now_congr {s t : State} (h : t.clock = s.clock) : t.now = s.now := by simp [State.now, State.runningSeconds, h]
theorem State.running_congr {s t : State} (h : t.line.state = s.line.state) : t.running = s.running := by simp [State.running, h]
theorem State.sending_congr {s t : State} (h : t.line.state = s.line.state) : t.sending = s.sending := by simp [State.sending, h]
theorem State.joined_congr {s t : State} (h : t.line.state = s.line.state) : t.joined = s.joined := by simp [State.joined, h]
theorem State.hasEqualize_congr {s t : State} (h : t.stack.frames = s.stack.frames) : t.hasEqualize = s.hasEqualize := by
  simp [State.hasEqualize, h]
theorem State.hasTest_congr {s t : State} (h : t.stack.frames = s.stack.frames) : t.hasTest = s.hasTest := by
  simp [State.hasTest, h]
theorem State.hasWithdrawal_congr {s t : State} (h : t.stack.frames = s.stack.frames) : t.hasWithdrawal = s.hasWithdrawal := by
  simp [State.hasWithdrawal, h]
theorem State.hasDischarge_congr {s t : State} (h : t.stack.frames = s.stack.frames) : t.hasDischarge = s.hasDischarge := by
  simp [State.hasDischarge, h]
theorem State.withdrawal?_congr {s t : State} (h : t.stack.frames = s.stack.frames) : t.withdrawal? = s.withdrawal? := by
  simp [State.withdrawal?, h]
theorem State.test?_congr {s t : State} (h : t.stack.frames = s.stack.frames) : t.test? = s.test? := by simp [State.test?, h]
theorem State.mode_congr {s t : State} (hl : t.line.state = s.line.state) (hf : t.stack.frames = s.stack.frames)
    (hp : t.pins = s.pins) : t.mode = s.mode := by
  simp [State.mode, State.hasWithdrawal, State.hasDischarge, hl, hf, hp]
theorem State.holding_congr {s t : State} (h : t.claims.own = s.claims.own) : t.holding = s.holding := by simp [State.holding, h]
theorem State.claiming_congr {s t : State} (h : t.claims.own = s.claims.own) : t.claiming = s.claiming := by
  simp [State.claiming, h]

end Sys2Proof.Machine
end

