-- ==== Sys2Proof/Tests/Slice0.lean ====
section
/-! SUPPORT. Tests of single events with results worked out in the manual, the checks of well-formedness with a term that each
refuses, and for every obligation with hypotheses a state and operands that meet them. -/

namespace Sys2Proof.Tests

open Sys2Proof Sys2Proof.Machine Sys2Proof.Safety

-- Each kernel evaluation would otherwise wait on a thread of its own.
set_option Elab.async false

/-! ## A small state -/

/-- The configuration of the worked examples: 200 Ah at 480 V, B 87,600, cycle cost 438, thresholds 69 and 40. -/
def figures : Settings where
  rating := 4000
  stringCount := 1
  strings := [{ ratedAh := 200, nominalV := 480, endVoltage := 4200 }]
  designLife := 87600
  cycleCost := 438
  dischargeThreshold := 50
  hotLimit := 180
  reviewThreshold := 69
  replaceThreshold := 40
  replaceCapacity := 82
  testReference := 600
  testLimit := 120
  testInterval := 4380
  equalizeInterval := 720
  equalizeDuration := 12
  reserve := 10
  minRuntime := 30
  transferTimeout := 10
  staticInterval := 500
  breakerInterval := 100
  keyPlanned := 60
  riseCount := 3
  fallCount := 1
  levels := [2, 2, 2, 3, 3, 3, 1, 1]
  alertThreshold := 2

/-- A string that has worn 10,000 reference hours (4.9). -/
def account : Account where
  wear := 10000
  residue := 0
  event := .idle
  charge := 0
  tail := 0
  events := 7
  measured := 100
  lastTest := .untested
  testCharge := 0
  testEndHour := 0
  installHour := 0
  reviewCrossed := false
  replaceCrossed := false
  health := 88
  available := 176

/-- Station 6 of group 2, ACTIVE and idle, with one string and the breaker open. -/
def base : State :=
  let s := State.blocksAtStart false
    { mainsOk := true, bypLoad := false, mbpCl := false, mbpOp := true, keyS := false, keyW := false }
    (List.replicate 8 none) 0 []
  { s with
    id := { station := 6, group := 2, fast := false }
    cfg := figures
    intake := { Intake.start 1 with load := 2500, loadState := .valid, second := some 0 }
    accounts := { strings := [account], energy := 844, second := some 0 }
    stack := { Stack.start with settle := false }
    line := { Line.start with state := .active, synchronised := true }
    bypass := { Bypass.start with position := .opened, confirmed := .opened }
    monitor := Monitor.start 1 }

def bypassed (f : Bypass → Bypass) (s : State := base) : State := { s with bypass := f s.bypass }
def claimed (f : Claims → Claims) (s : State := base) : State := { s with claims := f s.claims }
def lined (f : Line → Line) (s : State := base) : State := { s with line := f s.line }
def visited (f : Visits → Visits) (s : State := base) : State := { s with visits := f s.visits }
def pinned (f : Pins → Pins) (s : State := base) : State := { s with pins := f s.pins }
def conditioned (f : Conditioning → Conditioning) (s : State := base) : State := { s with cond := f s.cond }
def ported (f : Port → Port) (s : State := base) : State := { s with port := f s.port }
def queued (items : List Item) (s : State := base) : State := { s with queue := { s.queue with items := items } }
def stacked (frames : List Frame) (s : State := base) : State := { s with stack := { s.stack with frames := frames } }
def accounted (a : Account) (s : State := base) : State := { s with accounts := { s.accounts with strings := [a] } }
def peered (n : Nat) (p : Peer) (s : State := base) : State := { s with peers := s.peers.set (n - 1) p }

def equalize : EqualizeFrame := { pushed := 0, remaining := 385, minute := 0, origin := .schedule }
def test : TestFrame := { pushed := 0, elapsed := 5000, strings := [{ qt := 3500000, reached := false }], origin := .schedule }
def withdrawal (p : Phase) : WithdrawalFrame :=
  { pushed := 0, origin := .claimed, phase := p, owner := none, returnRequested := false, timer := some 0 }
def ownClaim (k : ClaimKind) (holding : Bool) : OwnClaim :=
  { kind := k, origin := .terminal, owner := none, holding := holding, announced := true, heard := [7], owed := false }
def entry (n : Nat) (k : ClaimKind) (holding : Bool) : ClaimEntry :=
  { station := n, kind := k, holding := holding, confirmed := 0, timer := some 0 }
def item (n : Nat) (k : ItemKind) (t : Target) (severity : Nat) (taken : Option Nat := none) : Item :=
  { number := n, kind := k, target := t, severity := severity, raised := 0, taken := taken, repeats := 0 }
def visit (o : VisitOrigin) : Visit :=
  { number := 17, technician := 3, origin := o, opened := 0, planned := 60, overdue := false, done := [], doneCount := 0,
    used := false, closePending := false, closing := none }
/-- A notice of an ONLINE cabinet of group 2, as in 6.5.1. -/
def notice : Notice :=
  { Notice.blank with group := 2, mode := .online, minHealth := 70, load := 2500, rating := 4000, energy := 3292 }
def peer (n : Notice) : Peer := { state := .live, notice := n, since := 0, staleTimer := some 0 }
/-- The state that a command answers. -/
def after (c : Instr) (s : State) : State := match exec c s with | .next t => t | .fault _ => s | .refused _ => s
/-- A burst of one string with its CRC (5.9.5). -/
def burst (load : Nat) (current temp : Int) : List Byte :=
  let b := [0x5C#8] ++ bytesOf 2 load ++ [1#8] ++ bytesOf 2 48000 ++ signedBytes 2 current ++ signedBytes 2 temp
  b ++ [crc8 b]

/-! ## Well-formed commands -/

def image : Image := { bytes := List.replicate 64 0, fields := { Settings.unread with
  strings := List.replicate 4 { ratedAh := 1, nominalV := 1, endVoltage := 0 }, levels := List.replicate 8 0 } }
def straps : Straps := { id := 6, grp := 2, rate := false }

theorem test_wf_start : (Instr.start straps (some image) [.queue 2]).wellFormed = true := by decide
theorem test_wf_image_length :
    (Instr.start straps (some { image with bytes := List.replicate 63 0 }) []).wellFormed = false := by decide
theorem test_wf_image_strings :
    (Instr.restartStart straps (some { image with fields := { image.fields with strings := [] } }) []).wellFormed = false := by decide
theorem test_wf_image_levels :
    (Instr.start straps (some { image with fields := { image.fields with levels := [1] } }) []).wellFormed = false := by decide
theorem test_wf_page_string : (Instr.start straps none [.string 4]).wellFormed = false := by decide
theorem test_wf_page_queue : (Instr.restartStart straps none [.queue 3]).wellFormed = false := by decide
theorem test_wf_burst_bits : (Instr.measurementBurst [] 8 false).wellFormed = false := by decide
theorem test_wf_station_zero : (Instr.claimReceived 0 .test).wellFormed = false := by decide
theorem test_wf_station_high : (Instr.staleTimerExpiry 25).wellFormed = false := by decide
theorem test_wf_status_length : (Instr.statusReceived 5 [0#8]).wellFormed = false := by decide
theorem test_wf_terminal_low : (Instr.testNow 24 0 []).wellFormed = false := by decide
theorem test_wf_terminal_high : (Instr.stop 31 0 []).wellFormed = false := by decide
theorem test_wf_request_args : (Instr.read 25 0 (List.replicate 11 0)).wellFormed = false := by decide
theorem test_wf_unknown_code : (Instr.unknownRequestCode 25 14 0 []).wellFormed = false := by decide
theorem test_wf_frame_payload :
    (Instr.frameRejected { cls := 0, src := 1, dst := 31, len := 1, payload := [], crc := 0, ends := 7 }).wellFormed = false := by
  decide

/-! ## Worked figures -/

/-- The factors of 2.3.1. -/
theorem test_factors : [12, 20, 51, 80, 99, 100, 108, 122, 140, 180, 200, 259, 260, 280].map tempFactor
    = [64, 64, 113, 192, 252, 256, 307, 396, 512, 1024, 1536, 4040, 4096, 4096] := by decide

/-- The last expiry of an hour at 25.0 °C carries one hour (2.5.1). -/
theorem test_wear_carries : timeWear (increment false 100) { account with wear := 12000, residue := 921344 }
    = { account with wear := 12001, residue := 0 } := by decide

/-- The string near the bound, at 45.0 °C with equalize running (2.5.1). -/
theorem test_wear_saturates : timeWear (increment true 180) { account with wear := 999999, residue := 921000 }
    = { account with wear := 1000000, residue := 0 } := by decide

/-- The depth, weight and wear of 2.8.1 and of string 0 in 4.9. -/
theorem test_discharge_wear : depthOf 7200000 3600110 = 500 ∧ weightOf 500 = 24 ∧ dischargeWear 438 500 = 328
    ∧ depthOf 7200000 3500000 = 486 ∧ weightOf 486 = 16 ∧ dischargeWear 438 486 = 212 := by decide

/-- The health figures of 2.8.1 and 2.10.1. -/
theorem test_health : wearHealth 87600 26000 = 70 ∧ wearHealth 87600 26328 = 69 ∧ wearHealth 87600 26280 = 70
    ∧ healthOf 87600 { account with wear := 26280, measured := 83 } = 70
    ∧ healthOf 87600 { account with wear := 26280, measured := 65 } = 65 := by decide

/-- The energy and runtimes of 2.10.1 and 6.5.1. -/
theorem test_energy_and_runtime :
    energyOf { figures with strings := List.replicate 4 { ratedAh := 200, nominalV := 480, endVoltage := 0 } }
      ([180, 176, 190, 140].map fun a => { account with available := a }) = 3292
    ∧ runtimeOf 3292 2500 = 79 ∧ runtimeOf 3292 4000 = 49 ∧ ceilDiv (10000 * 4000) 12000 = 3334 ∧ runtimeOf 3292 3334 = 59
    ∧ runtimeOf 1500 3334 = 26 ∧ runtimeOf 3292 5000 = 39 ∧ runtimeOf 3292 1800 = 109 ∧ runtimeOf 3292 0 = 999 := by decide

/-- The 30th sample of the tail ends the event of 2.8.1: W 26,328, health 69, a DEPTH latch, STRING_REVIEW and STRING_WEAK. -/
theorem test_burst_ends_event :
    let s := accounted { account with wear := 26000, event := .inEvent, charge := 3600110, tail := 29, health := 70 }
      (lined (fun l => { l with tx := [] }) { base with stack := Stack.start })
    let t := after (.measurementBurst (burst 2500 200 100) 0 false) s
    (t.accounts.strings.map fun a => (a.wear, a.health, a.events, a.charge)) = [(26328, 69, 8, 0)]
      ∧ t.cond.latch = some { origin := .depth, minutes := 720 } ∧ t.monitor.active.stringWeak = true
      ∧ t.queue.items.map Item.kind = [.stringReview] := by decide +kernel

/-- The expiry after burst 260 of 1.8: string LOST at 61, and its SENSOR_CHECK. -/
theorem test_second_loses_temperature :
    let s := { base with intake := { base.intake with
      readings := [{ Reading.start with temp := 124, tempAge := 60, tempState := .usable }] } }
    let t := after .intakeSecondTimerExpiry s
    t.intake.readings.map Reading.tempState = [.lost] ∧ t.monitor.active.tempLost = true ∧ accountingTemp t 0 = 180
      ∧ t.queue.items.map (fun i => (i.kind, i.target, i.severity)) = [(.sensorCheck, .string 0, 2)] := by decide +kernel

/-- A wear second at an accounting temperature of 45.0 °C, with no temperature taken, adds 1024 (R7, 2.3.1). -/
theorem test_wear_second : (after .wearSecondTimerExpiry base).accounts.strings.map Account.residue = [1024] := by decide +kernel

/-- A minute of a running equalize (R47). -/
theorem test_equalize_minute : (after .equalizeMinuteTimerExpiry (stacked [.equalize equalize])).cond.remainingField = 384 := by
  decide +kernel

/-- The test of 4.9 at its limit: string 0 measures 81, below the replace capacity 82, and the next test is due at 13,141. -/
theorem test_test_limit :
    let s := claimed (fun c => { c with own := some (ownClaim .test true) })
      (conditioned (fun c => { c with testSecond := some 0, testLatch := true, testDue := 8760 })
        (stacked [.test { test with elapsed := 7199 }] { base with clock := { base.clock with hours := 8761 } }))
    let t := after .testSecondTimerExpiry s
    (t.accounts.strings.map fun a => (a.lastTest, a.measured, a.health, a.available)) = [(.ended, 81, 81, 162)]
      ∧ t.cond.testDue = 13141 ∧ t.queue.items.map (fun i => (i.kind, i.severity)) = [(.stringReplace, 3)]
      ∧ t.queue.mark = true ∧ t.stack.settle = true := by decide +kernel

/-- The consent of 6.5.1: station 6 consents to station 5's claim; with station 8 at E 1500 it does not. -/
theorem test_consent_to_withdrawal :
    let group (e : Nat) := peered 5 (peer notice) (peered 7 (peer notice) (peered 8 (peer { notice with energy := e })
      { base with accounts := { base.accounts with energy := 3292 } }))
    supports .withdraw (group 3292) 5 = true ∧ supports .withdraw (group 1500) 5 = false
      ∧ supports .withdraw (group 1500) 8 = true
      ∧ (after (.claimReceived 5 .withdraw) (group 3292)).claims.consent = some 5 := by decide +kernel

/-- A CLAIMING station whose one LIVE member names it commits as the member is heard (R116, R117). -/
theorem test_status_commits :
    let s := claimed (fun c => { c with own := some { ownClaim .withdraw false with heard := [] }, window := some 0
                                        list := [entry 6 .withdraw false] })
      (peered 7 (peer { notice with load := 100 }) { base with intake := { base.intake with load := 100 }
                                                               accounts := { base.accounts with energy := 3292 } })
    let t := after (.statusReceived 7 (encodeNotice { notice with load := 100, consent := 6 })) s
    t.holding = true ∧ t.hasWithdrawal = true ∧ t.mbpc = true ∧ t.mode = .withdrawn := by decide +kernel

/-- Mains lost under a withdrawal is deferred, and announced (R42, R125). -/
theorem test_mains_loss_deferred :
    let t := after .mainsLossTimerExpiry (bypassed (fun b => { b with lossTimer := some 0 })
      (stacked [.withdrawal (withdrawal .withdrawn)]))
    t.stack.dischargeDeferred = true ∧ t.hasDischarge = false ∧ (t.line.tx.map TxFrame.cls).head? = some .mains := by decide +kernel

/-- Both contacts asserted: TRANSIT, with the disagree timer (R128). -/
theorem test_contacts_mixed :
    let t := after (.breakerContactChange true true) base
    t.bypass.position = .transit ∧ t.bypass.disagree = some 10 ∧ t.bypass.confirmed = .opened := by decide +kernel

/-- The breaker closed by hand: a MANUAL withdrawal, the condition and the severity-3 item (R134). -/
theorem test_closed_by_hand :
    let t := after (.breakerContactChange true false) base
    t.withdrawal?.map (fun w => (w.origin, w.phase)) = some (.manual, .withdrawn) ∧ t.monitor.active.uncommandedBypass = true
      ∧ t.bypass.breakerCount = 1 ∧ t.queue.items.map (fun i => (i.kind, i.severity)) = [(.breakerService, 3)] := by decide +kernel

/-- The mark of 10.7.1, with U 3 and L 1: held at a count of 2, lowered at 0, raised at 3 and by severity 3. -/
theorem test_mark :
    let two := [item 103 .breakerService .breaker 2, item 104 .staticSwitchService .staticSwitch 2]
    markOf figures two true = true ∧ markOf figures two false = false
      ∧ markOf figures [item 101 .stringReview (.string 1) 1] true = false
      ∧ markOf figures (item 102 .sensorCheck (.string 2) 2 :: two) false = true
      ∧ markOf figures [item 103 .breakerService .breaker 3] false = true := by decide

/-- ITEM_DONE of a static-switch item at 10.7.1 step 7: its count is cleared and the mark falls. -/
theorem test_item_done :
    let s := visited (fun v => { v with current := some (visit (.terminal 25)) })
      (queued [item 101 .stringReview (.string 1) 1, item 104 .staticSwitchService .staticSwitch 2 (some 17)]
        (bypassed (fun b => { b with staticCount := 500 }) { base with queue := { base.queue with mark := true } }))
    let t := after (.itemDone 25 9 [0#8, 104#8]) s
    t.bypass.staticCount = 0 ∧ t.queue.mark = false ∧ t.queue.items.map Item.number = [101]
      ∧ t.line.answers.map Answer.result = [[4#8, 9#8, 0#8]] := by decide +kernel

/-- The levels of 10.7.3: STRING_WEAK alone is below the alert threshold, with PEER_LOST the lamp is on. -/
theorem test_alert :
    let s (peer : Bool) := { base with monitor := { base.monitor with active :=
      { Conditions.inactive with stringWeak := true, peerLost := peer } } }
    (s false).highestLevel = 1 ∧ (s false).alert = false ∧ (s true).highestLevel = 3 ∧ (s true).alert = true := by decide

/-- CLEAR naming PEER_LOST and STRING_WEAK answers PEER_LOST alone (10.7.3). -/
theorem test_clear :
    let s := accounted { account with health := 69 } { base with monitor := { base.monitor with active :=
      { Conditions.inactive with stringWeak := true, peerLost := true } } }
    let t := after (.clear 25 1 [64#8, 64#8]) s
    t.monitor.active.peerLost = false ∧ t.monitor.active.stringWeak = true
      ∧ t.line.answers.map Answer.result = [[11#8, 1#8, 0#8, 0#8, 64#8]] := by decide +kernel

/-- The twelve bytes of a notice, written out from 5.9.3. -/
theorem test_notice_bytes :
    encodeNotice { notice with testing := true, visitRequest := true, claim := some { kind := .test, holding := true }, consent := 24 }
      = [0x81#8, 9#8, 6#8, 24#8, 70#8, 0#8, 0x09#8, 0xC4#8, 0x0F#8, 0xA0#8, 0x0C#8, 0xDC#8] := by decide

/-- A key visit opens out of NORMAL, with the configured planned minutes (R145). -/
theorem test_key_opens :
    let t := after .keySettleTimerExpiry (visited (fun v => { v with settleTimer := some 0 })
      (pinned fun p => { p with keyS := true }))
    t.visits.current.map (fun v => (v.number, v.origin, v.planned, v.technician)) = some (1, .key, 60, 0)
      ∧ t.visits.overdueTimer = some 45000 := by decide +kernel

/-- VISIT_CLOSE with the key in SERVICE: a pending equalize starts before the key visit opens (R153 steps 7 and 8). -/
theorem test_close_lets_equalize_start :
    let t := after (.visitClose 25 9 [0#8, 17#8]) (visited
      (fun v => { v with current := some (visit (.terminal 25)), counter := 17, stable := .service })
      (conditioned fun c => { c with latch := some { origin := .schedule, minutes := 720 } }))
    t.hasEqualize = true ∧ t.visits.current.map (fun v => (v.number, v.origin)) = some (18, .key) := by decide +kernel

/-- A recovery wait that ends on a closed breaker is an uncommanded closure, though a WITHDRAWAL stands (R131). -/
theorem test_recovery_ends_closed :
    let t := after .recoveryWaitExpiry (bypassed (fun b => { b with recovery := some 0, position := .closed })
      (stacked [.withdrawal (withdrawal .returning)]))
    t.monitor.active.uncommandedBypass = true ∧ t.queue.items.map Item.kind = [.breakerService]
      ∧ t.withdrawal? = some (withdrawal .returning) := by decide +kernel

/-- With the withdrawal deferral set, a breaker that bounces without an opening is no second closure (R134). -/
theorem test_bounce_under_deferral :
    let s := bypassed (fun b => { b with position := .transit, confirmed := .closed, mains := .lost })
      (stacked [.discharge { pushed := 0 }] { base with stack := { base.stack with withdrawalDeferred := some .manual } })
    let t := after (.breakerContactChange true false) s
    t.bypass.position = .closed ∧ t.monitor.active.uncommandedBypass = false ∧ t.queue.items = [] := by decide +kernel

/-- The boundary to 8,760 of 4.9 finds the test due, and a claim is made at once. -/
theorem test_hour_falls_due :
    let t := after .hourTimerExpiry (conditioned (fun c => { c with testDue := 8760, equalizeDue := 9000 })
      { base with clock := { base.clock with hours := 8759, hourTimer := some 0 } })
    t.cond.testLatch = true ∧ t.claims.own.map (fun c => (c.kind, c.origin)) = some (.test, .schedule) := by decide +kernel

/-- A reset cuts a page's write short, and its area is bad (R174). -/
theorem test_reset_cuts_write :
    let s := ported fun p => { p with areas := p.areas.set 5 (some (.queue [])), writing := some { page := .queue 0, content := .queue [] } }
    (after .resetNAsserted s).port.areas = List.replicate 8 none ∧ (after .powerLoss s).held = true := by decide +kernel

/-- A start at station number 25 is CONFIG_FAULT, with the alert lamp lit (R166, R170). -/
theorem test_start_faults :
    let t := after (.start { straps with id := 25 } (some image) []) State.reset
    t.line.state = .configFault ∧ t.alert = true ∧ t.held = false := by decide +kernel

/-! ## States and operands that meet the hypotheses of the statements

Each theorem is named after its obligation, and gives for each clause a state and operands that meet its hypotheses. -/

/-- The command ends with a next state. -/
def Goes (s : State) : Prop := ∃ t, step s = .next t

/-- A claimed withdrawal over a suspended equalize, with a visit, items, peers and a page write: what every step keeps holds of it. -/
def sound : State :=
  let s := stacked [.withdrawal (withdrawal .returning), .equalize equalize] (peered 7 (peer notice)
    (claimed (fun c => { c with own := some (ownClaim .withdraw true), list := [entry 6 .withdraw true, entry 7 .test false] })
      (visited (fun v => { v with current := some (visit (.terminal 25)), counter := 17 })
        (queued [item 3 .breakerService .breaker 2 (some 17), item 4 .sensorCheck .nothing 2]
          (bypassed (fun b => { b with pulse := some { kind := .mbpo, left := 0 }, waitingPulse := some .mbpc })
            (ported (fun p => { p with writing := some { page := .queue 0, content := .queue [] } })
              (lined (fun l => { l with tx := [{ newFrame .status 31 (encodeNotice notice) with inFlight := true },
                newFrame .status 31 (encodeNotice notice)] }))))))))
  retakeConsent (refresh { s with pending := [.pulseEnd] })

theorem test_met_StepRunsTheFrontCommand : { base with pending := [.frameStart, .pulseEnd] }.pending = .frameStart :: [.pulseEnd] :=
  rfl
theorem test_met_EmptyQueueCountsATenth :
    (base.pending = [] ∧ base.running = true) ∧ State.reset.pending = [] ∧ State.reset.running = false := by decide
theorem test_met_StepKeepsStackSound : StackSound sound ∧ Goes sound := ⟨by unfold StackSound; decide +kernel, _, rfl⟩
theorem test_met_StepKeepsLineSound : QueueBounded sound ∧ SilentEmpty sound ∧ Goes sound :=
  ⟨by unfold QueueBounded; decide +kernel, by unfold SilentEmpty; decide +kernel, _, rfl⟩
theorem test_met_StepKeepsItemsSound : ItemsSound sound ∧ Goes sound := by
  refine ⟨⟨by decide +kernel, by decide +kernel, ?_⟩, _, rfl⟩
  have h : ∀ it ∈ sound.queue.items, it.taken = none ∨ it.taken = sound.visits.current.map Visit.number := by decide +kernel
  intro it hit n hn
  rcases h it hit with h | h
  · rw [h] at hn; cases hn
  · rw [← h, hn]
theorem test_met_StepKeepsClaimListSound : ClaimListSound sound ∧ Goes sound := ⟨by unfold ClaimListSound; decide +kernel, _, rfl⟩
theorem test_met_StepKeepsConsentCurrent : ConsentCurrent sound ∧ ConflictLatched sound ∧ Goes sound :=
  ⟨by unfold ConsentCurrent; decide +kernel, by unfold ConflictLatched; decide +kernel, _, rfl⟩
theorem test_met_StepKeepsConditionsFollow : ConditionsFollow sound ∧ Goes sound :=
  ⟨by unfold ConditionsFollow; decide +kernel, _, rfl⟩
theorem test_met_StepLeavesNothingDue : NothingDue sound ∧ StackSound sound ∧ IdleAtStart sound ∧ Goes sound :=
  ⟨by unfold NothingDue; decide +kernel, by unfold StackSound; decide +kernel, by unfold IdleAtStart; decide +kernel, _, rfl⟩
theorem test_met_StepKeepsWearSound : WearSound sound ∧ Goes sound := by
  have areas : sound.port.areas = List.replicate 8 none := by decide +kernel
  have writing : sound.port.writing = some { page := .queue 0, content := .queue [] } := by decide +kernel
  refine ⟨⟨by unfold wearInRange; decide +kernel, ?_, ?_⟩, _, rfl⟩
  · intro c h
    rw [areas] at h
    simp at h
  · intro w h
    rw [writing] at h
    cases h
    trivial
theorem test_met_StepKeepsOwnEntryAndPulses : OwnEntryEmpty sound ∧ PulsesSound sound ∧ Goes sound :=
  ⟨by unfold OwnEntryEmpty; decide +kernel, ⟨{ kind := .mbpo, left := 0 }, by decide +kernel, by decide⟩, _, rfl⟩
theorem test_met_StepKeepsDischargeSound : DischargeSound sound ∧ Goes sound := ⟨by unfold DischargeSound; decide +kernel, _, rfl⟩
theorem test_met_StepKeepsIdleAtStart : IdleAtStart { State.reset with pending := [.lineSynchronised] }
    ∧ State.reset.running = false ∧ Goes { State.reset with pending := [.lineSynchronised] } :=
  ⟨by unfold IdleAtStart; decide +kernel, by decide, _, rfl⟩
theorem test_met_NoticeReadsBack :
    let n := { notice with group := 3, consent := 24, minHealth := 100, level := 3, load := 65535, rating := 65535, energy := 65535 }
    n.group < 4 ∧ n.consent ≤ 24 ∧ n.minHealth ≤ 100 ∧ n.level ≤ 3 ∧ n.load < 65536 ∧ n.rating < 65536 ∧ n.energy < 65536 := by
  decide
theorem test_met_SentFramesAreValid :
    isStation 1 = true ∧ isStation 24 = true
    ∧ (∀ c ∈ [FrameClass.mains, .claim, .release], (newFrame c 31 [2#8]).dest = 31 ∧ (newFrame c 31 [2#8]).payload = [2#8])
    ∧ (encodeNotice notice).length = 12 ∧ (decodeNotice (encodeNotice notice)).isSome = true
    ∧ isTerminal 25 = true ∧ isTerminal 30 = true
    ∧ (recordPayload 4 0 0 (List.replicate 9 0#8)).length = 12 := by decide +kernel

theorem test_met_BurstChecks :
    base.running = true ∧ (3 : Nat) < 8 ∧ ([] : List Byte).length < 11 ∧ 29 < (List.replicate 30 0#8).length
    ∧ crc8 (List.replicate 10 1#8) ≠ (List.replicate 11 1#8).getLastD 0
    ∧ (List.replicate 11 0#8).headD 0 ≠ 0x5C#8 ∧ crc8 (List.replicate 10 0#8) = (List.replicate 11 0#8).getLastD 0
    ∧ (burst 1 2 3).length = 5 + 6 * base.cfg.stringCount ∧ crc8 (burst 1 2 3).dropLast = (burst 1 2 3).getLastD 0
    ∧ (burst 1 2 3).headD 0 = 0x5C#8 ∧ ((burst 1 2 3).getD 3 0).toNat = base.cfg.stringCount := by decide +kernel
theorem test_met_AcceptedBurstIsHeld :
    base.running = true
    ∧ checkBurst base.cfg.stringCount (burst 65535 (-50) (-32768)) 0 = .accepted 65535 [{ voltage := 48000, current := -50, temp := -32768 }]
    ∧ checkBurst base.cfg.stringCount (burst 0 0 181) 0 = .accepted 0 [{ voltage := 48000, current := 0, temp := 181 }]
    ∧ base.intake.readings.length = 1 ∧ base.monitor.hot.length = 1 := by decide +kernel
theorem test_met_SampleRunsDischargeEvents :
    let b (c : Int) : BurstVerdict := checkBurst base.cfg.stringCount (burst 0 c 100) 0
    let open_ (tail : Nat) := accounted { account with event := .inEvent, charge := 3600000, tail := tail }
    base.running = true ∧ b (-50) = .accepted 0 [{ voltage := 48000, current := -50, temp := 100 }]
    ∧ b (-49) = .accepted 0 [{ voltage := 48000, current := -49, temp := 100 }]
    ∧ (-50 : Int) ≤ -(base.cfg.dischargeThreshold : Int) ∧ ¬(-49 : Int) ≤ -(base.cfg.dischargeThreshold : Int)
    ∧ base.accounts.strings[0]? = some account ∧ account.event = .idle
    ∧ (open_ 28).accounts.strings[0]?.map Account.tail = some 28 ∧ (open_ 29).accounts.strings[0]?.map Account.tail = some 29
    ∧ 500 ≤ min 1000 (3600000 * 1000 / ((stringSettings base 0).ratedAh * 36000)) := by decide +kernel
theorem test_met_IntakeSecondAges :
    base.intake.second.isSome = true ∧ base.intake.gap = false
    ∧ 5 < min 255 ({ base.intake with burstAge := 5 }.burstAge + 1) := by decide
theorem test_met_AccountingTemperature :
    let r := { Reading.start with tempState := .usable, temp := 100 }
    let s := { base with intake := { base.intake with readings := [r] } }
    s.intake.readings[0]? = some r ∧ r.tempState = .usable ∧ s.intake.gap = false
    ∧ base.intake.readings[0]? = some Reading.start ∧ Reading.start.tempState ≠ .usable := by decide
theorem test_met_FactorFollowsTheLine : (20 : Int) ≤ 20 ∧ (20 : Int) ≤ 260 ∧ (20 : Int) ≤ 260 ∧ (260 : Int) ≤ 260 := by decide
theorem test_met_FactorIsClamped : (19 : Int) < 20 ∧ (260 : Int) < 261 := by decide
theorem test_met_WearSecondCountsTime :
    base.accounts.second.isSome = true ∧ base.accounts.strings[0]? = some account ∧ base.port.states.length = 8
    ∧ account.wear < 1000000 ∧ account.residue + tempFactor (accountingTemp base 0) < 921600
    ∧ 921600 ≤ 920576 + tempFactor (accountingTemp base 0) := by decide
theorem test_met_DepthAndWeight : (1 : Nat) ≤ 200 ∧ 200 ≤ 65535 ∧ 4294967295 ≤ 4294967295 ∧ 438 ≤ 4095 ∧ 7199 < 200 * 36
    ∧ depthOf (200 * 36000) 1439999 = 199 ∧ depthOf (200 * 36000) 1440000 = 200 ∧ depthOf (200 * 36000) 3599999 = 499
    ∧ depthOf (200 * 36000) 3600000 = 500 ∧ depthOf (200 * 36000) 5759999 = 799 ∧ depthOf (200 * 36000) 5760000 = 800 := by decide
theorem test_met_RecomputeCrossesThresholds : base.accounts.strings[0]? = some account := by decide

theorem test_met_EqualizeMinuteCounts :
    (stacked [.equalize { equalize with remaining := 2 }, .test test]).stack.frames
      = .equalize { equalize with remaining := 2 } :: [.test test]
    ∧ (stacked [.equalize { equalize with remaining := 1 }]).stack.frames = .equalize { equalize with remaining := 1 } :: []
    ∧ base.port.states.length = 8 := by decide
theorem test_met_TestRunIsCounted :
    let s (e qt : Nat) (cfg : Settings) := refresh (peered 7 (peer notice) (claimed (fun c => { c with own := some (ownClaim .test true) })
      (conditioned (fun c => { c with testSecond := some 0 })
        (stacked [.test { test with elapsed := e, strings := [{ qt := qt, reached := false }] }] { base with cfg := cfg }))))
    let spent := { figures with strings := [{ ratedAh := 200, nominalV := 480, endVoltage := 48000 }] }
    let bs : List BurstString := [{ voltage := 48000, current := -50, temp := 100 }]
    let sampled (s : State) := sampleAccounts bs { s with intake := takeBurst 2500 bs s.intake }
    (s 7198 0 figures).stack.frames = [.test { test with elapsed := 7198, strings := [{ qt := 0, reached := false }] }]
    ∧ (s 7198 0 figures).holding = true ∧ (s 7198 0 figures).cond.testSecond.isSome = true ∧ TestStands (s 7198 0 figures)
    ∧ 7198 + 1 < base.cfg.testLimit * 60 ∧ base.cfg.testLimit * 60 ≤ 7199 + 1 ∧ base.running = true
    ∧ checkBurst 1 (burst 2500 (-50) 100) 0 = .accepted 2500 bs ∧ ([{ qt := 0, reached := false }] : List TestString).length = bs.length
    ∧ barsTest bs (sampled (s 0 4319950 figures)) = false ∧ barsTest bs (sampled (s 0 4319949 spent)) = false
    ∧ (∀ q ∈ afterSample figures bs [{ qt := 4319950, reached := false }], q.reached = true)
    ∧ ¬(∀ q ∈ afterSample figures bs [{ qt := 4319949, reached := false }], q.reached = true)
    ∧ 48000 ≤ (stringSettings (s 0 0 spent) 0).endVoltage ∧ ¬48000 ≤ (stringSettings (s 0 0 figures) 0).endVoltage
    ∧ TestStands (s 0 4319949 figures) := by
  unfold TestStands ConditionsFollow
  decide +kernel

/-- A queue with a frame in flight, whose fields the tests choose. -/
def flying (f : TxFrame) (rest : List TxFrame := []) : State := lined fun l => { l with tx := { f with inFlight := true } :: rest }
def statusFrame : TxFrame := newFrame .status 31 (encodeNotice notice)

theorem test_met_LowestClassOldestStarts :
    let tx := [newFrame .release 31 [1#8], newFrame .mains 31 [1#8], newFrame .mains 31 [2#8]]
    let s := lined fun l => { l with tx := tx }
    s.sending = true ∧ s.line.synchronised = true ∧ (∀ g ∈ s.line.tx, g.inFlight = false)
    ∧ s.line.tx[1]? = some (newFrame .mains 31 [1#8]) ∧ (∀ g ∈ s.line.tx, FrameClass.mains.code ≤ g.cls.code)
    ∧ (tx.take 1).all (fun g => g.cls != .mains) = true
    ∧ base.line.tx = [] ∧ (flying statusFrame).line.tx.any TxFrame.inFlight = true := by decide
theorem test_met_FrameNotSent :
    let claim := newFrame .claim 31 [1#8]
    let s := claimed (fun c => { c with own := some (ownClaim .withdraw false), window := some 0 }) (flying claim)
    s.line.tx[0]? = some { claim with inFlight := true } ∧ s.line.tx.length ≤ 6 ∧ s.sending = true
    ∧ s.claims.own = some (ownClaim .withdraw false) ∧ (ownClaim .withdraw false).owed = false
    ∧ s.claims.window.isSome = true ∧ claim.fresh = true
    ∧ (flying statusFrame).line.tx[0]? = some { statusFrame with inFlight := true } ∧ statusFrame.cls ≠ .claim
    ∧ (flying statusFrame).claims.own = none := by decide
theorem test_met_FrameSentIsReported :
    let claim := newFrame .claim 31 [1#8]
    let own := { ownClaim .withdraw false with announced := false, heard := [] }
    let s := retakeConsent (refresh (peered 7 (peer notice)
      (claimed (fun c => { c with own := some own, window := some 0, list := [entry 6 .withdraw false] }) (flying claim))))
    let idle := retakeConsent (refresh (flying statusFrame))
    (flying statusFrame).line.tx[0]? = some { statusFrame with inFlight := true } ∧ statusFrame.fresh = true
    ∧ Quiet idle ∧ ConditionsFollow idle ∧ ConsentCurrent idle
    ∧ s.line.tx[0]? = some { claim with inFlight := true } ∧ claim.fresh = true ∧ s.claims.own = some own
    ∧ own.holding = false ∧ own.owed = false ∧ s.hasTest = false ∧ s.hasEqualize = false ∧ ConditionsFollow s ∧ ConsentCurrent s
    ∧ mustYield s = false ∧ (∃ e ∈ memberPeers s, e.2.state = .live ∧ e.1 ∉ own.heard)
    ∧ s.receiving = true ∧ isStation 8 = true ∧ 8 ≠ s.id.station ∧ 8 ≤ s.peers.length
    ∧ decodeNotice (encodeNotice notice) = some notice ∧ notice.group = s.id.group ∧ notice.claim = none
    ∧ notice.consent ≠ s.id.station ∧ own.kind = .withdraw := by
  unfold Quiet ConditionsFollow ConsentCurrent
  decide +kernel
theorem test_met_RejectedFrameIsCounted :
    let f : RxFrame := { cls := 0, src := 5, dst := 31, len := 1, payload := [1#8], crc := 0, ends := 7 }
    let good (f : RxFrame) : RxFrame := { f with crc := crc16 (coveredBits f) }
    base.receiving = true ∧ f.wellFormed = true
    ∧ { f with len := 13, payload := List.replicate 12 0#8 }.wellFormed = true ∧ 12 < (13#4).toNat ∧ (5#3) ≠ 7#3
    ∧ f.crc ≠ crc16 (coveredBits f) ∧ 6 < (7#4).toNat
    ∧ lengthSuits 0 2 = false ∧ (good { f with len := 2, payload := [1#8, 0#8] }).wellFormed = true
    ∧ addressSuits 6 0 25 31 = false ∧ contentSuits 0 [3#8] = false ∧ lengthSuits 0 1 = true ∧ addressSuits 6 0 5 31 = true := by
  decide +kernel
theorem test_met_ReceiverCounts : base.running = true ∧ base.receiving = true := by decide
theorem test_met_StatusNoticesAreQueued :
    let s := lined fun l => { l with statusTimer := some 0 }
    let full := List.replicate 6 (newFrame .mains 31 [1#8])
    s.line.statusTimer.isSome = true ∧ s.sending = true ∧ s.line.tx.any TxFrame.isWaitingStatus = false ∧ s.line.tx.length < 6
    ∧ (lined fun l => { l with tx := [statusFrame] }).line.tx.any TxFrame.isWaitingStatus = true
    ∧ full.any TxFrame.isWaitingStatus = false ∧ 6 ≤ full.length
    ∧ (pinned fun p => { p with bypLoad := true }).mode ≠ base.mode := by decide
theorem test_met_JoiningEnds :
    let s := lined fun l => { l with joiningTimer := some 0, state := .joining }
    let closed (s : State) := bypassed (fun b => { b with position := .closed }) s
    s.line.joiningTimer.isSome = true ∧ s.line.state = .joining ∧ s.bypass.position ≠ .closed
    ∧ (closed s).bypass.position = .closed ∧ equalizeAtMost (closed s).stack.frames = true
    ∧ (stacked [.discharge { pushed := 0 }] (closed s)).hasDischarge = true := by decide
theorem test_met_DuplicateMutes :
    base.receiving = true ∧ base.sending = true
    ∧ (lined fun l => { l with state := .muted }).receiving = true ∧ (lined fun l => { l with state := .muted }).sending = false := by
  decide

theorem test_met_StatusRefreshesPeer :
    let said (holding : Bool) := { notice with claim := some { kind := .test, holding := holding } }
    let four := [entry 1 .withdraw true, entry 2 .withdraw false, entry 3 .test false, entry 4 .test true]
    let held := [1, 2, 3, 4].map fun n => entry n .withdraw true
    let own := claimed fun c => { c with own := some (ownClaim .test false), list := four.take 2 ++ [entry 5 .test false, entry 6 .test false] }
    base.receiving = true ∧ isStation 24 = true ∧ 24 ≠ base.id.station ∧ decodeNotice (encodeNotice notice) = some notice
    ∧ findEntry 24 base.claims.list = none ∧ notice.claim = none
    ∧ decodeNotice (encodeNotice (said false)) = some (said false) ∧ (said false).group = base.id.group
    ∧ (four.take 3).length < 4 ∧ findEntry 24 (four.take 3) = none ∧ (four.take 2).length < 3 ∧ claimsIdle own = false
    ∧ (four.filter fun x => x.station != 4).length = 3 ∧ keyOf .test 3 < keyOf .test 24 ∧ keyOf .withdraw 24 < keyOf .test 3
    ∧ own.claims.list = own.claims.list.take 3 ++ entry 6 .test false :: [] ∧ own.claims.list.length = 4
    ∧ findEntry 24 own.claims.list = none ∧ (entry 6 .test false).station = own.id.station ∧ own.claiming = true
    ∧ (said true).claim = some { kind := .test, holding := true }
    ∧ decodeNotice (encodeNotice (said true)) = some (said true)
    ∧ four = [entry 1 .withdraw true, entry 2 .withdraw false] ++ entry 3 .test false :: [entry 4 .test true] ∧ four.length = 4
    ∧ findEntry 24 four = none ∧ (entry 3 .test false).holding = false ∧ (∀ x ∈ [entry 4 .test true], x.holding = true)
    ∧ (entry 3 .test false).station ≠ base.id.station ∧ held.length = 4 ∧ findEntry 24 held = none ∧ (∀ x ∈ held, x.holding = true)
    ∧ (entry 1 .withdraw true).station ≠ 24 ∧ (four.take 3).length < 4 ∧ findEntry 4 four ≠ none := by decide +kernel
theorem test_met_PeerGoesStale :
    let s := peered 7 (peer notice) (peered 8 (peer { notice with group := 1 }))
    (s.peer 7).state = .live ∧ (s.peer 7).staleTimer.isSome = true ∧ 7 ≠ s.id.station ∧ (s.peer 7).notice.group = s.id.group
    ∧ (s.peer 8).state = .live ∧ (s.peer 8).staleTimer.isSome = true ∧ (s.peer 8).notice.group ≠ s.id.group := by decide
theorem test_met_KeysRankClaims : isStation 1 = true ∧ isStation 24 = true ∧ 1 < 24 ∧ keyOf .test 24 = keyOf .test 24 := by decide
theorem test_met_ClaimListFollowsFrames :
    let s := peered 7 (peer notice) (claimed fun c => { c with list := [entry 7 .withdraw true] })
    let t := peered 7 (peer notice)
    let full (w : ClaimEntry) := [entry 1 .withdraw false, entry 2 .withdraw false, entry 3 .withdraw false] ++ w :: []
    let own := peered 5 (peer notice) (claimed fun c => { c with own := some (ownClaim .test false), list := full (entry 6 .test false) })
    isStation 7 = true ∧ 7 ≠ s.id.station ∧ s.receiving = true
    ∧ (s.peer 7).state = .live ∧ (s.peer 7).notice.group = s.id.group ∧ (base.peer 7).state ≠ .live
    ∧ findEntry 7 s.claims.list = some (entry 7 .withdraw true) ∧ (entry 7 .withdraw true).timer.isSome = true
    ∧ findEntry 7 t.claims.list = none ∧ t.claims.list.length < 3 ∧ (own.claims.list.take 3).length < 4
    ∧ findEntry 3 own.claims.list = some (entry 3 .withdraw false) ∧ (entry 3 .withdraw false).holding = false
    ∧ (own.claims.list.filter fun e => e.station != 3).length = 3
    ∧ findEntry 7 (full (entry 8 .withdraw false)) = none ∧ (full (entry 8 .withdraw false)).length = 4
    ∧ (entry 8 .withdraw false).holding = false ∧ keyOf .withdraw 8 ≤ keyOf .test 7 ∧ keyOf .withdraw 7 < keyOf .withdraw 8
    ∧ (entry 8 .withdraw false).station ≠ base.id.station ∧ claimsIdle own = false
    ∧ (own.peer 5).state = .live ∧ (own.peer 5).notice.group = own.id.group ∧ findEntry 5 own.claims.list = none
    ∧ own.claims.list = full (entry 6 .test false) ∧ keyOf .test 5 < keyOf .test 6 ∧ (entry 6 .test false).station = own.id.station
    ∧ own.claiming = true := by decide
theorem test_met_ClaimWindowAndSpacing :
    let s := claimed fun c => { c with own := some (ownClaim .test false), window := some 0 }
    s.claims.own = some (ownClaim .test false) ∧ (ownClaim .test false).holding = false ∧ s.claims.window.isSome = true
    ∧ s.line.tx.length < 6 ∧ s.sending = true ∧ (claimed fun c => { c with spacing := some 0 }).claims.spacing.isSome = true := by decide
theorem test_met_CommitConditions :
    let holders := claimed fun c => { c with list := [entry 3 .withdraw false, entry 7 .withdraw true, entry 24 .test true] }
    let waiting := claimed fun c => { c with list := [entry 7 .withdraw false, entry 24 .test false] }
    (∀ e ∈ memberPeers base, e.2.state ≠ .live)
    ∧ ClaimListSound base ∧ ClaimListSound holders ∧ ClaimListSound waiting ∧ (lined fun l => { l with state := .muted }).line.state ≠ .active
    ∧ base.line.state = .active ∧ base.claims.latch = false ∧ base.monitor.active.mainsLost = false
    ∧ base.monitor.active.onBypass = false ∧ base.monitor.active.claimConflict = false ∧ base.claims.list = []
    ∧ (∀ x ∈ holders.claims.list, x.holding = true → x ≠ entry 7 .withdraw true → keyOf .withdraw 7 < keyOf x.kind x.station)
    ∧ (∀ x ∈ waiting.claims.list, x.holding = false)
    ∧ ∀ x ∈ waiting.claims.list, x ≠ entry 7 .withdraw false → keyOf .withdraw 7 < keyOf x.kind x.station := by
  unfold ClaimListSound
  decide
theorem test_met_CommitIsOneEvent :
    let s (k : ClaimKind) := claimed fun c => { c with own := some (ownClaim k false), list := [entry 6 k false] }
    (s .test).claims.own = some (ownClaim .test false) ∧ conflictWith 6 [entry 6 .test true] = false
    ∧ (s .test).claims.list.map (fun e => if e.station = 6 then { e with holding := true } else e) = [entry 6 .test true]
    ∧ (s .test).stack.frames = [] ∧ equalizeAtMost (s .withdraw).stack.frames = true
    ∧ (ownClaim .withdraw false).holding = false ∧ (stacked [.equalize equalize] (s .test)).stack.frames ≠ []
    ∧ (stacked [.discharge { pushed := 0 }] (s .withdraw)).stack.frames = .discharge { pushed := 0 } :: []
    ∧ (Frame.discharge { pushed := 0 }).isEqualize = false ∧ (Frame.test test).isEqualize = false
    ∧ (Frame.withdrawal (withdrawal .withdrawn)).isEqualize = false
    ∧ (∃ e ∈ [entry 6 .test false, entry 7 .test true], e.station = 6)
    ∧ (∃ e ∈ [entry 6 .test false, entry 7 .test true], e.station ≠ 6 ∧ e.holding = true) := by decide

theorem test_met_PinEventsAreTaken :
    false ≠ base.pins.mainsOk ∧ State.reset.running = false ∧ true ≠ State.reset.pins.mainsOk ∧ base.running = true
    ∧ base.bypass.mains = .present ∧ (bypassed fun b => { b with mains := .lost }).bypass.mains = .lost
    ∧ ¬(true = base.pins.keyS ∧ false = base.pins.keyW) ∧ base.bypass.pulse = none
    ∧ (bypassed fun b => { b with pulse := some { kind := .mbpc, left := 0 } }).bypass.pulse ≠ none
    ∧ (bypassed fun b => { b with disagree := some 0 }).bypass.disagree.isSome = true
    ∧ base.receiving = true ∧ isStation 1 = true ∧ 1 ≠ base.id.station
    ∧ base.line.state ≠ .joining ∧ (lined fun l => { l with state := .joining }).line.state = .joining
    ∧ Frame.withdrawal (withdrawal .stuck) ∈ (stacked [.withdrawal (withdrawal .stuck)]).stack.frames
    ∧ (∀ w, Frame.withdrawal w ∉ base.stack.frames) ∧ (pinned fun p => { p with bypLoad := true }).pins.bypLoad = true
    ∧ base.pins.bypLoad = false ∧ (∀ w, Frame.withdrawal w ∉ (stacked [.discharge { pushed := 0 }]).stack.frames)
    ∧ Frame.discharge { pushed := 0 } ∈ (stacked [.discharge { pushed := 0 }]).stack.frames
    ∧ ∀ d, Frame.discharge d ∉ base.stack.frames := by
  simp [base, stacked, lined, pinned, bypassed, State.blocksAtStart, Stack.start, State.reset, Bypass.start, Line.start, State.running,
    State.receiving, isStation]
theorem test_met_MainsLostAndRestored :
    let s := bypassed fun b => { b with lossTimer := some 0, qualTimer := some 0 }
    s.bypass.lossTimer.isSome = true ∧ s.bypass.qualTimer.isSome = true ∧ s.line.tx.length < 6
    ∧ equalizeAtMost s.stack.frames = true ∧ s.line.state = .active ∧ s.hasDischarge = false
    ∧ (stacked [.withdrawal (withdrawal .withdrawn)] s).hasWithdrawal = true
    ∧ (stacked [.test test] s).stack.frames = [.test test]
    ∧ (claimed (fun c => { c with own := some (ownClaim .test true) }) s).holding = true
    ∧ (stacked [.discharge { pushed := 0 }, .equalize equalize] s).stack.frames = .discharge { pushed := 0 } :: [.equalize equalize]
    ∧ equalizeAtMost [.equalize equalize] = true := by decide
theorem test_met_BreakerAndStaticSwitch :
    let at_ (p : Position) := bypassed fun b => { b with position := p }
    (false = base.pins.mbpCl ∧ true = base.pins.mbpOp) ∧ ¬(true = base.pins.mbpCl ∧ true = base.pins.mbpOp)
    ∧ State.reset.running = false ∧ base.running = true ∧ (at_ .transit).bypass.position = .transit
    ∧ (at_ .disagree).bypass.position = .disagree ∧ base.bypass.position = .opened ∧ base.hasWithdrawal = false
    ∧ (bypassed fun b => { b with recovery := some 1 }).bypass.recovery.isSome = true
    ∧ (at_ .closed).bypass.position ≠ .opened
    ∧ base.bypass.confirmed = .opened ∧ min 65535 (99 + 1) = base.cfg.breakerInterval
    ∧ true ≠ base.pins.bypLoad ∧ base.hasTest = false ∧ base.queue.items.length < 24
    ∧ min 65535 (499 + 1) = base.cfg.staticInterval := by decide
theorem test_met_TransferAndReturn :
    let s (p : Phase) := stacked [.withdrawal (withdrawal p), .equalize equalize]
      (claimed fun c => { c with own := some (ownClaim .withdraw true) })
    (s .transferring).stack.frames = .withdrawal (withdrawal .transferring) :: [.equalize equalize]
    ∧ equalizeAtMost [.equalize equalize] = true ∧ base.running = true
    ∧ ¬(base.pins.mbpCl = true ∧ base.pins.mbpOp = false) ∧ (s .transferring).bypass.position ≠ .closed
    ∧ { withdrawal .transferring with returnRequested := true }.returnRequested = true ∧ (s .transferring).bypass.pulse = none
    ∧ (pinned (fun p => { p with mbpCl := true, mbpOp := false })).pins.mbpCl = true
    ∧ (bypassed (fun b => { b with position := .closed }) (s .returning)).bypass.position ≠ .opened
    ∧ (withdrawal .returning).owner = none ∧ (withdrawal .returning).origin = .claimed ∧ (s .returning).holding = true
    ∧ (s .returning).stack.dischargeDeferred = false ∧ (withdrawal .returning).timer.isSome = true
    ∧ (s .returning).queue.items.length < 24 ∧ (s .transferring).visits.requestHeld = false ∧ (withdrawal .transferring).timer.isSome = true
    ∧ (withdrawal .stuck).phase = .stuck ∧ { withdrawal .stuck with origin := .manual }.origin ≠ .claimed ∧ base.claims.own = none
    ∧ (s .stuck).visits.current = none := by decide
theorem test_met_UncommandedMovement :
    let closed := pinned (fun p => { p with mbpCl := true, mbpOp := false }) (bypassed fun b => { b with position := .closed, recovery := some 0 })
    let held := claimed (fun c => { c with own := some (ownClaim .test true) })
    base.running = true ∧ ¬(base.pins.mbpCl = true ∧ base.pins.mbpOp = false) ∧ base.bypass.position ≠ .closed
    ∧ base.bypass.recovery = none ∧ base.pastJoining = true ∧ base.hasWithdrawal = false ∧ equalizeAtMost base.stack.frames = true
    ∧ (stacked [.discharge { pushed := 0 }]).hasDischarge = true ∧ (stacked [.test test] held).holding = true
    ∧ ¬(closed.pins.mbpCl = false ∧ closed.pins.mbpOp = true) ∧ closed.bypass.position ≠ .opened ∧ closed.pastJoining = true
    ∧ (withdrawal .withdrawn).phase = .withdrawn ∧ (withdrawal .withdrawn).origin = .claimed
    ∧ (claimed (fun c => { c with own := some (ownClaim .withdraw true) }) closed).holding = true
    ∧ { withdrawal .withdrawn with origin := .manual }.origin ≠ .claimed ∧ closed.claims.own = none
    ∧ closed.bypass.recovery.isSome = true ∧ closed.bypass.position = .closed ∧ equalizeAtMost closed.stack.frames = true
    ∧ { base.stack with withdrawalDeferred := some .manual }.withdrawalDeferred ≠ none ∧ closed.bypass.confirmed ≠ .closed
    ∧ (bypassed fun b => { b with confirmed := .closed }).bypass.confirmed = .closed ∧ base.stack.withdrawalDeferred = none
    ∧ (stacked [.withdrawal (withdrawal .returning)] closed).hasWithdrawal = true
    ∧ (stacked [.withdrawal (withdrawal .returning)] closed).hasDischarge = false
    ∧ base.hasTest = false ∧ base.queue.items.length < 24 := by decide

theorem test_met_KeyMovesAndOverdueVisit :
    let s (p : KeyPosition) (keyS keyW : Bool) := visited (fun v => { v with settleTimer := some 0, stable := p, overdueTimer := some 0 })
      (pinned fun q => { q with keyS := keyS, keyW := keyW })
    let open_ (s : State) := visited (fun v => { v with current := some (visit .key) }) s
    let owned := { withdrawal .withdrawn with owner := some 17 }
    (s .normal true true).visits.settleTimer.isSome = true ∧ (s .normal true true).pins.keyS = true
    ∧ ((s .service true false).pins.keyS = (KeyPosition.service == .service) ∧ (s .service true false).pins.keyW = (KeyPosition.service == .withdraw))
    ∧ ((s .normal false true).pins.keyW = (KeyPosition.withdraw == .withdraw) ∧ (s .normal false true).visits.current = none)
    ∧ (open_ (s .service false true)).visits.current = some (visit .key)
    ∧ mayClaim (open_ (s .service false true)) .withdraw = true
    ∧ (open_ (s .service false true)).monitor.active = followed (open_ (s .service false true))
    ∧ (open_ (s .service false true)).claims.own = none ∧ (open_ (s .service false true)).visits.requestHeld = false
    ∧ (stacked [.withdrawal (withdrawal .withdrawn)] (open_ (s .service false true))).stack.frames = .withdrawal (withdrawal .withdrawn) :: []
    ∧ (withdrawal .withdrawn).owner = none
    ∧ (s .withdraw true false).visits.stable = .withdraw ∧ (s .withdraw true false).claiming = false
    ∧ (s .withdraw true false).hasWithdrawal = false ∧ (s .withdraw true false).bypass.pulse = none
    ∧ (visit .key).origin = .key ∧ (open_ (s .service false false)).hasTest = false ∧ owned.owner = some (visit .key).number
    ∧ (s .normal true true).visits.overdueTimer.isSome = true := by decide
theorem test_met_VisitRequests :
    let open_ (o : VisitOrigin) := visited fun v => { v with current := some (visit o) }
    Servable 25 1#8 9#8 [0#8, 1#8, 1#8, 0xE0#8] base ∧ Servable 30 2#8 9#8 [0#8, 17#8] (open_ (.terminal 25))
    ∧ (256 * (1#8).toNat + (0xE0#8).toNat = 480) ∧ 480 < 256 * (1#8).toNat + (0xE1#8).toNat ∧ base.visits.current = none
    ∧ (open_ .key).visits.current.isSome = true ∧ (visit .key).origin = .key ∧ 256 * (0#8).toNat + (17#8).toNat = (visit .key).number
    ∧ 256 * (0#8).toNat + (16#8).toNat ≠ (visit .key).number ∧ (open_ (.terminal 25)).visits.stable = .normal
    ∧ (open_ (.terminal 25)).withdrawal? = none ∧ base.hasTest = false
    ∧ (stacked [.withdrawal { withdrawal .withdrawn with owner := some 17 }]).withdrawal?.map WithdrawalFrame.owner = some (some 17) := by
  unfold Servable
  decide
theorem test_met_ItemRequests :
    let items (taken : Option Nat) := [item 3 .staticSwitchService .staticSwitch 2 taken, item 260 .stringReplace (.string 0) 3 taken]
    let s (taken : Option Nat) := visited (fun v => { v with current := some (visit (.terminal 25)) }) (queued (items taken))
    (∀ c ∈ [3#8, 4#8, 5#8], Servable 25 c 9#8 [1#8, 4#8] (s none))
    ∧ 256 * (0#8).toNat + (0#8).toNat = 0 ∧ base.visits.current = none ∧ (∀ it ∈ (s none).queue.items, it.number ≠ 4)
    ∧ 256 * (1#8).toNat + (4#8).toNat = 260 ∧ (s none).queue.items[1]? = some (item 260 .stringReplace (.string 0) 3)
    ∧ ((s none).queue.items.take 1).all (fun x => x.number != 260) = true
    ∧ (s none).queue.items.countP (fun x => x.taken == some 17) < 8
    ∧ 8 ≤ (List.replicate 8 (item 3 .staticSwitchService .staticSwitch 2 (some 17))).countP (fun x => x.taken == some 17)
    ∧ (s (some 17)).queue.items[1]? = some (item 260 .stringReplace (.string 0) 3 (some 17)) ∧ (s none).hasTest = false
    ∧ (s none).hasDischarge = false ∧ (s none).accounts.strings[0]? = some account ∧ 0 < (s none).cfg.designLife
    ∧ (stacked [.discharge { pushed := 0 }] (s (some 17))).hasDischarge = true := by
  unfold Servable
  decide
theorem test_met_WithdrawAndReturnRequests :
    let joining := lined fun l => { l with state := .joining }
    let s := visited fun v => { v with current := some (visit (.terminal 25)) }
    let stood (p : Phase) := stacked [.withdrawal (withdrawal p), .equalize equalize] s
    Servable 25 6#8 9#8 [0#8, 17#8] s ∧ Servable 25 7#8 9#8 [] (stood .withdrawn) ∧ joining.line.state = .joining
    ∧ base.line.state ≠ .joining ∧ s.visits.current.map Visit.number = some 17 ∧ base.visits.current.map Visit.number ≠ some 17
    ∧ (stood .stuck).stack.frames = .withdrawal (withdrawal .stuck) :: [.equalize equalize] ∧ equalizeAtMost [.equalize equalize] = true
    ∧ (withdrawal .stuck).owner = none ∧ base.hasWithdrawal = false
    ∧ (stacked [.discharge { pushed := 0 }]).stack.frames = .discharge { pushed := 0 } :: [] ∧ topLevel base.stack.frames < 2
    ∧ (claimed fun c => { c with spacing := some 1 }).claims.spacing ≠ none ∧ keyOf .withdraw 5 < base.id.station
    ∧ base.claims.own = none ∧ base.claims.spacing = none ∧ base.claims.list = [] ∧ base.monitor.active = followed base
    ∧ (Conditions.inactive.mainsLost || Conditions.inactive.onBypass || Conditions.inactive.claimConflict
        || Conditions.inactive.transferFault || Conditions.inactive.uncommandedBypass) = false
    ∧ base.monitor.active = Conditions.inactive
    ∧ (stood .transferring).stack.frames = .withdrawal (withdrawal .transferring) :: [.equalize equalize]
    ∧ (stood .withdrawn).visits.current = some (visit (.terminal 25)) ∧ (visit (.terminal 25)).number = 17
    ∧ { withdrawal .withdrawn with owner := some 17 }.owner ≠ none ∧ (stood .withdrawn).visits.requestHeld = false
    ∧ ({ Conditions.inactive with transferFault := true }.mainsLost || { Conditions.inactive with transferFault := true }.transferFault)
        = true ∧ ConditionsFollow base := by
  unfold Servable ConditionsFollow
  decide
theorem test_met_ConditioningRequests :
    let joining := lined fun l => { l with state := .joining }
    let waiting := conditioned fun c => { c with waiting := true }
    let settling := { base with stack := Stack.start }
    Servable 25 8#8 9#8 [] base ∧ Servable 25 9#8 9#8 [] settling ∧ Servable 25 10#8 9#8 [] (stacked [.equalize equalize])
    ∧ joining.line.state = .joining ∧ base.line.state = .active ∧ base.visits.current = none ∧ base.stack.frames = []
    ∧ waiting.cond.waiting = true ∧ base.monitor.active = Conditions.inactive ∧ base.monitor.active = followed base
    ∧ base.cond.waiting = false ∧ base.claims.own = none ∧ base.claims.spacing = none ∧ base.claims.list = []
    ∧ settling.stack.settle = true ∧ settling.hasEqualize = false ∧ base.stack.settle = false ∧ base.bypass.mains = .present
    ∧ base.cond.latch = none ∧ base.cond.testLatch = false ∧ base.visits.requestHeld = false
    ∧ base.hasEqualize = false ∧ base.hasTest = false ∧ (stacked [.equalize equalize]).hasEqualize = true
    ∧ equalize.origin ≠ .terminal ∧ { equalize with origin := .terminal }.origin = .terminal ∧ base.claiming = false
    ∧ (stacked [.test test]).stack.frames = [.test test] := by
  unfold Servable
  decide
theorem test_met_ClearAndForget :
    let s := peered 24 { peer notice with state := .stale } (peered 1 (peer notice))
    Servable 25 11#8 9#8 [128#8, 32#8] base ∧ Servable 25 12#8 9#8 [24#8] s ∧ isStation 0 = false ∧ isStation 25 = false
    ∧ isStation 24 = true ∧ (s.peer 24).state = .stale ∧ isStation 1 = true ∧ (s.peer 1).state = .live
    ∧ (s.peer 2).state = .empty := by
  unfold Servable
  decide
theorem test_met_ReadAndUnserved :
    let muted := lined fun l => { l with state := .muted }
    isTerminal 25 = true ∧ isTerminal 30 = true ∧ isTerminal 24 = false ∧ base.receiving = true ∧ base.sending = true
    ∧ muted.receiving = true ∧ muted.sending = false ∧ base.line.tx.length ≤ 1
    ∧ (∃ data, readRecord 7 0 base = .found data) ∧ readRecord 8 0 base = .bad ∧ readRecord 0 16 base = .notFound
    ∧ readRecord 3 0 base = .noVisit ∧ 7 < (8#8).toNat ∧ base.visits.current = none ∧ isStation 0 = false
    ∧ (queued [item 3 .breakerService .breaker 2]).queue.items[0]? = some (item 3 .breakerService .breaker 2)
    ∧ (Instr.stop 25 9#8 [], 10#8, 0) ∈ requestForms 25 9#8 [] ∧ ([1#8] : List Byte).length ≠ 0
    ∧ storedResult 25 [10#8, 9#8] (lined fun l => { l with answers := [{ term := 25, request := [10#8, 9#8], result := [10#8, 9#8, 5#8] }] })
        = some [10#8, 9#8, 5#8]
    ∧ 14 < (15#8).toNat := by
  refine ⟨by decide, by decide, by decide, by decide, by decide, by decide, by decide, by decide, ⟨_, rfl⟩, by decide, by decide,
    by decide, by decide, by decide, by decide, by decide, ?_, by decide, by decide, by decide⟩
  simp [requestForms]

theorem test_met_HourAndPages :
    let s (st : PageState) := ported fun p => { p with
      states := p.states.set 0 st, writing := some { page := .cabinet, content := .queue [] } }
    { base with clock := { base.clock with hourTimer := some 0 } }.clock.hourTimer.isSome = true
    ∧ 0 < base.cfg.testInterval ∧ base.cond.testDue ≤ min 1000000 (0 + 1) ∧ 0 < base.cfg.equalizeInterval
    ∧ pageState .cabinet (ported fun p => { p with states := p.states.set 0 .dirty }) = .dirty ∧ PageId.cabinet ∈ allPages
    ∧ (s .writing).port.writing = some { page := .cabinet, content := .queue [] } ∧ (s .writing).port.states.length = 8
    ∧ pageState .cabinet (s .writing) = .writing ∧ PageId.cabinet ∉ (s .writing).port.list
    ∧ pageState .cabinet (s .writingDirty) = .writingDirty ∧ (s .writingDirty).port.list = []
    ∧ (s .writing).hasTest = false ∧ (s .writing).queue.items.length < 24
    ∧ base.cond.testDue + 336 < min 1000000 (336 + 1) ∧ base.cond.overdueRaised = false
    ∧ (∀ x ∈ base.queue.items, x.kind ≠ .recordCheck) ∧ 0 = base.queue.items.length / 8 ∧ 1 ≠ base.queue.items.length / 8 := by decide
theorem test_met_RaiseAndMark :
    let review := item 101 .stringReview (.string 1) 1
    let full := queued (List.replicate 24 review)
    (queued [review]).queue.items[0]? = some review ∧ ¬((review.kind, review.target) ≠ (.stringReview, .string 1))
    ∧ (∀ x ∈ [item 9 .stringReplace (.string 1) 3], (x.kind, x.target) ≠ (ItemKind.stringReview, Target.string 1))
    ∧ (∀ x ∈ base.queue.items, (x.kind, x.target) ≠ (ItemKind.sensorCheck, Target.nothing)) ∧ base.queue.items.length < 24
    ∧ review.taken = none ∧ (∀ y ∈ full.queue.items, (y.kind, y.target) ≠ (ItemKind.sensorCheck, Target.nothing))
    ∧ full.queue.items.length = 24 ∧ full.queue.items[0]? = some review ∧ review.severity < 2
    ∧ (∀ y ∈ full.queue.items, y.taken = none → review.severity ≤ y.severity)
    ∧ (∀ y ∈ full.queue.items, y.taken = none → 1 ≤ y.severity)
    ∧ figures.riseCount ≤ (List.replicate 3 (item 1 .sensorCheck .nothing 2)).countP (fun x => 2 ≤ x.severity)
    ∧ [review].countP (fun x => 2 ≤ x.severity) < figures.fallCount
    ∧ figures.fallCount ≤ [item 1 .sensorCheck .nothing 2].countP (fun x => 2 ≤ x.severity) := by decide
/-- The CRC-16 of an image's first 62 bytes, all zero, in three parts. -/
theorem crc16_append (a b : List Byte) :
    crc16 (bitsOfBytes (a ++ b)) = (bitsOfBytes b).foldl crc16Step (crc16 (bitsOfBytes a)) := by
  simp [crc16, bitsOfBytes, List.foldl_append]
theorem crc16_part (n : Nat) (r r' : BitVec 16) (h : (bitsOfBytes (List.replicate n 0#8)).foldl crc16Step r = r') (m : Nat)
    (hm : crc16 (bitsOfBytes (List.replicate m 0#8)) = r) : crc16 (bitsOfBytes (List.replicate (m + n) 0#8)) = r' := by
  rw [List.replicate_add, crc16_append, hm, h]
theorem test_image_crc : crc16 (bitsOfBytes (List.replicate 62 0#8)) = 0xC9DB#16 :=
  crc16_part 14 0xDF9D#16 _ (by decide +kernel) 48
    (crc16_part 16 0xF14C#16 _ (by decide +kernel) 32
      (crc16_part 16 0x6A0A#16 _ (by decide +kernel) 16 (by decide +kernel)))
theorem test_image_good :
    imageGood { image with bytes := List.replicate 62 0#8 ++ [0xC9#8, 0xDB#8] } = true := by
  have h : (List.replicate 62 0#8 ++ [0xC9#8, 0xDB#8]).take 62 = List.replicate 62 0#8 := by decide
  simp only [imageGood, h, test_image_crc]
  decide
theorem test_met_HeldAndStarted :
    let good := { image with bytes := List.replicate 62 0#8 ++ [0xC9#8, 0xDB#8] }
    let waits := ported fun p => { p with restartWait := true }
    let page : CabinetPage := { (cabinetPage base) with hours := 5 }
    isStation 0 = false ∧ isStation 25 = false ∧ imageGood good = true ∧ imageGood { image with bytes := [] } = false ∧ isStation 6 = true
    ∧ waits.port.restartWait = true ∧ waits.port.list = [] ∧ waits.port.writing = none ∧ (∀ f ∈ waits.line.tx, f.awaited = false)
    ∧ base.port.restartWait = false ∧ [some (PageContent.cabinet page)][0]? = some (some (.cabinet page))
    ∧ Servable 25 14#8 9#8 [] base ∧ Servable 25 14#8 9#8 [] waits ∧ base.stack.frames = [] ∧ base.claims.own = none
    ∧ (stacked [.equalize equalize]).stack.frames ≠ [] := by
  unfold Servable
  exact ⟨by decide, by decide, test_image_good, by decide⟩

end Sys2Proof.Tests
end

section
/-! PROOFS. The sample intake (chapter 1): the checks of a burst, what an accepted burst leaves, the intake second, and the
accounting temperature. -/

namespace Sys2Proof.Machine

open Sys2Proof.Safety

/-! ## What the end of an event may not change -/

/-- `Aftermath` field by field: each of these is as before the end of the event. -/
theorem aftermath_iff (u t : State) : Aftermath u t ↔
      t.held = u.held ∧ t.pins = u.pins ∧ t.id = u.id ∧ t.cfg = u.cfg ∧ t.clampCount = u.clampCount ∧
      t.clock = u.clock ∧ t.intake = u.intake ∧ t.accounts.second = u.accounts.second ∧
      t.stack.dischargeDeferred = u.stack.dischargeDeferred ∧
      t.stack.withdrawalDeferred = u.stack.withdrawalDeferred ∧ t.cond.equalizeDue = u.cond.equalizeDue ∧
      t.line.state = u.line.state ∧ t.line.synchronised = u.line.synchronised ∧ t.line.received = u.line.received ∧
      t.line.crcFailures = u.line.crcFailures ∧ t.line.lengthFailures = u.line.lengthFailures ∧
      t.line.contentDiscards = u.line.contentDiscards ∧ t.line.addressDiscards = u.line.addressDiscards ∧
      t.line.sent = u.line.sent ∧ t.line.losses = u.line.losses ∧ t.line.abandoned = u.line.abandoned ∧
      t.line.statusTimer = u.line.statusTimer ∧ t.line.joiningTimer = u.line.joiningTimer ∧
      t.line.answers = u.line.answers ∧ t.peers = u.peers ∧ t.bypass.mains = u.bypass.mains ∧
      t.bypass.lossTimer = u.bypass.lossTimer ∧ t.bypass.qualTimer = u.bypass.qualTimer ∧
      t.bypass.report = u.bypass.report ∧ t.bypass.reportCount = u.bypass.reportCount ∧
      t.bypass.position = u.bypass.position ∧ t.bypass.confirmed = u.bypass.confirmed ∧
      t.bypass.disagree = u.bypass.disagree ∧ t.bypass.recovery = u.bypass.recovery ∧
      t.bypass.staticCount = u.bypass.staticCount ∧ t.bypass.breakerCount = u.bypass.breakerCount ∧
      t.visits.history = u.visits.history ∧ t.visits.counter = u.visits.counter ∧
      t.visits.overdueTimer = u.visits.overdueTimer ∧ t.visits.stable = u.visits.stable ∧
      t.visits.settleTimer = u.visits.settleTimer ∧ t.visits.requestHeld = u.visits.requestHeld ∧
      t.monitor.hot = u.monitor.hot ∧ t.monitor.lineErrors = u.monitor.lineErrors ∧
      t.port.restartWait = u.port.restartWait ∧ t.port.areas = u.port.areas ∧ t.pending = u.pending := by
  constructor
  · intro h
    unfold Aftermath at h
    rw [h]
    simp
  · intro h
    rcases t with ⟨_, _, _, _, _, _, _, ⟨_, _, _⟩, ⟨_, _, _, _⟩, ⟨_, _, _, _, _, _, _, _⟩,
      ⟨_, _, _, _, _, _, _, _, _, _, _, _, _, _, _, _⟩, _, _, ⟨_, _, _, _, _, _, _, _, _, _, _, _, _⟩,
      ⟨_, _, _, _, _, _, _⟩, _, ⟨_, _, _⟩, ⟨_, _, _, _, _⟩, _, _⟩
    simp only at h
    simp only [Aftermath, h]

/-! ## What the checks of a burst answer (R2) -/

section
variable {count extra : Nat} {bytes : List Byte}

theorem checkBurst_of_malformed (h : extra ≠ 0 ∨ bytes.length < 11 ∨ 29 < bytes.length) :
    checkBurst count bytes extra = .shape := if_pos h

theorem checkBurst_of_badCrc (hshape : ¬(extra ≠ 0 ∨ bytes.length < 11 ∨ 29 < bytes.length))
    (hcrc : crc8 bytes.dropLast ≠ bytes.getLastD 0) : checkBurst count bytes extra = .crc :=
  (if_neg hshape).trans (if_pos hcrc)

/-- Behind a good CRC the marker, the string count and the length are checked, all with one count. -/
theorem checkBurst_of_goodCrc (hshape : ¬(extra ≠ 0 ∨ bytes.length < 11 ∨ 29 < bytes.length))
    (hcrc : crc8 bytes.dropLast = bytes.getLastD 0) :
    checkBurst count bytes extra =
      if bytes.headD 0 ≠ 0x5C#8 ∨ (bytes.getD 3 0).toNat ≠ count ∨ bytes.length ≠ 5 + 6 * count then .shape
      else .accepted (natOf [bytes.getD 1 0, bytes.getD 2 0]) (burstStrings (bytes.dropLast.drop 4)) := by
  unfold checkBurst
  rw [if_neg hshape, if_neg (not_not.mpr hcrc)]
  by_cases hmark : bytes.headD 0 ≠ 0x5C#8
  · rw [if_pos hmark, if_pos (.inl hmark)]
  · rw [if_neg hmark]
    simp only [hmark, false_or]

end

/-! ## MEASUREMENT_BURST at a running part (R1, R2) -/

section
variable {bytes : List Byte} {extra : Nat} {s : State}

theorem exec_measurementBurst (early : Bool) :
    exec (.measurementBurst bytes extra early) s = execMeasurementBurst bytes extra early s := rfl

theorem exec_measurementBurst_of_shape (hrun : s.running = true) (hextra : extra < 8)
    (h : checkBurst s.cfg.stringCount bytes extra = .shape) :
    exec (.measurementBurst bytes extra false) s = .next
      { s with intake := { s.intake with shapeDiscards := inc16 s.intake.shapeDiscards } } := by
  simp [exec_measurementBurst, execMeasurementBurst, hrun, hextra, h]

theorem exec_measurementBurst_of_crc (hrun : s.running = true) (hextra : extra < 8)
    (h : checkBurst s.cfg.stringCount bytes extra = .crc) :
    exec (.measurementBurst bytes extra false) s = .next
      { s with intake := { s.intake with crcDiscards := inc16 s.intake.crcDiscards } } := by
  simp [exec_measurementBurst, execMeasurementBurst, hrun, hextra, h]

theorem exec_measurementBurst_of_accepted {load : Nat} {bs : List BurstString} (hrun : s.running = true) (hextra : extra < 8)
    (h : checkBurst s.cfg.stringCount bytes extra = .accepted load bs) :
    exec (.measurementBurst bytes extra false) s = .next (acceptBurst load bs s) := by
  simp [exec_measurementBurst, execMeasurementBurst, hrun, hextra, h]

end

/-! ## What an accepted burst leaves (R3, R9, R164) -/

section
variable (load : Nat) (bs : List BurstString) (s : State)

/-- The receivers of a sample and the end of its event leave the held values as the burst has set them. -/
theorem acceptBurst_intake : (acceptBurst load bs s).intake = takeBurst load bs s.intake := by
  simp [acceptBurst]

theorem sampleHot_hot : (sampleHot bs s).monitor.hot = List.zipWith (hotFlag s.cfg.hotLimit) bs s.monitor.hot := rfl

theorem sampleTestAndHot_hot :
    (sampleTestAndHot bs s).monitor.hot = List.zipWith (hotFlag s.cfg.hotLimit) bs s.monitor.hot := by
  unfold sampleTestAndHot
  dsimp only
  split
  · split <;> simp [sampleHot_hot]
  · simp [sampleHot_hot]

/-- The hot flags take each sample once, in whichever order the receivers take it. -/
theorem sampleReceivers_hot :
    (sampleReceivers bs s).monitor.hot = List.zipWith (hotFlag s.cfg.hotLimit) bs s.monitor.hot := by
  unfold sampleReceivers
  dsimp only
  split
  · split <;> simp [sampleTestAndHot_hot]
  · simp [sampleTestAndHot_hot]

theorem acceptBurst_hot :
    (acceptBurst load bs s).monitor.hot = List.zipWith (hotFlag s.cfg.hotLimit) bs s.monitor.hot := by
  simp [acceptBurst, sampleReceivers_hot]

/-- Of what the end of an event may not change, an accepted burst writes the intake and the hot flags alone. -/
theorem acceptBurst_aftermath :
    let t := acceptBurst load bs s
    Aftermath { s with intake := t.intake, monitor := { s.monitor with hot := t.monitor.hot } } t := by
  intro t
  rw [aftermath_iff]
  simp only [t, acceptBurst, finish_keeps, sampleReceivers_keeps, commitBeforeSample_keeps, abortBeforeSample_keeps, and_self]

end

/-- A string's hot flag by the clauses of R164. -/
theorem hotFlag_eq (limit : Nat) (b : BurstString) (old : Bool) :
    hotFlag limit b old = if b.temp = -32768 then old else if (limit : Int) < b.temp then true
      else if b.temp < (limit : Int) - 8 then false else old := rfl

/-- The held values of a string by the clauses of R3 and R6. -/
theorem takeReading_eq (b : BurstString) (r : Reading) : takeReading b r =
    { voltage := b.voltage
      current := b.current
      present := true
      temp := if b.temp = -32768 then r.temp else b.temp
      tempAge := if b.temp = -32768 then r.tempAge else 0
      tempState := if b.temp = -32768 then r.tempState else .usable } := by
  by_cases h : b.temp = -32768 <;> simp [takeReading, h]

/-! ## The intake second (R4 to R8) -/

/-- Of the strings that were not LOST, those enter LOST whose new age is above 60 (R6). -/
theorem enteringLost_eq (readings : List Reading) :
    enteringLost readings =
      (readings.zipIdx.filter fun r => r.1.tempState != .lost && decide (60 < ageAfter r.1.tempAge)).map Prod.snd := by
  have hlost : ∀ r : Reading, (r.tempState != .lost && (ageReading r).tempState == .lost)
      = (r.tempState != .lost && decide (60 < ageAfter r.tempAge)) := by
    intro r
    by_cases hold : 60 < ageAfter r.tempAge
    · simp [ageReading, hold]
    · cases hstate : r.tempState <;> simp [ageReading, hold, hstate]
  simp only [enteringLost, hlost]

/-- A gap begins where none was in force and the new burst age is above 5 (R8). -/
theorem gap_begins_iff (k : Intake) :
    (!k.gap && (ageIntake k).gap) = true ↔ k.gap = false ∧ 5 < ageAfter k.burstAge := by
  cases hgap : k.gap <;> simp [ageIntake, hgap]

theorem raiseSensorChecks_eq (k : Intake) (s : State) :
    raiseSensorChecks k s =
      let raised := (enteringLost k.readings).foldl (fun u i => raiseItem .sensorCheck (.string i) 2 u) s
      if k.gap = false ∧ 5 < ageAfter k.burstAge then raiseItem .sensorCheck .nothing 2 raised else raised := by
  simp only [raiseSensorChecks, gap_begins_iff]

theorem exec_intakeSecondTimerExpiry {s : State} (hsecond : s.intake.second.isSome = true) :
    exec .intakeSecondTimerExpiry s = .next
      (finish s (raiseSensorChecks s.intake { s with intake := ageIntake s.intake })) := by
  have hruns : s.intake.second.isNone = false := by simpa using hsecond
  change execIntakeSecondTimerExpiry s = _
  simp [execIntakeSecondTimerExpiry, hruns]

/-! ## The accounting temperature (R7) -/

theorem accountingTemp_of_reading {s : State} {i : Nat} {r : Reading} (h : s.intake.readings[i]? = some r) :
    accountingTemp s i = if r.tempState = .usable ∧ s.intake.gap = false then r.temp else 180 := by
  simp [accountingTemp, h]

/-! ## The statements of the family -/

/-- Settles O22, by the two lines of R7. -/
theorem accountingTemperature : Obligations.AccountingTemperature := by
  intro s i r hr
  rw [accountingTemp_of_reading hr]
  constructor
  · intro husable hgap
    exact if_pos ⟨husable, hgap⟩
  · intro hbar
    refine if_neg fun ⟨husable, hgap⟩ => ?_
    rcases hbar with hstate | hforce
    · exact hstate husable
    · simp [hgap] at hforce

/-- Settles O21: the second's own effect is the aged state with the items raised, and its event then ends. -/
theorem intakeSecondAges : Obligations.IntakeSecondAges := by
  intro s hsecond age lost aged raised
  refine ⟨_, exec_intakeSecondTimerExpiry hsecond, ?_⟩
  have hown : raiseSensorChecks s.intake { s with intake := ageIntake s.intake }
      = if s.intake.gap = false ∧ 5 < age s.intake.burstAge then raiseItem .sensorCheck .nothing 2 raised else raised := by
    rw [raiseSensorChecks_eq, enteringLost_eq]
    rfl
  rw [hown]
  exact finish_after s _

/-- Settles O18, by the clauses of R2 in their order. -/
theorem burstChecks : Obligations.BurstChecks := by
  intro bytes extra s hrun hextra malformed badCrc other shapeDiscard
  refine ⟨fun hshape => ?_, fun hshape hcrc => ?_, fun hshape hcrc hother => ?_, fun hshape hcrc hother => ?_⟩
  · exact exec_measurementBurst_of_shape hrun hextra (checkBurst_of_malformed hshape)
  · exact exec_measurementBurst_of_crc hrun hextra (checkBurst_of_badCrc hshape hcrc)
  · exact exec_measurementBurst_of_shape hrun hextra ((checkBurst_of_goodCrc hshape (not_not.mp hcrc)).trans (if_pos hother))
  · have haccepted := (checkBurst_of_goodCrc hshape (not_not.mp hcrc)).trans (if_neg hother)
    refine ⟨_, exec_measurementBurst_of_accepted hrun hextra haccepted, ?_⟩
    rw [acceptBurst_intake]
    exact ⟨rfl, rfl, rfl⟩

/-- Settles O19: the end of the event leaves the held values of `takeBurst` and the hot flags of the sample, read string by string. -/
theorem acceptedBurstIsHeld : Obligations.AcceptedBurstIsHeld := by
  intro bytes load bs s hrun hcheck
  refine ⟨_, exec_measurementBurst_of_accepted hrun (by decide) hcheck, acceptBurst_aftermath load bs s, ?_⟩
  rw [acceptBurst_intake, acceptBurst_hot]
  refine ⟨rfl, rfl, rfl, fun hinvalid => ?_, fun hvalid => ?_, fun i b r hb hr => ?_, fun i b h hb hh => ?_⟩
  · simp [takeBurst, hinvalid]
  · simp [takeBurst, hvalid]
  · simp [takeBurst, List.getElem?_zipWith, hb, hr, takeReading_eq]
  · simp [List.getElem?_zipWith, hb, hh, hotFlag_eq]

end Sys2Proof.Machine
end

section
/-! PROOFS. The string accounts (chapter 2): the temperature factor, discharge wear, and the health recompute. -/

namespace Sys2Proof.Machine

open Sys2Proof.Safety

/-! ## The temperature factor (R15, R16) -/

/-- The mantissa of the temperature factor, for the fraction `f` of a step of 10 degrees (R15 step 3). -/
def mantissa (f : Nat) : Nat := 256 + 256 * f / 40

theorem mantissa_bounds {f : Nat} (h : f ≤ 39) : 256 ≤ mantissa f ∧ mantissa f ≤ 505 := by
  unfold mantissa
  omega

/-- Halving `k` times, each time toward zero, is one division by 2 to the `k`. -/
theorem iterate_half (k m : Nat) : (fun n => n / 2)^[k] m = m / 2 ^ k := by
  induction k generalizing m with
  | zero => simp
  | succ k ih => rw [Function.iterate_succ_apply, ih, Nat.div_div_eq_div_mul, pow_succ']

theorem tempFactor_below {t : Int} (h : t < 20) : tempFactor t = 64 := by
  unfold tempFactor
  exact if_pos (by omega)

theorem tempFactor_above {t : Int} (h : 260 < t) : tempFactor t = 4096 := by
  unfold tempFactor
  rw [if_neg (by omega), if_pos (by omega)]

/-- Between the clamps the factor is the mantissa of the fraction, scaled by 2 to the whole steps of 10 degrees (R15). -/
theorem tempFactor_between {t k f : Int} (hlow : 20 ≤ t) (hhigh : t ≤ 260) (ht : t - 100 = 40 * k + f) (hf0 : 0 ≤ f)
    (hf39 : f ≤ 39) :
    tempFactor t = if 0 ≤ k then mantissa f.toNat * 2 ^ k.toNat else mantissa f.toNat / 2 ^ (-k).toNat := by
  have hk : (t - 100) / 40 = k := by omega
  have hm : 256 + (256 * (t - 100 - 40 * k) / 40).toNat = mantissa f.toNat := by
    unfold mantissa
    omega
  unfold tempFactor
  rw [if_neg (by omega), if_neg (by omega)]
  simp only [hk, hm]

theorem tempFactor_between_range {t : Int} (hlow : 20 ≤ t) (hhigh : t ≤ 260) : 64 ≤ tempFactor t ∧ tempFactor t ≤ 4096 := by
  obtain ⟨k, f, ht, hf0, hf39⟩ : ∃ k f : Int, t - 100 = 40 * k + f ∧ 0 ≤ f ∧ f ≤ 39 :=
    ⟨(t - 100) / 40, (t - 100) % 40, by omega, by omega, by omega⟩
  obtain ⟨hmin, hmax⟩ := mantissa_bounds (f := f.toNat) (by omega)
  rw [tempFactor_between hlow hhigh ht hf0 hf39]
  have hk : k = -2 ∨ k = -1 ∨ k = 0 ∨ k = 1 ∨ k = 2 ∨ k = 3 ∨ k = 4 ∧ f = 0 := by omega
  rcases hk with rfl | rfl | rfl | rfl | rfl | rfl | ⟨rfl, rfl⟩
  case inr.inr.inr.inr.inr.inr => decide
  all_goals
    simp
    omega

theorem tempFactor_range (t : Int) : 64 ≤ tempFactor t ∧ tempFactor t ≤ 4096 := by
  rcases lt_or_ge t 20 with hbelow | hlow
  · simp [tempFactor_below hbelow]
  · rcases lt_or_ge 260 t with habove | hhigh
    · simp [tempFactor_above habove]
    · exact tempFactor_between_range hlow hhigh

/-! ## Discharge wear (R23, R24) -/

theorem weightOf_le (d : Nat) : weightOf d ≤ 32 := by
  unfold weightOf
  (repeat' split) <;> omega

/-- The deepest event at the dearest cycle wears 8190 reference hours. -/
theorem dischargeWear_le {cost d : Nat} (hcost : cost ≤ 4095) (hd : d ≤ 1000) : dischargeWear cost d ≤ 8190 := by
  have hproduct : cost * d * weightOf d ≤ 4095 * 1000 * 32 := Nat.mul_le_mul (Nat.mul_le_mul hcost hd) (weightOf_le d)
  unfold dischargeWear
  omega

theorem depthOf_saturated {rated : Nat} (hrated : rated ≤ 65535) (hpos : 1 ≤ rated) :
    depthOf (rated * 36000) 4294967295 = 1000 := by
  unfold depthOf
  refine min_eq_left ((Nat.le_div_iff_mul_le (by omega)).mpr ?_)
  omega

theorem depthOf_shallow {q rated : Nat} (h : q < rated * 36) : depthOf (rated * 36000) q = 0 := by
  unfold depthOf
  rw [Nat.div_eq_of_lt (by omega)]
  rfl

/-! ## Health (R28 to R33) -/

/-- What is done when one of two flags has changed. -/
theorem ite_bne_or_bne {α : Type} (x x' y y' : Bool) (changed same : α) :
    (if x != x' || y != y' then changed else same) = if x = x' ∧ y = y' then same else changed := by
  by_cases hx : x = x'
  · by_cases hy : y = y' <;> simp [hx, hy]
  · simp [hx]

/-! ## The statements -/

/-- Settles O23: the whole steps and the fraction are quotient and remainder by 40. -/
theorem factorFollowsTheLine : Obligations.FactorFollowsTheLine := by
  intro t hlow hhigh
  have hf : 0 ≤ (t - 100) % 40 ∧ (t - 100) % 40 ≤ 39 := by omega
  refine ⟨(t - 100) / 40, (t - 100) % 40, by omega, hf.1, hf.2, ?_⟩
  obtain ⟨hmin, hmax⟩ := mantissa_bounds (f := ((t - 100) % 40).toNat) (by omega)
  have hfactor := tempFactor_between (k := (t - 100) / 40) hlow hhigh (by omega) hf.1 hf.2
  refine ⟨hmin, hmax, fun hk => ?_, fun hk => ?_⟩
  · rw [hfactor, if_pos hk]
    rfl
  · rw [hfactor, if_neg (by omega), iterate_half]
    rfl

/-- Settles O24. -/
theorem factorIsClamped : Obligations.FactorIsClamped :=
  ⟨fun _ => tempFactor_below, fun _ => tempFactor_above, by decide, by decide, tempFactor_range⟩

/-- Settles O26. -/
theorem depthAndWeight : Obligations.DepthAndWeight := by
  intro q rated cost hpos hrated _ hcost d
  refine ⟨rfl, ?_, fun h => depthOf_shallow h, ?_, ?_, ?_, ?_, rfl, dischargeWear_le hcost (min_le_left _ _)⟩
  · rintro rfl
    exact depthOf_saturated hrated hpos
  all_goals
    unfold weightOf
    intros
    (repeat' split) <;> omega

/-- Settles O27: a recompute of a held string, its flags compared with `=` where the model compares Booleans. -/
theorem recomputeCrossesThresholds : Obligations.RecomputeCrossesThresholds := by
  intro s i a ha life h b all u v
  unfold recompute
  rw [ha]
  dsimp only
  simp only [ite_bne_or_bne, Bool.and_eq_true, Bool.not_eq_true']
  rfl

end Sys2Proof.Machine
end

section
/-! PROOFS. The wear and the discharge event of every string (chapter 2): what each operation makes of them, their ranges,
and what every step keeps of them. -/

namespace Sys2Proof.Machine

open Sys2Proof.Safety

/-! ## What leaves wear and discharge events alone -/

/-- An account's wear and discharge event, with the test record and the figures computed from health blanked: what neither a
health recompute nor a test record touches. -/
def Account.wearPart (a : Account) : Account :=
  { a with
    measured := 0
    lastTest := .untested
    testCharge := 0
    testEndHour := 0
    reviewCrossed := false
    replaceCrossed := false
    health := 0
    available := 0 }

/-- Rewriting one account leaves a figure of every account alone when the new account has the old one's. -/
theorem map_set_same {β : Type} (f : Account → β) {l : List Account} {i : Nat} {a b : Account} (ha : l[i]? = some a)
    (hb : f b = f a) : (l.set i b).map f = l.map f := by
  rw [List.map_set, hb]
  refine List.ext_getElem? fun j => ?_
  rw [List.getElem?_set]
  split
  · next hij =>
    obtain ⟨hlt, hget⟩ := List.getElem?_eq_some_iff.mp ha
    subst hij
    simp [hlt, hget]
  · rfl

/-- A health recompute leaves every figure alone that is not one of the computed ones. -/
theorem recompute_map {β : Type} (f : Account → β) (hf : ∀ cfg c a, f (recomputed cfg c a) = f a) (i : Nat) (s : State) :
    (recompute i s).accounts.strings.map f = s.accounts.strings.map f := by
  unfold recompute
  split
  · rfl
  · next a ha =>
    have hset := map_set_same f ha (hf s.cfg (stringSettings s i) a)
    dsimp only
    (repeat' split) <;> simpa only [raiseItem_keeps, markDirty_keeps, setAccount_strings] using hset

@[simp] theorem recompute_wearPart (i : Nat) (s : State) :
    (recompute i s).accounts.strings.map Account.wearPart = s.accounts.strings.map Account.wearPart :=
  recompute_map Account.wearPart (fun _ _ _ => rfl) i s

@[simp] theorem takeRecord_wearPart (i : Nat) (result : TestResult) (qt : Nat) (measured : Option Nat) (s : State) :
    (takeRecord i result qt measured s).accounts.strings.map Account.wearPart = s.accounts.strings.map Account.wearPart := by
  unfold takeRecord
  split
  · rfl
  · next a ha =>
    simp only [recompute_wearPart, markDirty_keeps, setAccount_strings]
    exact map_set_same Account.wearPart ha rfl

@[simp] theorem handRecords_wearPart (result : TestResult) (f : TestFrame) (s : State) :
    (handRecords result f s).accounts.strings.map Account.wearPart = s.accounts.strings.map Account.wearPart := by
  unfold handRecords
  refine foldl_inv (P := fun t => t.accounts.strings.map Account.wearPart = s.accounts.strings.map Account.wearPart)
    _ (fun t i ht => ?_) _ _ rfl
  simpa using ht

@[simp] theorem concludeTest_wearPart (result : TestResult) (f : TestFrame) (s : State) :
    (concludeTest result f s).accounts.strings.map Account.wearPart = s.accounts.strings.map Account.wearPart := by
  cases result <;> simp [concludeTest]

@[simp] theorem endTest_wearPart (result : TestResult) (s : State) :
    (endTest result s).accounts.strings.map Account.wearPart = s.accounts.strings.map Account.wearPart := by
  unfold endTest
  split <;> simp

@[simp] theorem forceDischarge_wearPart (s : State) :
    (forceDischarge s).accounts.strings.map Account.wearPart = s.accounts.strings.map Account.wearPart := by
  unfold forceDischarge
  (repeat' split) <;> simp

@[simp] theorem forceWithdrawal_wearPart (o : WithdrawalOrigin) (s : State) :
    (forceWithdrawal o s).accounts.strings.map Account.wearPart = s.accounts.strings.map Account.wearPart := by
  unfold forceWithdrawal
  (repeat' split) <;> simp

@[simp] theorem openVisit_wearPart (origin : VisitOrigin) (technician planned : Nat) (s : State) :
    (openVisit origin technician planned s).accounts.strings.map Account.wearPart
      = s.accounts.strings.map Account.wearPart := by
  simp [openVisit]

@[simp] theorem reopenForKey_wearPart (s : State) :
    (reopenForKey s).accounts.strings.map Account.wearPart = s.accounts.strings.map Account.wearPart := by
  unfold reopenForKey openKeyVisit
  split <;> simp

@[simp] theorem endVisit_wearPart (reason : CloseReason) (s : State) :
    (endVisit reason s).accounts.strings.map Account.wearPart = s.accounts.strings.map Account.wearPart := by
  unfold endVisit
  split <;> simp

@[simp] theorem closeVisit_wearPart (reason : CloseReason) (s : State) :
    (closeVisit reason s).accounts.strings.map Account.wearPart = s.accounts.strings.map Account.wearPart := by
  unfold closeVisit
  split <;> simp

@[simp] theorem popWithdrawal_wearPart (s : State) :
    (popWithdrawal s).accounts.strings.map Account.wearPart = s.accounts.strings.map Account.wearPart := by
  unfold popWithdrawal ownedRemoved
  dsimp only
  (repeat' split) <;> simp

@[simp] theorem timeOutTransfer_wearPart (s : State) :
    (timeOutTransfer s).accounts.strings.map Account.wearPart = s.accounts.strings.map Account.wearPart := by
  simp [timeOutTransfer]

@[simp] theorem uncommandedClosure_wearPart (s : State) :
    (uncommandedClosure s).accounts.strings.map Account.wearPart = s.accounts.strings.map Account.wearPart := by
  simp [uncommandedClosure]

@[simp] theorem becomeClosed_wearPart (last : Confirmed) (s : State) :
    (becomeClosed last s).accounts.strings.map Account.wearPart = s.accounts.strings.map Account.wearPart := by
  unfold becomeClosed
  (repeat' split) <;> simp

@[simp] theorem becomeOpen_wearPart (s : State) :
    (becomeOpen s).accounts.strings.map Account.wearPart = s.accounts.strings.map Account.wearPart := by
  unfold becomeOpen
  dsimp only
  (repeat' split) <;> simp

@[simp] theorem moveBreaker_wearPart (cl op : Bool) (s : State) :
    (moveBreaker cl op s).accounts.strings.map Account.wearPart = s.accounts.strings.map Account.wearPart := by
  unfold moveBreaker
  dsimp only
  (repeat' split) <;> simp

@[simp] theorem adopt_wearPart (s : State) :
    (adopt s).accounts.strings.map Account.wearPart = s.accounts.strings.map Account.wearPart := by
  unfold adopt
  split <;> simp

@[simp] theorem loseMains_wearPart (s : State) :
    (loseMains s).accounts.strings.map Account.wearPart = s.accounts.strings.map Account.wearPart := by
  simp [loseMains]

@[simp] theorem endRecovery_wearPart (s : State) :
    (endRecovery s).accounts.strings.map Account.wearPart = s.accounts.strings.map Account.wearPart := by
  unfold endRecovery
  dsimp only
  split <;> simp

@[simp] theorem openForKey_wearPart (s : State) :
    (openForKey s).accounts.strings.map Account.wearPart = s.accounts.strings.map Account.wearPart := by
  unfold openForKey openKeyVisit
  (repeat' split) <;> simp

@[simp] theorem pendClose_wearPart (s : State) :
    (pendClose s).accounts.strings.map Account.wearPart = s.accounts.strings.map Account.wearPart := by
  unfold pendClose
  dsimp only
  (repeat' split) <;> simp

@[simp] theorem keyEffects_wearPart (old new : KeyPosition) (s : State) :
    (keyEffects old new s).accounts.strings.map Account.wearPart = s.accounts.strings.map Account.wearPart := by
  unfold keyEffects
  split <;> simp

@[simp] theorem settleKey_wearPart (s : State) :
    (settleKey s).accounts.strings.map Account.wearPart = s.accounts.strings.map Account.wearPart := by
  unfold settleKey
  (repeat' split) <;> simp

@[simp] theorem testSecond_wearPart (s : State) :
    (testSecond s).accounts.strings.map Account.wearPart = s.accounts.strings.map Account.wearPart := by
  unfold testSecond
  split <;> simp

@[simp] theorem testSecond_pages (s : State) :
    (testSecond s).port.areas = s.port.areas ∧ (testSecond s).port.writing = s.port.writing := by
  unfold testSecond
  split <;> simp

@[simp] theorem conditionAborts_wearPart (s : State) :
    (conditionAborts s).accounts.strings.map Account.wearPart = s.accounts.strings.map Account.wearPart := by
  unfold conditionAborts
  dsimp only
  (repeat' split) <;> simp

@[simp] theorem supportAbort_wearPart (s : State) :
    (supportAbort s).accounts.strings.map Account.wearPart = s.accounts.strings.map Account.wearPart := by
  unfold supportAbort
  split <;> simp

@[simp] theorem settle_wearPart (s : State) :
    (settle s).accounts.strings.map Account.wearPart = s.accounts.strings.map Account.wearPart := by
  simp [settle]

/-- The end of an event changes no string's wear and no discharge event. -/
@[simp] theorem finish_wearPart (before s : State) :
    (finish before s).accounts.strings.map Account.wearPart = s.accounts.strings.map Account.wearPart := by
  simp [finish]

@[simp] theorem sampleTest_wearPart (bs : List BurstString) (s : State) :
    (sampleTest bs s).accounts.strings.map Account.wearPart = s.accounts.strings.map Account.wearPart := by
  unfold sampleTest
  dsimp only
  (repeat' split) <;> simp

@[simp] theorem sampleTestAndHot_wearPart (bs : List BurstString) (s : State) :
    (sampleTestAndHot bs s).accounts.strings.map Account.wearPart = s.accounts.strings.map Account.wearPart := by
  unfold sampleTestAndHot
  dsimp only
  (repeat' split) <;> simp

end Sys2Proof.Machine
end

section
namespace Sys2Proof.Machine

open Sys2Proof.Safety

/-! ## What a discharge event's end, a wear second and a replacement write -/

section
variable {i : Nat} {a : Account} {s : State}

theorem wearString_wearPart (ha : s.accounts.strings[i]? = some a) :
    (wearString i s).accounts.strings.map Account.wearPart = (s.accounts.strings.map Account.wearPart).set i
      (timeWear (increment s.equalizeTop (accountingTemp s i)) a).wearPart := by
  unfold wearString
  rw [ha]
  dsimp only
  (repeat' split) <;> simp

theorem endEvent_wearPart (i : Nat) (a : Account) (s : State) :
    (endEvent i a s).accounts.strings.map Account.wearPart = (s.accounts.strings.map Account.wearPart).set i
      (endedAccount s.cfg (capOf (stringSettings s i)) a.charge a).wearPart := by
  unfold endEvent
  dsimp only
  (repeat' split) <;> simp

/-- The account of string `i` after a sample's current, its event ended if the tail is complete (R20 to R22). -/
def accountAfter (cfg : Settings) (i : Nat) (current : Int) (a : Account) : Account :=
  let b := sampledAccount cfg.dischargeThreshold current a
  if b.tailComplete then endedAccount cfg (capOf (rawString cfg i)) b.charge b else b

theorem sampleString_wearPart (current : Int) (ha : s.accounts.strings[i]? = some a) :
    (sampleString i current s).accounts.strings.map Account.wearPart =
      (s.accounts.strings.map Account.wearPart).set i (accountAfter s.cfg i current a).wearPart := by
  unfold sampleString accountAfter
  rw [ha]
  dsimp only
  split
  · exact endEvent_wearPart i _ s
  · simp

theorem replaceString_wearPart (ha : s.accounts.strings[i]? = some a) :
    (replaceString i s).accounts.strings.map Account.wearPart =
      (s.accounts.strings.map Account.wearPart).set i (replacedAccount s.clock.hours a).wearPart := by
  unfold replaceString
  rw [ha]
  simp

end

/-! ## The ranges of wear and residue (R18, R19) -/

theorem increment_le (equalizing : Bool) (t : Int) : increment equalizing t ≤ 8192 := by
  obtain ⟨-, hfactor⟩ := tempFactor_range t
  unfold increment
  split <;> omega

theorem timeWear_inRange {inc : Nat} {a : Account} (hinc : inc ≤ 8192) (h : wearInRange a.wear a.residue) :
    wearInRange (timeWear inc a).wear (timeWear inc a).residue := by
  obtain ⟨hwear, hresidue, -⟩ := h
  unfold timeWear
  split
  · exact ⟨hwear, Nat.succ_pos _, fun _ => rfl⟩
  · next hbelow =>
    split
    · next hsum => exact ⟨hwear, hsum, fun hfull => absurd (Nat.le_of_eq hfull.symm) hbelow⟩
    · split
      · exact ⟨le_rfl, Nat.succ_pos _, fun _ => rfl⟩
      · next hnext =>
        refine ⟨?_, ?_, fun hfull => absurd hfull hnext⟩ <;> dsimp only <;> omega

theorem addWear_inRange (w : Nat) {a : Account} (h : wearInRange a.wear a.residue) :
    wearInRange (addWear w a).wear (addWear w a).residue := by
  obtain ⟨-, hresidue, -⟩ := h
  unfold addWear
  split
  · exact ⟨le_rfl, Nat.succ_pos _, fun _ => rfl⟩
  · next hbelow =>
    refine ⟨?_, hresidue, fun hfull => absurd hfull ?_⟩ <;> dsimp only <;> omega

theorem sampledAccount_wear (threshold : Nat) (current : Int) (a : Account) :
    (sampledAccount threshold current a).wear = a.wear ∧ (sampledAccount threshold current a).residue = a.residue := by
  unfold sampledAccount
  (repeat' split) <;> exact ⟨rfl, rfl⟩

theorem accountAfter_inRange (cfg : Settings) (i : Nat) (current : Int) {a : Account} (h : wearInRange a.wear a.residue) :
    wearInRange (accountAfter cfg i current a).wear (accountAfter cfg i current a).residue := by
  obtain ⟨hwear, hresidue⟩ := sampledAccount_wear cfg.dischargeThreshold current a
  rw [← hwear, ← hresidue] at h
  unfold accountAfter
  dsimp only
  split
  · exact addWear_inRange _ h
  · exact h

/-! ## Sound wear through the operations of an event -/

/-- The wear of every string, the serial memory and the page being written stand in `t` as in `s`. -/
def WearKept (s t : State) : Prop :=
  t.accounts.strings.map Account.wearPart = s.accounts.strings.map Account.wearPart
    ∧ t.port.areas = s.port.areas ∧ t.port.writing = s.port.writing

theorem wearSound_iff (s : State) : WearSound s ↔
    (∀ p ∈ s.accounts.strings.map Account.wearPart, wearInRange p.wear p.residue)
      ∧ (∀ c, some c ∈ s.port.areas → contentInRange c) ∧ (∀ w, s.port.writing = some w → contentInRange w.content) := by
  simp [WearSound, Account.wearPart]

end Sys2Proof.Machine

namespace Sys2Proof.Safety

open Sys2Proof.Machine

section
variable {s t u : State}

theorem WearSound.kept (h : WearSound s) (k : WearKept s t) : WearSound t := by
  obtain ⟨hparts, hareas, hwriting⟩ := k
  rw [wearSound_iff, hparts, hareas, hwriting]
  exact (wearSound_iff s).mp h

/-- An operation has rewritten one account, to wear in its range. -/
theorem WearSound.rewritten {i : Nat} {b : Account} (h : WearSound s)
    (hparts : t.accounts.strings.map Account.wearPart = (s.accounts.strings.map Account.wearPart).set i b.wearPart)
    (hb : wearInRange b.wear b.residue) (hareas : t.port.areas = s.port.areas)
    (hwriting : t.port.writing = s.port.writing) : WearSound t := by
  rw [wearSound_iff] at h ⊢
  rw [hparts, hareas, hwriting]
  obtain ⟨haccounts, hpages⟩ := h
  refine ⟨fun p hp => ?_, hpages⟩
  rcases List.mem_or_eq_of_mem_set hp with hold | rfl
  · exact haccounts p hold
  · exact hb

theorem WearSound.account {i : Nat} {a : Account} (h : WearSound s) (ha : s.accounts.strings[i]? = some a) :
    wearInRange a.wear a.residue := by
  obtain ⟨haccounts, -, -⟩ := h
  exact haccounts a (List.mem_of_getElem? ha)

theorem WearSound.pageContent (h : WearSound s) (p : PageId) : contentInRange (pageContent p s) := by
  obtain ⟨haccounts, -, -⟩ := h
  cases p with
  | cabinet => trivial
  | queue q => trivial
  | string i =>
    cases ha : s.accounts.strings[i]? with
    | none => simp [Machine.pageContent, ha, contentInRange, wearInRange, lostStringPage]
    | some a =>
      simpa [Machine.pageContent, ha, contentInRange, stringPage] using haccounts a (List.mem_of_getElem? ha)

theorem WearSound.beginWrite (h : WearSound s) : WearSound (beginWrite s) := by
  unfold Machine.beginWrite
  split
  · next p rest _ _ =>
    have hpage := h.pageContent p
    obtain ⟨haccounts, hareas, -⟩ := h
    refine ⟨by simpa using haccounts, by simpa using hareas, fun w hw => ?_⟩
    cases hw
    exact hpage
  · exact h

theorem WearSound.settlePort (h : WearSound s) (before : List PageId) : WearSound (settlePort before s) :=
  WearSound.beginWrite (WearSound.kept h ⟨rfl, rfl, rfl⟩)

/-- The end of an event keeps wear sound: the page that it begins to write holds a sound account. -/
theorem WearSound.finish (before : State) (h : WearSound u) : WearSound (finish before u) :=
  WearSound.settlePort (WearSound.kept h (by simp [WearKept])) _

theorem WearSound.setArea (h : WearSound s) (p : PageId) {c : Option PageContent} (hc : ∀ d, c = some d → contentInRange d) :
    WearSound (setArea p c s) := by
  obtain ⟨haccounts, hareas, hwriting⟩ := h
  refine ⟨haccounts, fun d hd => ?_, hwriting⟩
  rcases List.mem_or_eq_of_mem_set hd with hold | hnew
  · exact hareas d hold
  · exact hc d hnew.symm

end

end Sys2Proof.Safety
end

section
/-! PROOFS. Holding and starting the part (chapter 11): what each step of a start leaves alone, and what it writes. -/

namespace Sys2Proof.Machine

open Sys2Proof.Safety

/-! ## What each step of a start leaves alone -/

@[simp] theorem markLost_keeps (lost : List PageId) (s : State) :
      (markLost lost s).held = s.held ∧ (markLost lost s).pins = s.pins ∧ (markLost lost s).id = s.id ∧
      (markLost lost s).cfg = s.cfg ∧ (markLost lost s).clock = s.clock ∧ (markLost lost s).intake = s.intake ∧
      (markLost lost s).accounts = s.accounts ∧ (markLost lost s).stack = s.stack ∧ (markLost lost s).cond = s.cond ∧
      (markLost lost s).line = s.line ∧ (markLost lost s).peers = s.peers ∧ (markLost lost s).claims = s.claims ∧
      (markLost lost s).bypass = s.bypass ∧ (markLost lost s).visits = s.visits ∧ (markLost lost s).queue = s.queue ∧
      (markLost lost s).port.list = s.port.list ∧ (markLost lost s).port.writing = s.port.writing ∧
      (markLost lost s).port.areas = s.port.areas ∧ (markLost lost s).pending = s.pending := by
  have hmarked := foldl_inv (P := fun t =>
      t.held = s.held ∧ t.pins = s.pins ∧ t.id = s.id ∧ t.cfg = s.cfg ∧ t.clock = s.clock ∧ t.intake = s.intake ∧
      t.accounts = s.accounts ∧ t.stack = s.stack ∧ t.cond = s.cond ∧ t.line = s.line ∧ t.peers = s.peers ∧
      t.claims = s.claims ∧ t.bypass = s.bypass ∧ t.visits = s.visits ∧ t.queue = s.queue ∧
      t.port.list = s.port.list ∧ t.port.writing = s.port.writing ∧ t.port.areas = s.port.areas ∧
      t.pending = s.pending)
    (fun t p => markDirty p t) (fun t p ht => by simpa using ht) lost s (by simp)
  unfold markLost
  dsimp only
  split <;> simpa using hmarked

@[simp] theorem restoreQueue_keeps (un : List PageId) (s : State) :
      (restoreQueue un s).held = s.held ∧ (restoreQueue un s).pins = s.pins ∧ (restoreQueue un s).id = s.id ∧
      (restoreQueue un s).cfg = s.cfg ∧ (restoreQueue un s).clock = s.clock ∧ (restoreQueue un s).intake = s.intake ∧
      (restoreQueue un s).accounts = s.accounts ∧ (restoreQueue un s).stack = s.stack ∧
      (restoreQueue un s).cond = s.cond ∧ (restoreQueue un s).line = s.line ∧ (restoreQueue un s).peers = s.peers ∧
      (restoreQueue un s).claims = s.claims ∧ (restoreQueue un s).bypass = s.bypass ∧
      (restoreQueue un s).visits = s.visits ∧ (restoreQueue un s).monitor = s.monitor ∧
      (restoreQueue un s).port.list = s.port.list ∧ (restoreQueue un s).port.writing = s.port.writing ∧
      (restoreQueue un s).port.areas = s.port.areas ∧ (restoreQueue un s).pending = s.pending := by
  unfold restoreQueue
  dsimp only
  simp only [takeMark_keeps]
  refine foldl_inv (P := fun t =>
      t.held = s.held ∧ t.pins = s.pins ∧ t.id = s.id ∧ t.cfg = s.cfg ∧ t.clock = s.clock ∧ t.intake = s.intake ∧
      t.accounts = s.accounts ∧ t.stack = s.stack ∧ t.cond = s.cond ∧ t.line = s.line ∧ t.peers = s.peers ∧
      t.claims = s.claims ∧ t.bypass = s.bypass ∧ t.visits = s.visits ∧ t.monitor = s.monitor ∧
      t.port.list = s.port.list ∧ t.port.writing = s.port.writing ∧ t.port.areas = s.port.areas ∧
      t.pending = s.pending)
    (fun t q => markDirty (.queue q) t) (fun t q ht => by simpa using ht) _ _ (by simp)

@[simp] theorem recomputeAll_keeps (s : State) :
      (recomputeAll s).held = s.held ∧ (recomputeAll s).pins = s.pins ∧ (recomputeAll s).id = s.id ∧
      (recomputeAll s).cfg = s.cfg ∧ (recomputeAll s).clock = s.clock ∧ (recomputeAll s).intake = s.intake ∧
      (recomputeAll s).accounts.second = s.accounts.second ∧ (recomputeAll s).stack = s.stack ∧
      (recomputeAll s).cond = s.cond ∧ (recomputeAll s).line = s.line ∧ (recomputeAll s).peers = s.peers ∧
      (recomputeAll s).claims = s.claims ∧ (recomputeAll s).bypass = s.bypass ∧
      (recomputeAll s).visits = s.visits ∧ (recomputeAll s).monitor = s.monitor ∧
      (recomputeAll s).port.writing = s.port.writing ∧ (recomputeAll s).port.areas = s.port.areas ∧
      (recomputeAll s).pending = s.pending := by
  unfold recomputeAll
  exact foldl_inv (P := fun t =>
      t.held = s.held ∧ t.pins = s.pins ∧ t.id = s.id ∧ t.cfg = s.cfg ∧ t.clock = s.clock ∧ t.intake = s.intake ∧
      t.accounts.second = s.accounts.second ∧ t.stack = s.stack ∧ t.cond = s.cond ∧ t.line = s.line ∧
      t.peers = s.peers ∧ t.claims = s.claims ∧ t.bypass = s.bypass ∧ t.visits = s.visits ∧ t.monitor = s.monitor ∧
      t.port.writing = s.port.writing ∧ t.port.areas = s.port.areas ∧ t.pending = s.pending)
    (fun t i => recompute i t) (fun t i ht => by simpa using ht) _ _ (by simp)

theorem recomputeAll_map {β : Type} (f : Account → β) (hf : ∀ cfg c a, f (recomputed cfg c a) = f a) (s : State) :
    (recomputeAll s).accounts.strings.map f = s.accounts.strings.map f :=
  foldl_inv (P := fun t => t.accounts.strings.map f = s.accounts.strings.map f) (fun t i => recompute i t)
    (fun t i ht => (recompute_map f hf i t).trans ht) _ _ rfl

@[simp] theorem restoreDueHours_keeps (s : State) :
      (restoreDueHours s).held = s.held ∧ (restoreDueHours s).pins = s.pins ∧ (restoreDueHours s).id = s.id ∧
      (restoreDueHours s).cfg = s.cfg ∧ (restoreDueHours s).clock = s.clock ∧ (restoreDueHours s).intake = s.intake ∧
      (restoreDueHours s).accounts = s.accounts ∧ (restoreDueHours s).stack = s.stack ∧
      (restoreDueHours s).line = s.line ∧ (restoreDueHours s).peers = s.peers ∧
      (restoreDueHours s).claims = s.claims ∧ (restoreDueHours s).bypass = s.bypass ∧
      (restoreDueHours s).visits = s.visits ∧ (restoreDueHours s).queue = s.queue ∧
      (restoreDueHours s).monitor = s.monitor ∧ (restoreDueHours s).port.writing = s.port.writing ∧
      (restoreDueHours s).port.areas = s.port.areas ∧ (restoreDueHours s).pending = s.pending := by
  unfold restoreDueHours
  dsimp only
  split <;> simp

@[simp] theorem restoreLatch_keeps (s : State) :
      (restoreLatch s).held = s.held ∧ (restoreLatch s).pins = s.pins ∧ (restoreLatch s).id = s.id ∧
      (restoreLatch s).cfg = s.cfg ∧ (restoreLatch s).clock = s.clock ∧ (restoreLatch s).intake = s.intake ∧
      (restoreLatch s).accounts = s.accounts ∧ (restoreLatch s).stack = s.stack ∧ (restoreLatch s).line = s.line ∧
      (restoreLatch s).peers = s.peers ∧ (restoreLatch s).claims = s.claims ∧ (restoreLatch s).bypass = s.bypass ∧
      (restoreLatch s).visits = s.visits ∧ (restoreLatch s).queue = s.queue ∧
      (restoreLatch s).monitor = s.monitor ∧ (restoreLatch s).port = s.port ∧
      (restoreLatch s).pending = s.pending := by
  unfold restoreLatch
  split <;> simp

@[simp] theorem raiseRecordCheck_keeps (lost : List PageId) (s : State) :
      (raiseRecordCheck lost s).held = s.held ∧ (raiseRecordCheck lost s).pins = s.pins ∧
      (raiseRecordCheck lost s).id = s.id ∧ (raiseRecordCheck lost s).cfg = s.cfg ∧
      (raiseRecordCheck lost s).clock = s.clock ∧ (raiseRecordCheck lost s).intake = s.intake ∧
      (raiseRecordCheck lost s).accounts = s.accounts ∧ (raiseRecordCheck lost s).stack = s.stack ∧
      (raiseRecordCheck lost s).line = s.line ∧ (raiseRecordCheck lost s).peers = s.peers ∧
      (raiseRecordCheck lost s).claims = s.claims ∧ (raiseRecordCheck lost s).bypass = s.bypass ∧
      (raiseRecordCheck lost s).visits = s.visits ∧ (raiseRecordCheck lost s).monitor = s.monitor ∧
      (raiseRecordCheck lost s).port.writing = s.port.writing ∧
      (raiseRecordCheck lost s).port.areas = s.port.areas ∧ (raiseRecordCheck lost s).pending = s.pending := by
  unfold raiseRecordCheck
  split <;> simp

@[simp] theorem reckon_keeps (lost : List PageId) (s : State) :
      (reckon lost s).held = s.held ∧ (reckon lost s).pins = s.pins ∧ (reckon lost s).id = s.id ∧
      (reckon lost s).cfg = s.cfg ∧ (reckon lost s).clock = s.clock ∧ (reckon lost s).intake = s.intake ∧
      (reckon lost s).accounts = (recomputeAll s).accounts ∧ (reckon lost s).stack = s.stack ∧
      (reckon lost s).line = s.line ∧ (reckon lost s).peers = s.peers ∧ (reckon lost s).claims = s.claims ∧
      (reckon lost s).bypass = s.bypass ∧ (reckon lost s).visits = s.visits ∧ (reckon lost s).monitor = s.monitor ∧
      (reckon lost s).port.writing = s.port.writing ∧ (reckon lost s).port.areas = s.port.areas ∧
      (reckon lost s).pending = s.pending := by
  unfold reckon
  simp

@[simp] theorem readContacts_keeps (s : State) :
      (readContacts s).accounts = s.accounts ∧ (readContacts s).port.writing = s.port.writing ∧
      (readContacts s).port.areas = s.port.areas := by
  unfold readContacts
  dsimp only
  split <;> simp

/-- The last confirmed position of a part that has only read its contacts once (R128). -/
def firstConfirmed : Position → Confirmed
  | .closed => .closed
  | .opened => .opened
  | .transit => .unknown
  | .disagree => .unknown
  | .unknown => .unknown

/-- With no breaker position taken before, a start counts no operation (R128). -/
theorem readContacts_of_unknown {s : State} (h : s.bypass.confirmed = .unknown) :
    readContacts s = { s with bypass := { s.bypass with
      position := positionOf s.pins.mbpCl s.pins.mbpOp s.bypass.position
      disagree := disagreeAfter s.pins.mbpCl s.pins.mbpOp s
      confirmed := firstConfirmed (positionOf s.pins.mbpCl s.pins.mbpOp s.bypass.position) } } := by
  unfold readContacts takeContacts
  dsimp only
  cases positionOf s.pins.mbpCl s.pins.mbpOp s.bypass.position <;> simp [confirmClosed, confirmOpen, firstConfirmed, h]

theorem takeMains_of_present {level : Bool} {s : State} (h : s.bypass.mains = .present) :
    takeMains level s = { s with bypass := { s.bypass with lossTimer := if level then none else some 1 } } := by
  unfold takeMains
  cases level <;> rw [h] <;> rfl

/-- The cabinet page that a start restores: the one read, or the zero values of a lost one. -/
def cabinetRead (unanswered : List PageId) (s : State) : CabinetPage :=
  ((pageRead unanswered s.port.areas .cabinet).bind PageContent.cabinet?).getD lostCabinetPage

/-- The part with its retained pages and its queue restored (R175 step 4, R176). -/
def restoredPart (unanswered : List PageId) (s : State) : State :=
  restoreQueue unanswered (markLost (lostPages unanswered s) (restoreStrings unanswered
    (restoreCabinet (cabinetRead unanswered s) s)))

theorem bringUp_eq (unanswered : List PageId) (s : State) :
    bringUp unanswered s = settlePort [] (enterJoining (reckon (lostPages unanswered s) (restoredPart unanswered s))) := rfl

end Sys2Proof.Machine
end

section
/-! PROOFS. What every step keeps of the string accounts (R18, R19): the commands one by one. -/

namespace Sys2Proof.Safety

open Sys2Proof.Machine

section
variable {s u : State}

/-! ## The operations that write wear -/

theorem WearSound.wearString (h : WearSound s) (i : Nat) : WearSound (wearString i s) := by
  cases ha : s.accounts.strings[i]? with
  | none => simpa [Machine.wearString, ha] using h
  | some a =>
    exact h.rewritten (wearString_wearPart ha) (timeWear_inRange (increment_le _ _) (h.account ha)) (by simp) (by simp)

theorem WearSound.sampleString (h : WearSound s) (i : Nat) (current : Int) : WearSound (sampleString i current s) := by
  cases ha : s.accounts.strings[i]? with
  | none => simpa [Machine.sampleString, ha] using h
  | some a =>
    exact h.rewritten (sampleString_wearPart current ha) (accountAfter_inRange s.cfg i current (h.account ha)) (by simp)
      (by simp)

theorem WearSound.replaceString (h : WearSound s) (i : Nat) : WearSound (replaceString i s) := by
  cases ha : s.accounts.strings[i]? with
  | none => simpa [Machine.replaceString, ha] using h
  | some a => exact h.rewritten (replaceString_wearPart ha) (by simp [wearInRange, replacedAccount]) (by simp) (by simp)

theorem WearSound.sampleReceivers (h : WearSound s) (bs : List BurstString) : WearSound (sampleReceivers bs s) := by
  have haccounts : ∀ t, WearKept s t → WearSound (sampleAccounts bs t) := fun t k =>
    foldl_inv (P := WearSound) _ (fun u b hu => hu.sampleString b.2 b.1.current) _ _ (h.kept k)
  unfold Machine.sampleReceivers
  dsimp only
  split
  · split
    · exact haccounts _ (by simp [WearKept])
    · have hsampled := haccounts { s with free := s.free + 1 } ⟨rfl, rfl, rfl⟩
      exact hsampled.kept (by simp [WearKept])
  · have hsampled := haccounts (startBeforeAccounts bs s) (by simp [WearKept])
    exact hsampled.kept (by simp [WearKept])

theorem WearSound.acceptBurst (h : WearSound s) (load : Nat) (bs : List BurstString) : WearSound (acceptBurst load bs s) :=
  WearSound.finish _ (WearSound.sampleReceivers (h.kept (by simp [WearKept])) bs)

theorem WearSound.wearAll (h : WearSound s) : WearSound (wearAll s) :=
  foldl_inv (P := WearSound) _ (fun _ i ht => ht.wearString i) _ _ h

theorem WearSound.doneEffect (h : WearSound s) (k : ItemKind) (target : Target) : WearSound (doneEffect k target s) := by
  cases k
  case stringReplace =>
    cases target
    case string i => exact (h.replaceString i).kept (by simp [WearKept, Machine.doneEffect, replaceTarget])
    all_goals exact h
  all_goals exact h.kept (by simp [WearKept, Machine.doneEffect])

/-! ## The end of a page write (R172, R174) -/

theorem WearSound.finishWrite (h : WearSound s) : WearSound (finishWrite s) := by
  unfold Machine.finishWrite
  split
  · exact h
  · next w hw =>
    have hcontent : ∀ d, some w.content = some d → contentInRange d := by
      obtain ⟨-, -, hwriting⟩ := h
      rintro d ⟨⟩
      exact hwriting w hw
    obtain ⟨haccounts, hareas, -⟩ := h
    have hidle : WearSound { s with port := { s.port with writing := none } } := ⟨haccounts, hareas, by simp⟩
    dsimp only
    split <;> exact (hidle.setArea w.page hcontent).kept (by simp [WearKept])

theorem WearSound.failWrite (h : WearSound s) : WearSound (failWrite s) := by
  unfold Machine.failWrite
  split
  · exact h
  · next w hw =>
    have hcontent : ∀ d, some w.content = some d → contentInRange d := by
      obtain ⟨-, -, hwriting⟩ := h
      rintro d ⟨⟩
      exact hwriting w hw
    obtain ⟨haccounts, hareas, -⟩ := h
    have hidle : WearSound (setPageState w.page .dirty { s with port := { s.port with writing := none }, free := s.free + 1 }) :=
      ⟨haccounts, hareas, by simp⟩
    dsimp only
    split
    · exact hidle
    · exact hidle.setArea w.page hcontent
    · exact hidle.setArea w.page (by simp)

/-! ## Holding and starting the part -/

theorem areasAfterCut_inRange (h : WearSound s) {c : PageContent} (hc : some c ∈ areasAfterCut s) : contentInRange c := by
  obtain ⟨-, hareas, -⟩ := h
  unfold areasAfterCut at hc
  split at hc
  · exact hareas c hc
  · rcases List.mem_or_eq_of_mem_set hc with hold | hnew
    · exact hareas c hold
    · cases hnew

theorem WearSound.blocksAtStart (h : WearSound s) (held : Bool) (pins : Pins) (free : Nat) (pending : List Instr) :
    WearSound (State.blocksAtStart held pins (areasAfterCut s) free pending) :=
  ⟨by simp [State.blocksAtStart], fun _ hc => areasAfterCut_inRange h hc, by simp [State.blocksAtStart, Port.start]⟩

/-- The string page that a start reads, or the zero values of a lost one, keeps the bounds. -/
theorem pageRead_string_inRange (h : WearSound s) (unanswered : List PageId) (p : PageId) :
    let page := ((pageRead unanswered s.port.areas p).bind PageContent.string?).getD lostStringPage
    wearInRange page.wear page.residue := by
  obtain ⟨-, hareas, -⟩ := h
  cases hread : pageRead unanswered s.port.areas p with
  | none => simp [wearInRange, lostStringPage]
  | some c =>
    have hc : some c ∈ s.port.areas := by
      unfold pageRead at hread
      split at hread
      · cases hread
      · rw [List.getD_eq_getElem?_getD] at hread
        cases harea : s.port.areas[pageIndex p]? with
        | none => simp [harea] at hread
        | some x =>
          rw [harea, Option.getD_some] at hread
          exact hread ▸ List.mem_of_getElem? harea
    cases c with
    | cabinet page => simp [PageContent.string?, wearInRange, lostStringPage]
    | queue items => simp [PageContent.string?, wearInRange, lostStringPage]
    | string page => exact hareas _ hc

theorem WearSound.restoreStrings (h : WearSound s) (unanswered : List PageId) : WearSound (restoreStrings unanswered s) := by
  refine ⟨fun a ha => ?_, h.2⟩
  obtain ⟨i, -, rfl⟩ := List.mem_map.mp ha
  exact pageRead_string_inRange h unanswered (.string i)

theorem WearSound.bringUp (h : WearSound s) (unanswered : List PageId) : WearSound (bringUp unanswered s) := by
  have hcabinet : WearSound (restoreCabinet (cabinetRead unanswered s) s) := h.kept ⟨rfl, rfl, rfl⟩
  rw [bringUp_eq]
  refine WearSound.settlePort ((hcabinet.restoreStrings unanswered).kept ?_) []
  simp [WearKept, enterJoining, restoredPart, startTimers, recomputeAll_map Account.wearPart fun _ _ _ => rfl]

theorem WearSound.startPart (h : WearSound s) (st : Straps) (image : Option Image) (unanswered : List PageId) :
    WearSound (startPart st image unanswered s) := by
  have hcleared : WearSound (clearBlocks s) := h.blocksAtStart _ _ _ _
  unfold Machine.startPart
  dsimp only
  split
  · exact hcleared
  · split
    · exact hcleared
    · next im =>
      split
      · exact WearSound.bringUp (s := readImage im (readStraps st (clearBlocks s))) (hcleared.kept ⟨rfl, rfl, rfl⟩) unanswered
      · exact hcleared

end

end Sys2Proof.Safety
end

section
namespace Sys2Proof.Safety

open Sys2Proof.Machine

section
variable {s u : State}

/-! ## Requests -/

theorem WearSound.request (h : WearSound s) (term : Nat) (code tag : Byte) (args : List Byte) {serve : State → Served}
    (hserve : ∀ u, WearSound u → WearSound (serve u).state) : WearSound (request term code tag args serve s) := by
  unfold Machine.request
  dsimp only
  split
  · exact h
  · have hcounted : WearSound (countReceived s) := h.kept (by simp [WearKept])
    split
    · exact hcounted
    · split
      · exact hcounted.kept (by simp [WearKept])
      · exact hcounted.kept (by simp [WearKept])
      · exact WearSound.finish _ ((hserve _ hcounted).kept (by simp [WearKept]))

theorem WearSound.withItem (h : WearSound s) (number : Nat) {f : Visit → Nat → Item → Served}
    (hf : ∀ v place it, WearSound (f v place it).state) : WearSound (withItem number s f).state := by
  unfold Machine.withItem
  (repeat' split) <;> first | exact h | exact hf _ _ _

theorem WearSound.serveVisitOpen (h : WearSound s) (term technician planned : Nat) :
    WearSound (serveVisitOpen term technician planned s).state := by
  unfold Machine.serveVisitOpen
  dsimp only
  split
  · exact h
  · split
    · exact h
    · exact h.kept (by simp [WearKept])

theorem WearSound.serveVisitClose (h : WearSound s) (number : Nat) : WearSound (serveVisitClose number s).state := by
  have hclosed : WearSound (closeByTerminal s) := h.kept (by simp [WearKept, closeByTerminal])
  unfold Machine.serveVisitClose
  (repeat' split) <;> first | exact h | exact hclosed

theorem WearSound.serveItemTake (h : WearSound s) (number : Nat) : WearSound (serveItemTake number s).state := by
  refine h.withItem number fun v place it => ?_
  split
  · exact h
  · split
    · exact h
    · exact h.kept (by simp [WearKept, answer])

theorem WearSound.serveItemReturn (h : WearSound s) (number : Nat) : WearSound (serveItemReturn number s).state := by
  refine h.withItem number fun v place it => ?_
  split
  · exact h
  · exact h.kept (by simp [WearKept, answer])

theorem WearSound.serveItemDone (h : WearSound s) (number : Nat) : WearSound (serveItemDone number s).state := by
  refine h.withItem number fun v place it => ?_
  split
  · exact h
  · split
    · exact h
    · have hrecorded : WearSound (changeVisit (recordDone it) (removePlace place s)) := h.kept (by simp [WearKept])
      exact (hrecorded.doneEffect it.kind it.target).kept (by simp [WearKept, answer])

theorem WearSound.serveWithdraw (h : WearSound s) (n : Nat) : WearSound (serveWithdraw n s).state := by
  unfold Machine.serveWithdraw
  (repeat' split) <;> exact h.kept (by simp [WearKept, answer])

theorem WearSound.serveReturn (h : WearSound s) : WearSound (serveReturn s).state := by
  unfold Machine.serveReturn
  split <;> exact h.kept (by simp [WearKept, answer])

theorem WearSound.serveTestNow (h : WearSound s) : WearSound (serveTestNow s).state := by
  unfold Machine.serveTestNow
  (repeat' split) <;> exact h.kept (by simp [WearKept, answer])

theorem WearSound.serveStop (h : WearSound s) : WearSound (serveStop s).state := by
  unfold Machine.serveStop
  split <;> exact h.kept (by simp [WearKept, answer])

theorem WearSound.serveClear (h : WearSound s) (named : Nat) : WearSound (serveClear named s).state := by
  have hcleared : WearSound ((clearedBy named s.monitor.active).foldl (fun t k => setCondition k false t) s) :=
    foldl_inv (P := WearSound) _ (fun t k ht => ht.kept (by simp [WearKept])) _ _ h
  unfold Machine.serveClear
  dsimp only
  (repeat' split) <;> exact hcleared

theorem WearSound.serveForget (h : WearSound s) (n : Nat) : WearSound (serveForget n s).state := by
  unfold Machine.serveForget
  (repeat' split) <;> exact h.kept (by simp [WearKept, answer])

theorem WearSound.serveRestart (h : WearSound s) : WearSound (serveRestart s).state := by
  unfold Machine.serveRestart
  (repeat' split) <;> exact h.kept (by simp [WearKept, answer])

theorem WearSound.requestRead (h : WearSound s) (term : Nat) (tag : Byte) (args : List Byte) :
    WearSound (requestRead term tag args s) := by
  unfold Machine.requestRead
  dsimp only
  (repeat' split) <;> exact h.kept (by simp [WearKept])

/-! ## The commands -/

/-- A command that an event takes only in some states, and otherwise leaves the state. -/
theorem WearSound.ite {c : Prop} [Decidable c] {t : State} (ht : WearSound t) (hu : WearSound u) :
    WearSound (if c then t else u) := by
  split
  · exact ht
  · exact hu

theorem WearSound.keptFinish {before : State} (h : WearSound s) (k : WearKept s u) : WearSound (Machine.finish before u) :=
  WearSound.finish before (h.kept k)

/-- The state that a command answers has sound wear. -/
def NextWearSound (o : Host.Outcome State Fault Refusal) : Prop := ∀ t, o = .next t → WearSound t

theorem nextWearSound_next {t : State} (h : WearSound t) : NextWearSound (.next t) := by
  rintro _ ⟨⟩
  exact h

theorem exec_nextWearSound (c : Instr) (h : WearSound s) : NextWearSound (exec c s) := by
  cases c with
  | resetNAsserted => exact nextWearSound_next (h.blocksAtStart _ _ _ _)
  | powerLoss => exact nextWearSound_next (h.blocksAtStart _ _ _ _)
  | start st image lost => exact nextWearSound_next (h.startPart st image lost)
  | restartStart st image lost => exact nextWearSound_next (.ite (h.startPart st image lost) h)
  | measurementBurst bytes extra early =>
    refine nextWearSound_next (.ite h ?_)
    split
    · exact h
    · exact h
    · exact h.acceptBurst _ _
  | intakeSecondTimerExpiry => exact nextWearSound_next (.ite h (h.keptFinish (by simp [WearKept])))
  | wearSecondTimerExpiry => exact nextWearSound_next (.ite h (.finish _ (.wearAll (h.kept ⟨rfl, rfl, rfl⟩))))
  | equalizeMinuteTimerExpiry =>
    refine nextWearSound_next ?_
    split
    · exact h.keptFinish (by simp [WearKept])
    · exact h
  | testSecondTimerExpiry =>
    exact nextWearSound_next (.ite h (h.keptFinish (by simp [WearKept])))
  | frameStart => exact nextWearSound_next (h.kept (by simp [WearKept]))
  | arbitrationLoss =>
    refine nextWearSound_next ?_
    split
    · exact h
    · exact h.kept (by simp [WearKept])
  | frameAbandoned =>
    refine nextWearSound_next ?_
    split
    · exact h
    · split
      · exact h
      · exact h.kept (by simp [WearKept])
  | frameSent =>
    refine nextWearSound_next ?_
    split
    · exact h
    · split
      · exact h
      · exact h.keptFinish (by simp [WearKept])
  | lineSynchronised => exact nextWearSound_next (.ite (h.kept ⟨rfl, rfl, rfl⟩) h)
  | frameRejected frame =>
    refine nextWearSound_next (.ite h ?_)
    split
    · exact h
    · exact .ite (h.kept (by simp [WearKept])) (h.kept (by simp [WearKept]))
  | statusReceived source payload =>
    refine nextWearSound_next (.ite h ?_)
    split
    · exact h
    · exact h.keptFinish (by simp [WearKept])
  | duplicateNumberHeard =>
    exact nextWearSound_next (.ite h (.ite (h.keptFinish (by simp [WearKept])) (h.kept (by simp [WearKept]))))
  | claimReceived source kind =>
    exact nextWearSound_next (.ite h (.ite (h.kept (by simp [WearKept])) (h.keptFinish (by simp [WearKept]))))
  | releaseReceived source kind =>
    exact nextWearSound_next (.ite h (.ite (h.kept (by simp [WearKept])) (h.keptFinish (by simp [WearKept]))))
  | mainsReceived source kind =>
    exact nextWearSound_next (.ite h (.ite (h.kept (by simp [WearKept])) (h.kept (by simp [WearKept]))))
  | resultRecordReceived => exact nextWearSound_next (.ite (h.kept (by simp [WearKept])) h)
  | statusTimerExpiry => exact nextWearSound_next (.ite h (h.kept (by simp [WearKept])))
  | joiningTimerExpiry => exact nextWearSound_next (.ite h (h.keptFinish (by simp [WearKept])))
  | staleTimerExpiry station => exact nextWearSound_next (.ite (h.keptFinish (by simp [WearKept])) h)
  | claimWindowTimerExpiry => exact nextWearSound_next (.ite h (h.keptFinish (by simp [WearKept])))
  | spacingTimerExpiry => exact nextWearSound_next (.ite h (h.keptFinish ⟨rfl, rfl, rfl⟩))
  | confirmationTimerExpiry station => exact nextWearSound_next (.ite (h.keptFinish (by simp [WearKept])) h)
  | mainsOkChange level => exact nextWearSound_next (.ite h (.ite (h.kept (by simp [WearKept])) (h.kept ⟨rfl, rfl, rfl⟩)))
  | mainsLossTimerExpiry => exact nextWearSound_next (.ite h (h.keptFinish (by simp [WearKept])))
  | mainsQualificationTimerExpiry => exact nextWearSound_next (.ite h (h.keptFinish (by simp [WearKept])))
  | breakerContactChange cl op =>
    exact nextWearSound_next (.ite h (.ite (h.keptFinish (by simp [WearKept])) (h.kept ⟨rfl, rfl, rfl⟩)))
  | disagreeTimerExpiry => exact nextWearSound_next (.ite h (h.kept ⟨rfl, rfl, rfl⟩))
  | pulseEnd => exact nextWearSound_next (h.kept (by simp [WearKept]))
  | transferTimeout => exact nextWearSound_next (.ite (h.keptFinish (by simp [WearKept])) h)
  | returnTimeout => exact nextWearSound_next (.ite (h.keptFinish (by simp [WearKept])) h)
  | recoveryWaitExpiry => exact nextWearSound_next (.ite h (h.keptFinish (by simp [WearKept])))
  | bypLoadChange level =>
    refine nextWearSound_next (.ite h (.ite (.finish _ (.ite (h.kept ?_) (h.kept ⟨rfl, rfl, rfl⟩))) (h.kept ⟨rfl, rfl, rfl⟩)))
    simp [WearKept]
  | keyInputChange keyS keyW => exact nextWearSound_next (.ite h (.ite (h.kept ⟨rfl, rfl, rfl⟩) (h.kept ⟨rfl, rfl, rfl⟩)))
  | keySettleTimerExpiry => exact nextWearSound_next (.ite h (h.keptFinish (by simp [WearKept])))
  | overdueTimerExpiry => exact nextWearSound_next (.ite h (h.keptFinish (by simp [WearKept])))
  | hourTimerExpiry => exact nextWearSound_next (.ite h (h.keptFinish (by simp [WearKept])))
  | memoryWriteDone => exact nextWearSound_next (.ite h (.settlePort (.finishWrite h) _))
  | memoryWriteFail => exact nextWearSound_next (.ite h (h.failWrite.keptFinish (by simp [WearKept])))
  | visitOpen term tag args => exact nextWearSound_next (h.request _ _ _ _ fun _ hu => hu.serveVisitOpen _ _ _)
  | visitClose term tag args => exact nextWearSound_next (h.request _ _ _ _ fun _ hu => hu.serveVisitClose _)
  | itemTake term tag args => exact nextWearSound_next (h.request _ _ _ _ fun _ hu => hu.serveItemTake _)
  | itemDone term tag args => exact nextWearSound_next (h.request _ _ _ _ fun _ hu => hu.serveItemDone _)
  | itemReturn term tag args => exact nextWearSound_next (h.request _ _ _ _ fun _ hu => hu.serveItemReturn _)
  | withdraw term tag args => exact nextWearSound_next (h.request _ _ _ _ fun _ hu => hu.serveWithdraw _)
  | returnRequest term tag args => exact nextWearSound_next (h.request _ _ _ _ fun _ hu => hu.serveReturn)
  | testNow term tag args => exact nextWearSound_next (h.request _ _ _ _ fun _ hu => hu.serveTestNow)
  | equalizeNow term tag args =>
    exact nextWearSound_next (h.request _ _ _ _ fun _ hu => hu.kept (by simp [WearKept, serveEqualizeNow, answer]))
  | stop term tag args => exact nextWearSound_next (h.request _ _ _ _ fun _ hu => hu.serveStop)
  | clear term tag args => exact nextWearSound_next (h.request _ _ _ _ fun _ hu => hu.serveClear _)
  | forget term tag args => exact nextWearSound_next (h.request _ _ _ _ fun _ hu => hu.serveForget _)
  | read term tag args => exact nextWearSound_next (h.requestRead _ _ _)
  | restart term tag args => exact nextWearSound_next (h.request _ _ _ _ fun _ hu => hu.serveRestart)
  | unknownRequestCode term code tag args => exact nextWearSound_next (.ite h (h.request _ _ _ _ fun _ hu => hu))

theorem WearSound.tick (h : WearSound s) : WearSound (tick s) := by
  unfold Machine.tick
  split
  · exact h
  · exact h

/-- Settles O11: a step is a tick or a command, and each keeps wear sound. -/
theorem stepKeepsWearSound : Obligations.StepKeepsWearSound := by
  intro s t h hstep
  unfold step at hstep
  split at hstep
  · cases hstep
    exact h.tick
  · next c rest _ =>
    have hpopped : WearSound { s with pending := rest } := h
    exact exec_nextWearSound c hpopped t hstep

end

end Sys2Proof.Safety
end

section
/-! PROOFS. The discharge events of a sample (R20 to R25) and the wear second (R14 to R19), string by string. -/

namespace Sys2Proof.Machine

open Sys2Proof.Safety

/-! ## A fold that takes each string once -/

section
variable {α : Type} {g : State → α → State} {index : α → Nat} {l : List α} {e : α} {s : State}

theorem foldl_inv_others {Q : State → Prop} (hQ : ∀ t a, index a ≠ index e → Q t → Q (g t a))
    (hl : ∀ a ∈ l, index a ≠ index e) (hs : Q s) : Q (l.foldl g s) := by
  induction l generalizing s with
  | nil => exact hs
  | cons a l ih =>
    obtain ⟨ha, hl⟩ := List.forall_mem_cons.mp hl
    exact ih hl (hQ s a ha hs)

/-- Where a fold takes each index once, what the others keep until an element's turn, and from it on, is what its turn gives. -/
theorem foldl_once {P Q : State → Prop} (hP : ∀ t a, index a ≠ index e → P t → P (g t a)) (hturn : ∀ t, P t → Q (g t e))
    (hQ : ∀ t a, index a ≠ index e → Q t → Q (g t a)) (hl : (l.map index).Nodup) (he : e ∈ l) (hs : P s) :
    Q (l.foldl g s) := by
  induction l generalizing s with
  | nil => cases he
  | cons a l ih =>
    rw [List.map_cons, List.nodup_cons] at hl
    obtain ⟨ha, hl⟩ := hl
    rcases List.mem_cons.mp he with rfl | hmem
    · have hothers : ∀ b ∈ l, index b ≠ index e := fun b hb heq => ha (heq ▸ List.mem_map_of_mem hb)
      exact foldl_inv_others (l := l) hQ hothers (hturn s hs)
    · exact ih hl hmem (hP s a (fun heq => ha (heq ▸ List.mem_map_of_mem hmem)) hs)

end

/-- The strings that a sample names, each once. -/
theorem zipIdx_indices_nodup {α : Type} (l : List α) : (l.zipIdx.map Prod.snd).Nodup := by
  rw [List.zipIdx_map_snd]
  exact List.nodup_range'

/-! ## An account through one sample (R20 to R24) -/

theorem sampledAccount_wearPart (threshold : Nat) (current : Int) (a : Account) :
    sampledAccount threshold current a.wearPart = (sampledAccount threshold current a).wearPart := by
  rcases a with ⟨_, _, _ | _⟩
  · simp only [sampledAccount, Account.wearPart]
    split <;> rfl
  · rfl

theorem addWear_wearPart (w : Nat) (a : Account) : addWear w a.wearPart = (addWear w a).wearPart := by
  unfold addWear
  change (if 1000000 ≤ a.wear + w then _ else _) = _
  split <;> rfl

theorem endedAccount_wearPart (cfg : Settings) (cap q : Nat) (a : Account) :
    endedAccount cfg cap q a.wearPart = (endedAccount cfg cap q a).wearPart := by
  unfold endedAccount
  rw [addWear_wearPart]
  rfl

/-- What a sample makes of wear and event rests on wear and event alone. -/
theorem accountAfter_wearPart (cfg : Settings) (i : Nat) (current : Int) (a : Account) :
    accountAfter cfg i current a.wearPart = (accountAfter cfg i current a).wearPart := by
  unfold accountAfter
  simp only [sampledAccount_wearPart, endedAccount_wearPart]
  change (if (sampledAccount cfg.dischargeThreshold current a).tailComplete then _ else _) = _
  split <;> rfl

section
variable {cfg : Settings} {i : Nat} {current : Int} {a : Account}

theorem accountAfter_idle (hidle : a.event = .idle) (hdraws : ¬current ≤ -(cfg.dischargeThreshold : Int)) :
    accountAfter cfg i current a = a := by
  simp [accountAfter, sampledAccount, hidle, hdraws, Account.tailComplete]

theorem accountAfter_starts (hidle : a.event = .idle) (hdraws : current ≤ -(cfg.dischargeThreshold : Int)) :
    accountAfter cfg i current a = { a with event := .inEvent, charge := current.natAbs, tail := 0 } := by
  simp [accountAfter, sampledAccount, hidle, hdraws, Account.tailComplete]

/-- The charge of an open event after a sample (R21). -/
def chargeAfter (current : Int) (a : Account) : Nat :=
  if current < 0 then satAdd 4294967295 a.charge current.natAbs else a.charge

theorem accountAfter_open (hevent : a.event = .inEvent)
    (hstays : current ≤ -(cfg.dischargeThreshold : Int) ∨ a.tail < 29) :
    accountAfter cfg i current a =
      { a with
        charge := chargeAfter current a
        tail := if current ≤ -(cfg.dischargeThreshold : Int) then 0 else a.tail + 1 } := by
  have htail : ¬30 ≤ if current ≤ -(cfg.dischargeThreshold : Int) then 0 else a.tail + 1 := by
    split <;> omega
  simp only [accountAfter, sampledAccount, hevent, Account.tailComplete, htail, chargeAfter]
  simp

theorem accountAfter_ends (hevent : a.event = .inEvent) (hdraws : ¬current ≤ -(cfg.dischargeThreshold : Int))
    (htail : a.tail = 29) :
    accountAfter cfg i current a =
      endedAccount cfg (capOf (rawString cfg i)) (chargeAfter current a) { a with charge := chargeAfter current a, tail := 30 } := by
  simp [accountAfter, sampledAccount, hevent, hdraws, htail, Account.tailComplete, chargeAfter]

end

end Sys2Proof.Machine
end

section
namespace Sys2Proof.Machine

open Sys2Proof.Safety

/-! ## A sample at the strings of a part -/

/-- The sample ends string `i`'s event at a depth that asks for an equalize (R22, R25). -/
def EndsDeep (cfg : Settings) (i : Nat) (current : Int) (a : Account) : Prop :=
  let b := sampledAccount cfg.dischargeThreshold current a
  b.tailComplete = true ∧ 500 ≤ depthOf (capOf (rawString cfg i)) b.charge

theorem endsDeep_wearPart (cfg : Settings) (i : Nat) (current : Int) (a : Account) :
    EndsDeep cfg i current a.wearPart ↔ EndsDeep cfg i current a := by
  unfold EndsDeep
  rw [sampledAccount_wearPart]
  rfl

theorem endsDeep_of_ends {cfg : Settings} {i : Nat} {current : Int} {a : Account} (hevent : a.event = .inEvent)
    (hdraws : ¬current ≤ -(cfg.dischargeThreshold : Int)) (htail : a.tail = 29)
    (hdepth : 500 ≤ depthOf (capOf (rawString cfg i)) (chargeAfter current a)) : EndsDeep cfg i current a := by
  simp only [EndsDeep, sampledAccount, hevent]
  exact ⟨by simp [Account.tailComplete, hdraws, htail], hdepth⟩

section
variable {i j : Nat} {current : Int} {a : Account} {s : State}

theorem exists_account_of_wearPart {p : Account} (h : (s.accounts.strings.map Account.wearPart)[i]? = some p) :
    ∃ a, s.accounts.strings[i]? = some a ∧ a.wearPart = p := by
  rw [List.getElem?_map] at h
  exact Option.map_eq_some_iff.mp h

theorem sampleString_other (hji : j ≠ i) : ((sampleString j current s).accounts.strings.map Account.wearPart)[i]?
    = (s.accounts.strings.map Account.wearPart)[i]? := by
  cases hb : s.accounts.strings[j]? with
  | none => simp [sampleString, hb]
  | some b => rw [sampleString_wearPart current hb, List.getElem?_set_ne hji]

theorem sampleString_self (ha : (s.accounts.strings.map Account.wearPart)[i]? = some a.wearPart) :
    ((sampleString i current s).accounts.strings.map Account.wearPart)[i]?
      = some (accountAfter s.cfg i current a).wearPart := by
  obtain ⟨b, hb, hpart⟩ := exists_account_of_wearPart ha
  have hlt : i < s.accounts.strings.length := (List.getElem?_eq_some_iff.mp hb).1
  rw [sampleString_wearPart current hb, List.getElem?_set_self (by simpa using hlt), ← accountAfter_wearPart, hpart,
    accountAfter_wearPart]

/-! ## The equalize latch of a deep event (R25) -/

theorem setLatch_isSome (new : EqualizeLatch) (s : State) : (setLatch new s).cond.latch.isSome = true := rfl

theorem endEvent_latch (b : Account) (h : s.cond.latch.isSome = true
    ∨ 500 ≤ depthOf (capOf (stringSettings s i)) b.charge) : (endEvent i b s).cond.latch.isSome = true := by
  unfold endEvent
  dsimp only
  simp only [askWrite_keeps]
  split
  · exact setLatch_isSome _ _
  · next hshallow =>
    have hlatch := h.resolve_right hshallow
    split <;> simpa using hlatch

theorem sampleString_latch (h : s.cond.latch.isSome = true) : (sampleString i current s).cond.latch.isSome = true := by
  unfold sampleString
  dsimp only
  (repeat' split)
  · exact h
  · exact endEvent_latch _ (.inl h)
  · exact h

theorem sampleString_latch_of_deep (ha : (s.accounts.strings.map Account.wearPart)[i]? = some a.wearPart)
    (hdeep : EndsDeep s.cfg i current a) : (sampleString i current s).cond.latch.isSome = true := by
  obtain ⟨b, hb, hpart⟩ := exists_account_of_wearPart ha
  rw [← endsDeep_wearPart, ← hpart, endsDeep_wearPart] at hdeep
  obtain ⟨hends, hdepth⟩ := hdeep
  unfold sampleString
  rw [hb]
  dsimp only
  rw [if_pos hends]
  exact endEvent_latch _ (.inr hdepth)

/-- String `i` has taken the sample: its account is as one sample leaves it, and a deep event has left its latch. -/
def TookSample (cfg : Settings) (i : Nat) (current : Int) (a : Account) (t : State) : Prop :=
  (t.accounts.strings.map Account.wearPart)[i]? = some (accountAfter cfg i current a).wearPart
    ∧ (EndsDeep cfg i current a → t.cond.latch.isSome = true)

/-- Each string takes the sample once, whatever the others make of theirs. -/
theorem sampleAccounts_tookSample {bs : List BurstString} {b : BurstString} (hb : bs[i]? = some b)
    (ha : (s.accounts.strings.map Account.wearPart)[i]? = some a.wearPart) :
    TookSample s.cfg i b.current a (sampleAccounts bs s) := by
  refine foldl_once (index := Prod.snd) (e := (b, i))
    (P := fun t => t.cfg = s.cfg ∧ (t.accounts.strings.map Account.wearPart)[i]? = some a.wearPart)
    (fun t c hc ⟨hcfg, hpart⟩ => ⟨by simp [hcfg], (sampleString_other hc).trans hpart⟩) ?_
    (fun t c hc ⟨hpart, hlatch⟩ => ⟨(sampleString_other hc).trans hpart, fun hdeep => sampleString_latch (hlatch hdeep)⟩)
    (zipIdx_indices_nodup bs) (List.mem_zipIdx_iff_getElem?.mpr hb) ⟨rfl, ha⟩
  rintro t ⟨hcfg, hpart⟩
  rw [← hcfg]
  exact ⟨sampleString_self hpart, sampleString_latch_of_deep hpart⟩

/-! ## The latch up to the end of the event, and its start there (R57) -/

theorem abortEqualize_latch (h : s.cond.latch.isSome = true) : (abortEqualize s).cond.latch.isSome = true := by
  unfold abortEqualize
  split
  · exact h
  · next f _ =>
    dsimp only
    by_cases hterminal : f.origin = .terminal
    · simpa [relatch, hterminal] using h
    · simpa [relatch, hterminal] using setLatch_isSome _ _

theorem conditionAborts_latch (h : s.cond.latch.isSome = true) : (conditionAborts s).cond.latch.isSome = true := by
  unfold conditionAborts
  dsimp only
  have hended : (if s.hasTest && testBarred s then endTest .aborted s else s).cond.latch.isSome = true := by
    split
    · simpa using h
    · exact h
  generalize (if s.hasTest && testBarred s then endTest .aborted s else s) = t at hended ⊢
  split
  · exact abortEqualize_latch hended
  · exact hended

/-- An equalize is latched or stands. -/
def EqualizeAsked (s : State) : Prop := s.cond.latch.isSome = true ∨ s.hasEqualize = true

theorem startEqualize_asked (h : s.cond.latch.isSome = true) : (startEqualize s).hasEqualize = true := by
  obtain ⟨l, hl⟩ := Option.isSome_iff_exists.mp h
  simp [startEqualize, hl, State.hasEqualize, Frame.isEqualize, setRemaining]

theorem tryEqualize_asked (h : EqualizeAsked s) : EqualizeAsked (tryEqualize s) := by
  unfold tryEqualize
  split
  · next hready =>
    exact .inr (startEqualize_asked (by simp [equalizeReady] at hready; tauto))
  · exact h

theorem tryTest_asked (h : EqualizeAsked s) : EqualizeAsked (tryTest s) := by
  simpa [EqualizeAsked, State.hasEqualize] using h

theorem tryKey_asked (h : EqualizeAsked s) : EqualizeAsked (tryKey s) := by
  simpa [EqualizeAsked, State.hasEqualize] using h

theorem startActivities_asked (h : EqualizeAsked s) : EqualizeAsked (startActivities s) := by
  have hdrawn : EqualizeAsked { s with free := s.free + 1 } := h
  unfold startActivities
  dsimp only
  split
  · split
    · exact tryTest_asked (tryEqualize_asked hdrawn)
    · exact tryEqualize_asked (tryTest_asked hdrawn)
  · exact tryKey_asked (tryTest_asked (tryEqualize_asked h))

/-- A latch that an event has set stands at its end, or its equalize does. -/
theorem finish_asked (before : State) (h : s.cond.latch.isSome = true) : EqualizeAsked (finish before s) := by
  have hsettled : EqualizeAsked (settle s) := by
    have haborted : (conditionAborts (yieldIfMust (refresh s))).cond.latch.isSome = true :=
      conditionAborts_latch (by simpa using h)
    unfold settle
    dsimp only
    have := startActivities_asked (s := handOwedClaim (giveOwner (refresh (tryCommit (refresh (supportAbort
      (refresh (conditionAborts (yieldIfMust (refresh s)))))))))) (.inl (by simpa using haborted))
    simpa [EqualizeAsked, State.hasEqualize] using this
  simpa [finish, EqualizeAsked, State.hasEqualize] using hsettled

/-! ## An accepted burst at the strings -/

theorem sampleReceivers_tookSample {bs : List BurstString} {b : BurstString} (hb : bs[i]? = some b)
    (ha : (s.accounts.strings.map Account.wearPart)[i]? = some a.wearPart) :
    TookSample s.cfg i b.current a (sampleReceivers bs s) := by
  have htook (t : State) (hcfg : t.cfg = s.cfg)
      (hparts : t.accounts.strings.map Account.wearPart = s.accounts.strings.map Account.wearPart) :
      TookSample s.cfg i b.current a (sampleAccounts bs t) := by
    rw [← hcfg]
    exact sampleAccounts_tookSample hb (by rw [hparts]; exact ha)
  have htested (t : State) (h : TookSample s.cfg i b.current a t) :
      TookSample s.cfg i b.current a (sampleTestAndHot bs t) := by simpa [TookSample] using h
  unfold sampleReceivers
  dsimp only
  split
  · split
    · exact htook _ (by simp) (by simp)
    · exact htested _ (htook _ rfl rfl)
  · exact htested _ (htook _ (by simp) (by simp))

/-- An accepted burst, before the end of its event, has given every string its sample. -/
theorem acceptBurst_tookSample (load : Nat) {bs : List BurstString} {b : BurstString} (hb : bs[i]? = some b)
    (ha : s.accounts.strings[i]? = some a) :
    ∃ u before, acceptBurst load bs s = finish before u ∧ TookSample s.cfg i b.current a u := by
  refine ⟨_, _, rfl, ?_⟩
  have h := sampleReceivers_tookSample (a := a)
    (s := commitBeforeSample bs (abortBeforeSample bs { s with intake := takeBurst load bs s.intake })) hb (by simp [ha])
  simpa using h

end

/-! ## The account that an event's end leaves (R22 to R24) -/

theorem addWear_wear (w : Nat) (a : Account) : (addWear w a).wear = min 1000000 (a.wear + w) := by
  unfold addWear
  split
  · next hfull => exact (min_eq_left hfull).symm
  · next hbelow => exact (min_eq_right (Nat.le_of_not_le hbelow)).symm

theorem addWear_residue (w : Nat) (a : Account) :
    (addWear w a).residue = if min 1000000 (a.wear + w) = 1000000 then 0 else a.residue := by
  unfold addWear
  split
  · next hfull => rw [if_pos (min_eq_left hfull)]
  · next hbelow => rw [if_neg (by omega)]

theorem addWear_events (w : Nat) (a : Account) : (addWear w a).events = a.events := by
  unfold addWear
  split <;> rfl

/-- Accounts with one wear and event agree in each of their figures. -/
theorem figures_of_wearPart {a b : Account} (h : a.wearPart = b.wearPart) :
    a.wear = b.wear ∧ a.residue = b.residue ∧ a.event = b.event ∧ a.charge = b.charge ∧ a.tail = b.tail
      ∧ a.events = b.events ∧ a.installHour = b.installHour := by
  simp only [Account.wearPart, Account.mk.injEq] at h
  obtain ⟨hwear, hresidue, hevent, hcharge, htail, hevents, -, -, -, -, hinstall, -⟩ := h
  exact ⟨hwear, hresidue, hevent, hcharge, htail, hevents, hinstall⟩

/-- Settles O20: a string's account is as one sample leaves it, and the end of the event changes neither wear nor event. -/
theorem sampleRunsDischargeEvents : Obligations.SampleRunsDischargeEvents := by
  intro bytes load bs s i a b hrun hcheck ha hb draws charge depth weight wear
  obtain ⟨u, before, hburst, hpart, hlatch⟩ := acceptBurst_tookSample load hb ha
  rw [← finish_wearPart before u, ← hburst] at hpart
  obtain ⟨c, hc, hcpart⟩ := exists_account_of_wearPart hpart
  obtain ⟨hwear, hresidue, hevent, hcharge, htail, hevents, -⟩ := figures_of_wearPart hcpart
  refine ⟨acceptBurst load bs s, c, exec_measurementBurst_of_accepted hrun (by decide) hcheck, hc, fun hidle hdraws => ?_,
    fun hidle hdraws => ?_, fun hopen hstays => ?_, fun hopen hdraws htail29 => ?_⟩
  · rw [accountAfter_idle hidle hdraws] at hwear hresidue hevent hcharge htail hevents
    exact ⟨hevent.trans hidle, hcharge, htail, hwear, hresidue, hevents⟩
  · rw [accountAfter_starts hidle hdraws] at hwear hresidue hevent hcharge htail hevents
    exact ⟨hevent, hcharge, htail, hwear, hresidue, hevents⟩
  · rw [accountAfter_open hopen hstays] at hwear hresidue hevent hcharge htail hevents
    exact ⟨hevent.trans hopen, hcharge, htail, hwear, hresidue, hevents⟩
  · rw [accountAfter_ends hopen hdraws htail29] at hwear hresidue hevent hcharge htail hevents
    refine ⟨hevent, hcharge, htail, hwear.trans (addWear_wear _ _), hresidue.trans (addWear_residue _ _),
      hevents.trans (congrArg inc16 (addWear_events _ _)), fun hdepth => ?_⟩
    rw [hburst]
    exact finish_asked before (hlatch (endsDeep_of_ends hopen hdraws htail29 hdepth))

end Sys2Proof.Machine
end

section
/-! PROOFS. A page that an event has changed stays unclean to its end (R37, R172), and the wear second (R14 to R19). -/

namespace Sys2Proof.Machine

open Sys2Proof.Safety

/-! ## Pages that an event leaves unclean -/

/-- From `r` to `s` no page has become CLEAN, and none has left the write list. -/
def PagesTracked (r s : State) : Prop :=
  s.port.states.length = r.port.states.length ∧ (∀ p, pageState p r ≠ .clean → pageState p s ≠ .clean)
    ∧ r.port.list <+: s.port.list

theorem pageState_congr {s t : State} (h : t.port.states = s.port.states) (p : PageId) : pageState p t = pageState p s := by
  unfold pageState
  rw [h]

theorem changed_ne_clean (v : PageState) : v.changed ≠ .clean := by
  cases v <;> decide

/-- A page that the port has is not CLEAN once it is marked. -/
theorem markDirty_unclean {p : PageId} {s : State} (h : pageIndex p < s.port.states.length) :
    pageState p (markDirty p s) ≠ .clean := by
  unfold markDirty
  rw [pageState_setPageState p _ s h]
  exact changed_ne_clean _

theorem pagesTracked_refl (s : State) : PagesTracked s s := ⟨rfl, fun _ h => h, List.prefix_refl _⟩

section
variable {r s t : State}

theorem PagesTracked.unclean (h : PagesTracked r s) {p : PageId} (hp : pageState p r ≠ .clean) : pageState p s ≠ .clean := by
  obtain ⟨-, hpages, -⟩ := h
  exact hpages p hp

theorem PagesTracked.kept (h : PagesTracked r s)
    (hport : t.port.states = s.port.states ∧ t.port.list = s.port.list) : PagesTracked r t := by
  obtain ⟨hlength, hpages, hlist⟩ := h
  obtain ⟨hstates, hlisted⟩ := hport
  exact ⟨(congrArg List.length hstates).trans hlength, fun p hp => pageState_congr hstates p ▸ hpages p hp, hlisted ▸ hlist⟩

theorem PagesTracked.foldl {α : Type} {g : State → α → State} (h : PagesTracked r s)
    (hg : ∀ t a, PagesTracked r t → PagesTracked r (g t a)) (l : List α) : PagesTracked r (l.foldl g s) :=
  foldl_inv (P := PagesTracked r) g hg l s h

theorem PagesTracked.setPageState (h : PagesTracked r s) (p : PageId) {v : PageState} (hv : v ≠ .clean) :
    PagesTracked r (setPageState p v s) := by
  obtain ⟨hlength, hpages, hlist⟩ := h
  refine ⟨by simpa using hlength, fun q hq => ?_, by simpa using hlist⟩
  have hold := hpages q hq
  unfold pageState at *
  rw [setPageState_states, List.getD_eq_getElem?_getD, List.getElem?_set]
  rw [List.getD_eq_getElem?_getD] at hold
  split
  · next heq =>
    split
    · exact hv
    · next hout =>
      rw [← heq, List.getElem?_eq_none (by omega)] at hold
      exact absurd rfl hold
  · exact hold

theorem PagesTracked.markDirty (h : PagesTracked r s) (p : PageId) : PagesTracked r (markDirty p s) :=
  h.setPageState p (changed_ne_clean _)

theorem PagesTracked.putOnList (h : PagesTracked r s) (ps : List PageId) : PagesTracked r (putOnList ps s) := by
  obtain ⟨hlength, hpages, hlist⟩ := h
  exact ⟨hlength, hpages, hlist.trans (List.prefix_append _ _)⟩

theorem PagesTracked.askWrite (h : PagesTracked r s) (p : PageId) : PagesTracked r (askWrite p s) := by
  unfold Machine.askWrite
  split
  · exact h.putOnList _
  · exact h

theorem PagesTracked.writeSoon (h : PagesTracked r s) (p : PageId) : PagesTracked r (writeSoon p s) :=
  (h.markDirty p).askWrite p

theorem PagesTracked.takeMark (h : PagesTracked r s) : PagesTracked r (takeMark s) := h.kept ⟨rfl, rfl⟩

theorem PagesTracked.removePlace (h : PagesTracked r s) (place : Nat) : PagesTracked r (removePlace place s) := by
  unfold Machine.removePlace writePlaces
  exact .takeMark (.foldl (h.kept ⟨by rfl, by rfl⟩) (fun _ q ht => ht.writeSoon (.queue q)) _)

theorem PagesTracked.changePlace (h : PagesTracked r s) (place : Nat) (f : Item → Item) : PagesTracked r (changePlace place f s) := by
  unfold Machine.changePlace writePlace
  exact .writeSoon (h.kept ⟨by rfl, by rfl⟩) _

theorem PagesTracked.appendItem (h : PagesTracked r s) (k : ItemKind) (target : Target) (severity : Nat) :
    PagesTracked r (appendItem k target severity s) := by
  unfold Machine.appendItem writePlace
  exact .takeMark (.writeSoon (.markDirty (h.kept ⟨by rfl, by rfl⟩) _) _)

theorem PagesTracked.enterItem (h : PagesTracked r s) (k : ItemKind) (target : Target) (severity : Nat) :
    PagesTracked r (enterItem k target severity s) := by
  unfold Machine.enterItem
  split
  · exact h.appendItem _ _ _
  · split
    · exact .appendItem (.removePlace (h.kept ⟨by rfl, by rfl⟩) _) _ _ _
    · exact h.kept ⟨by rfl, by rfl⟩

theorem PagesTracked.supersedeReview (h : PagesTracked r s) (target : Target) : PagesTracked r (supersedeReview target s) := by
  unfold Machine.supersedeReview
  split
  · exact h
  · split
    · exact h.removePlace _
    · exact h

theorem PagesTracked.raiseItem (h : PagesTracked r s) (k : ItemKind) (target : Target) (severity : Nat) :
    PagesTracked r (raiseItem k target severity s) := by
  unfold Machine.raiseItem
  split
  · exact .takeMark (h.changePlace _ _)
  · split
    · exact h
    · refine .enterItem ?_ _ _ _
      split
      · exact h.supersedeReview _
      · exact h

theorem PagesTracked.recompute (h : PagesTracked r s) (i : Nat) : PagesTracked r (recompute i s) := by
  unfold Machine.recompute
  split
  · exact h
  · next a _ =>
    dsimp only
    have hmarked (t : State) (ht : t.port = s.port) (flag : Bool) : PagesTracked r (if flag then Machine.markDirty (.string i) t else t) := by
      have hkept : PagesTracked r t := h.kept (by simp [ht])
      split
      · exact hkept.markDirty _
      · exact hkept
    split
    · exact .raiseItem (hmarked _ (by simp) _) _ _ _
    · split
      · exact .raiseItem (hmarked _ (by simp) _) _ _ _
      · exact hmarked _ (by simp) _

/-! ## The end of a test, and the end of an event -/

theorem PagesTracked.takeRecord (h : PagesTracked r s) (i : Nat) (result : TestResult) (qt : Nat) (measured : Option Nat) :
    PagesTracked r (takeRecord i result qt measured s) := by
  unfold Machine.takeRecord
  split
  · exact h
  · exact .recompute (.markDirty (h.kept (by simp)) _) _

theorem PagesTracked.handRecords (h : PagesTracked r s) (result : TestResult) (f : TestFrame) :
    PagesTracked r (handRecords result f s) :=
  h.foldl (fun _ _ ht => ht.takeRecord _ _ _ _) _

theorem PagesTracked.raiseWeakTested (h : PagesTracked r s) (result : TestResult) (f : TestFrame) :
    PagesTracked r (raiseWeakTested result f s) := by
  refine h.foldl (fun t i ht => ?_) _
  split
  · split
    · exact ht.raiseItem _ _ _
    · exact ht
  · exact ht

theorem PagesTracked.askTestWrites (h : PagesTracked r s) : PagesTracked r (askTestWrites s) :=
  (h.askWrite .cabinet).foldl (fun _ i ht => ht.askWrite (.string i)) _

theorem PagesTracked.settleSchedule (h : PagesTracked r s) : PagesTracked r (settleSchedule s) := by
  unfold Machine.settleSchedule
  exact .markDirty (h.kept ⟨by rfl, by rfl⟩) _

theorem PagesTracked.concludeTest (h : PagesTracked r s) (result : TestResult) (f : TestFrame) :
    PagesTracked r (concludeTest result f s) := by
  have hrecords := h.handRecords result f
  cases result with
  | untested => exact hrecords
  | passed => exact ((hrecords.raiseWeakTested .passed f).settleSchedule).askTestWrites
  | ended => exact ((hrecords.raiseWeakTested .ended f).settleSchedule).askTestWrites
  | aborted => exact hrecords.askTestWrites

theorem PagesTracked.endTest (h : PagesTracked r s) (result : TestResult) : PagesTracked r (endTest result s) := by
  unfold Machine.endTest
  split
  · exact h
  · next f _ =>
    have hconcluded : PagesTracked r (Machine.concludeTest result f
        { takeOff Frame.isTest s with cond := { (takeOff Frame.isTest s).cond with testSecond := none } }) :=
      .concludeTest (h.kept (by simp)) result f
    exact hconcluded.kept (by simp)

theorem PagesTracked.setRemaining (h : PagesTracked r s) (m : Nat) : PagesTracked r (setRemaining m s) := by
  unfold Machine.setRemaining
  exact .markDirty (h.kept ⟨by rfl, by rfl⟩) _

theorem PagesTracked.startEqualize (h : PagesTracked r s) : PagesTracked r (startEqualize s) := by
  unfold Machine.startEqualize
  split
  · exact h
  · exact .setRemaining (h.kept ⟨by rfl, by rfl⟩) _

theorem PagesTracked.abortEqualize (h : PagesTracked r s) : PagesTracked r (abortEqualize s) := by
  unfold Machine.abortEqualize
  split
  · exact h
  · next f _ =>
    have hoff : PagesTracked r (takeOff Frame.isEqualize s) := h.kept (by simp)
    dsimp only
    split
    · exact (hoff.setRemaining 0).kept (by simp)
    · exact hoff.kept (by simp)

theorem PagesTracked.conditionAborts (h : PagesTracked r s) : PagesTracked r (conditionAborts s) := by
  have hended : PagesTracked r (if s.hasTest && testBarred s then Machine.endTest .aborted s else s) := by
    split
    · exact h.endTest _
    · exact h
  unfold Machine.conditionAborts
  dsimp only
  generalize (if s.hasTest && testBarred s then Machine.endTest .aborted s else s) = t at hended ⊢
  split
  · exact hended.abortEqualize
  · exact hended

theorem PagesTracked.supportAbort (h : PagesTracked r s) : PagesTracked r (supportAbort s) := by
  unfold Machine.supportAbort
  split
  · exact h.endTest _
  · exact h

theorem PagesTracked.tryEqualize (h : PagesTracked r s) : PagesTracked r (tryEqualize s) := by
  unfold Machine.tryEqualize
  split
  · exact h.startEqualize
  · exact h

theorem PagesTracked.tryTest (h : PagesTracked r s) : PagesTracked r (tryTest s) := h.kept (by simp)

theorem PagesTracked.startActivities (h : PagesTracked r s) : PagesTracked r (startActivities s) := by
  have hdrawn : PagesTracked r { s with free := s.free + 1 } := h.kept ⟨by rfl, by rfl⟩
  unfold Machine.startActivities
  dsimp only
  split
  · split
    · exact hdrawn.tryEqualize.tryTest
    · exact hdrawn.tryTest.tryEqualize
  · exact h.tryEqualize.tryTest.kept (by simp)

theorem PagesTracked.settle (h : PagesTracked r s) : PagesTracked r (settle s) := by
  have hyielded : PagesTracked r (yieldIfMust (refresh s)) := h.kept (by simp)
  have haborted : PagesTracked r (refresh (Machine.conditionAborts (yieldIfMust (refresh s)))) := hyielded.conditionAborts.kept (by simp)
  have hready : PagesTracked r (handOwedClaim (giveOwner (refresh (tryCommit (refresh
      (Machine.supportAbort (refresh (Machine.conditionAborts (yieldIfMust (refresh s)))))))))) :=
    haborted.supportAbort.kept (by simp)
  exact hready.startActivities.kept (by simp [Machine.settle])

end

/-! ## The memory port at the end of an event (R173) -/

section
variable {before s u : State} {p : PageId}

theorem settlePort_unclean (l : List PageId) (h : pageState p s ≠ .clean) : pageState p (settlePort l s) ≠ .clean := by
  unfold settlePort beginWrite
  dsimp only
  split
  · next q _ _ _ => exact ((pagesTracked_refl s).setPageState q (v := .writing) (by decide)).unclean h
  · exact h

/-- No page that an event has changed is CLEAN at its end. -/
theorem finish_unclean (before : State) (h : pageState p s ≠ .clean) : pageState p (finish before s) ≠ .clean := by
  have hannounced : PagesTracked s (announceChange before (settle s)) := (pagesTracked_refl s).settle.kept (by simp)
  exact settlePort_unclean _ (hannounced.unclean h)

theorem beginWrite_mem (h : p ∈ s.port.list) :
    p ∈ (beginWrite s).port.list ∨ (beginWrite s).port.writing.map Write.page = some p := by
  unfold beginWrite
  split
  · next q rest _ hlist =>
    rw [hlist] at h
    exact (List.mem_cons.mp h).elim (fun heq => .inr (congrArg some heq.symm)) .inl
  · exact .inl h

theorem settlePort_mem {l : List PageId} (hl : l <+: s.port.list) (hp : p ∈ allPages) (hlisted : p ∈ s.port.list) :
    p ∈ (settlePort l s).port.list ∨ (settlePort l s).port.writing.map Write.page = some p := by
  obtain ⟨added, hadded⟩ := hl
  refine beginWrite_mem ?_
  rw [← hadded] at hlisted ⊢
  rw [List.drop_left]
  exact (List.mem_append.mp hlisted).elim (List.mem_append_left _)
    fun h => List.mem_append_right _ (List.mem_filter.mpr ⟨hp, by simpa using h⟩)

/-- A page that an event has listed is listed at its end, or its write has begun. -/
theorem finish_mem_list (hbefore : before.port.list <+: s.port.list) (hp : p ∈ allPages) (hlisted : p ∈ s.port.list) :
    p ∈ (finish before s).port.list ∨ (finish before s).port.writing.map Write.page = some p := by
  have hannounced : PagesTracked s (announceChange before (settle s)) := (pagesTracked_refl s).settle.kept (by simp)
  obtain ⟨-, -, hlist⟩ := hannounced
  exact settlePort_mem (hbefore.trans hlist) hp (hlist.subset hlisted)

end

end Sys2Proof.Machine
end

section
namespace Sys2Proof.Machine

open Sys2Proof.Safety

/-! ## The wear second of one string (R17 to R19) -/

theorem increment_eq (equalizing : Bool) (t : Int) :
    increment equalizing t = (if equalizing then 2 else 1) * tempFactor t := by
  unfold increment
  split <;> omega

theorem timeWear_wearPart (inc : Nat) (a : Account) : timeWear inc a.wearPart = (timeWear inc a).wearPart := by
  unfold timeWear
  change (if 1000000 ≤ a.wear then _ else if a.residue + inc < 921600 then _ else if a.wear + 1 = 1000000 then _ else _) = _
  (repeat' split) <;> rfl

section
variable {inc : Nat} {a : Account}

theorem timeWear_saturated (hfull : 1000000 ≤ a.wear) : timeWear inc a = { a with residue := 0 } := if_pos hfull

theorem timeWear_adds (hbelow : a.wear < 1000000) (hsum : a.residue + inc < 921600) :
    timeWear inc a = { a with residue := a.residue + inc } := by
  unfold timeWear
  rw [if_neg (Nat.not_le_of_lt hbelow), if_pos hsum]

theorem timeWear_carries (hbelow : a.wear < 1000000) (hsum : 921600 ≤ a.residue + inc) :
    timeWear inc a = { a with
      wear := a.wear + 1
      residue := if a.wear + 1 = 1000000 then 0 else a.residue + inc - 921600 } := by
  unfold timeWear
  rw [if_neg (Nat.not_le_of_lt hbelow), if_neg (Nat.not_lt_of_le hsum)]
  split
  · next hbound => rw [hbound]
  · rfl

theorem timeWear_event (inc : Nat) (a : Account) :
    (timeWear inc a).event = a.event ∧ (timeWear inc a).charge = a.charge ∧ (timeWear inc a).tail = a.tail
      ∧ (timeWear inc a).events = a.events ∧ (timeWear inc a).installHour = a.installHour := by
  unfold timeWear
  (repeat' split) <;> exact ⟨rfl, rfl, rfl, rfl, rfl⟩

end

/-! ## The wear second of every string -/

section
variable {r s t : State} {i j : Nat} {a : Account}

theorem PagesTracked.wearString (h : PagesTracked r s) (j : Nat) : PagesTracked r (wearString j s) := by
  unfold Machine.wearString
  split
  · exact h
  · next a _ =>
    dsimp only
    have hmarked (b : Account) : PagesTracked r (if b = a then setAccount j b s else Machine.markDirty (.string j) (setAccount j b s)) := by
      have hset : PagesTracked r (setAccount j b s) := h.kept (by simp)
      split
      · exact hset
      · exact hset.markDirty _
    split
    · exact hmarked _
    · exact (hmarked _).recompute _

theorem wearString_other (hji : j ≠ i) : ((wearString j s).accounts.strings.map Account.wearPart)[i]?
    = (s.accounts.strings.map Account.wearPart)[i]? := by
  cases hb : s.accounts.strings[j]? with
  | none => simp [wearString, hb]
  | some b => rw [wearString_wearPart hb, List.getElem?_set_ne hji]

theorem wearString_self (ha : (s.accounts.strings.map Account.wearPart)[i]? = some a.wearPart) :
    ((wearString i s).accounts.strings.map Account.wearPart)[i]?
      = some (timeWear (increment s.equalizeTop (accountingTemp s i)) a).wearPart := by
  obtain ⟨b, hb, hpart⟩ := exists_account_of_wearPart ha
  have hlt : i < s.accounts.strings.length := (List.getElem?_eq_some_iff.mp hb).1
  rw [wearString_wearPart hb, List.getElem?_set_self (by simpa using hlt), ← timeWear_wearPart, hpart, timeWear_wearPart]

/-- A wear second that changes wear or residue leaves the string's page unclean (R37). -/
theorem wearString_unclean (ha : (s.accounts.strings.map Account.wearPart)[i]? = some a.wearPart)
    (hpage : pageIndex (.string i) < s.port.states.length)
    (hchanged : (timeWear (increment s.equalizeTop (accountingTemp s i)) a).wearPart ≠ a.wearPart) :
    pageState (.string i) (wearString i s) ≠ .clean := by
  obtain ⟨b, hb, hpart⟩ := exists_account_of_wearPart ha
  have hdiffers : timeWear (increment s.equalizeTop (accountingTemp s i)) b ≠ b := fun heq => hchanged (by
    rw [← timeWear_wearPart, ← hpart, timeWear_wearPart, heq])
  have hmarked : ∀ b', pageState (.string i) (markDirty (.string i) (setAccount i b' s)) ≠ .clean := fun b' =>
    markDirty_unclean (by simpa using hpage)
  unfold wearString
  rw [hb]
  dsimp only
  rw [if_neg hdiffers]
  split
  · exact hmarked _
  · exact ((pagesTracked_refl _).recompute i).unclean (hmarked _)

/-- String `i` of the part `s` has taken its wear second: its account is as the second leaves it, and a changed one has left its page
unclean. -/
def TookSecond (s : State) (i : Nat) (a : Account) (t : State) : Prop :=
  let b := timeWear (increment s.equalizeTop (accountingTemp s i)) a
  (t.accounts.strings.map Account.wearPart)[i]? = some b.wearPart
    ∧ (pageIndex (.string i) < s.port.states.length → b.wearPart ≠ a.wearPart → pageState (.string i) t ≠ .clean)

theorem accountingTemp_congr (h : t.intake = s.intake) (i : Nat) : accountingTemp t i = accountingTemp s i := by
  simp [accountingTemp, h]

theorem equalizeTop_congr (h : t.stack = s.stack) : t.equalizeTop = s.equalizeTop := by
  simp [State.equalizeTop, h]

/-- Each string takes the wear second once, whatever the others make of theirs. -/
theorem wearAll_tookSecond (ha : s.accounts.strings[i]? = some a) : TookSecond s i a (wearAll s) := by
  have hlt : i < s.accounts.strings.length := (List.getElem?_eq_some_iff.mp ha).1
  refine foldl_once (index := id) (e := i)
    (P := fun t => t.stack = s.stack ∧ t.intake = s.intake ∧ PagesTracked s t
      ∧ (t.accounts.strings.map Account.wearPart)[i]? = some a.wearPart)
    (fun t j hj ⟨hstack, hintake, hpages, hpart⟩ =>
      ⟨by simp [hstack], by simp [hintake], hpages.wearString j, (wearString_other hj).trans hpart⟩) ?_
    (fun t j hj ⟨hpart, hpage⟩ => ⟨(wearString_other hj).trans hpart,
      fun hin hchanged => ((pagesTracked_refl t).wearString j).unclean (hpage hin hchanged)⟩)
    (by simpa using List.nodup_range) (List.mem_range.mpr hlt) ⟨rfl, rfl, pagesTracked_refl s, by simp [ha]⟩
  rintro t ⟨hstack, hintake, ⟨hlength, -⟩, hpart⟩
  unfold TookSecond
  rw [← equalizeTop_congr hstack, ← accountingTemp_congr hintake, ← hlength]
  exact ⟨wearString_self hpart, wearString_unclean hpart⟩

theorem exec_wearSecondTimerExpiry (hsecond : s.accounts.second.isSome = true) :
    exec .wearSecondTimerExpiry s = .next
      (finish s (wearAll { s with accounts := { s.accounts with second := some 10 } })) := by
  have hruns : s.accounts.second.isNone = false := by simpa using hsecond
  change execWearSecondTimerExpiry s = _
  simp [execWearSecondTimerExpiry, hruns, seconds]

end

/-- Settles O25: each string takes its second once, and the end of the event changes no wear and cleans no page. -/
theorem wearSecondCountsTime : Obligations.WearSecondCountsTime := by
  intro s hsecond
  refine ⟨_, exec_wearSecondTimerExpiry hsecond, ?_, ?_⟩
  · rw [aftermath_iff]
    simp only [finish_keeps, wearAll_keeps, and_self]
  · intro i a ha inc sum
    obtain ⟨hpart, hpage⟩ := wearAll_tookSecond (s := { s with accounts := { s.accounts with second := some 10 } }) ha
    generalize wearAll { s with accounts := { s.accounts with second := some 10 } } = u at hpart hpage ⊢
    have hinc : increment s.equalizeTop (accountingTemp s i) = inc := increment_eq _ _
    change (u.accounts.strings.map Account.wearPart)[i]?
      = some (timeWear (increment s.equalizeTop (accountingTemp s i)) a).wearPart at hpart
    change _ → (timeWear (increment s.equalizeTop (accountingTemp s i)) a).wearPart ≠ _ → _ at hpage
    rw [hinc] at hpart hpage
    rw [← finish_wearPart s u] at hpart
    obtain ⟨b, hb, hbpart⟩ := exists_account_of_wearPart hpart
    obtain ⟨hwear, hresidue, hevent, hcharge, htail, hevents, hinstall⟩ := figures_of_wearPart hbpart
    obtain ⟨kevent, kcharge, ktail, kevents, kinstall⟩ := timeWear_event inc a
    refine ⟨b, hb, fun hfull => ?_, fun hbelow hsum => ?_, fun hbelow hsum => ?_, hevent.trans kevent,
      hcharge.trans kcharge, htail.trans ktail, hevents.trans kevents, hinstall.trans kinstall, fun hlength hi hchanged => ?_⟩
    · rw [timeWear_saturated hfull] at hwear hresidue
      exact ⟨hwear, hresidue⟩
    · rw [timeWear_adds hbelow hsum] at hwear hresidue
      exact ⟨hwear, hresidue⟩
    · rw [timeWear_carries hbelow hsum] at hwear hresidue
      exact ⟨hwear, hresidue⟩
    · have hdiffers : (timeWear inc a).wearPart ≠ a.wearPart := fun heq => by
        obtain ⟨hsamewear, hsameresidue, -⟩ := figures_of_wearPart (hbpart.trans heq)
        exact hchanged.elim (fun hw => hw hsamewear) fun hr => hr hsameresidue
      have hin : pageIndex (.string i) < s.port.states.length := by
        rw [hlength]
        exact Nat.add_lt_add_left hi 1 |>.trans_le (by decide)
      exact finish_unclean s (hpage hin hdiffers)

end Sys2Proof.Machine
end

section
/-! PROOFS. How a served request ends (R85, R86): its RESULT, and what else an event's end leaves of its owner's effect. -/

namespace Sys2Proof.Machine

open Sys2Proof.Safety

/-! ## States that differ in queued frames and pages alone -/

/-- From `u` to `v` nothing differs but the frames queued or dropped, and the page states, the write list and the write. -/
def BesideQueues (u v : State) : Prop :=
  v = { u with
    line := { u.line with tx := v.line.tx, drops := v.line.drops }
    port := { u.port with states := v.port.states, list := v.port.list, writing := v.port.writing } }

section
variable {u v w t : State}

theorem besideQueues_refl (u : State) : BesideQueues u u := rfl

theorem BesideQueues.trans (h : BesideQueues u v) (k : BesideQueues v w) : BesideQueues u w := by
  unfold BesideQueues at *
  rw [h] at k
  exact k

theorem BesideQueues.quiet (h : BesideQueues u v) (hq : Quiet u) : Quiet v := by
  unfold BesideQueues at h
  rw [h]
  exact hq

/-- What the end of an event leaves of `v` it leaves of a state that differs from `v` in queued frames and pages alone. -/
theorem After.of_besideQueues (h : BesideQueues u v) (k : After v t) : After u t := by
  obtain ⟨haftermath, hquiet⟩ := k
  constructor
  · unfold BesideQueues at h
    rw [h] at haftermath
    exact haftermath
  · intro hq
    have hv := hquiet (h.quiet hq)
    unfold BesideQueues at h
    rw [h] at hv
    exact hv

theorem BesideQueues.aftermath (h : BesideQueues u v) : Aftermath u v := by
  unfold BesideQueues at h
  rw [h]
  rfl

theorem BesideQueues.keeps (h : BesideQueues u v) :
    v.cfg = u.cfg ∧ v.clock = u.clock ∧ v.accounts = u.accounts ∧ v.stack = u.stack ∧ v.cond = u.cond := by
  unfold BesideQueues at h
  rw [h]
  exact ⟨rfl, rfl, rfl, rfl, rfl⟩

theorem writeSoon_besideQueues (p : PageId) (u : State) : BesideQueues u (writeSoon p u) := by
  unfold BesideQueues writeSoon askWrite putOnList markDirty setPageState
  split <;> rfl

theorem writePlaces_besideQueues (first last : Nat) (u : State) : BesideQueues u (writePlaces first last u) :=
  foldl_inv (P := BesideQueues u) _ (fun t q ht => ht.trans (writeSoon_besideQueues (.queue q) t)) _ u (besideQueues_refl u)

/-- A RESULT displaces no frame: it is queued or dropped. -/
theorem handResult_besideQueues (term : Nat) (payload : List Byte) (awaited : Bool) (u : State) :
    BesideQueues u (handResult term payload awaited u) := by
  have hclass : ({ newFrame .result term payload with awaited := awaited } : TxFrame).cls = .result := rfl
  have hplain : ∀ tx : List TxFrame, ¬(FrameClass.result = .status ∧ tx.any TxFrame.isWaitingStatus = true) := by
    rintro tx ⟨⟨⟩, -⟩
  unfold BesideQueues handResult handFrame
  dsimp only
  rw [hclass, if_neg (hplain _)]
  split
  · rfl
  · split <;> rfl

end

/-! ## Handing over the RESULT -/

theorem handResult_mem {term : Nat} {payload : List Byte} {awaited : Bool} {u : State} (hsends : u.sending = true)
    (hroom : u.line.tx.length < 6) :
    { newFrame .result term payload with awaited := awaited } ∈ (handResult term payload awaited u).line.tx := by
  have hplain : ¬(FrameClass.result = .status ∧ u.line.tx.any TxFrame.isWaitingStatus = true) := by
    rintro ⟨⟨⟩, -⟩
  simp [handResult, handFrame, hsends, hroom, newFrame]

/-- A STATUS takes no other frame's place. -/
theorem queueStatus_mem {f : TxFrame} {u : State} (hf : f ∈ u.line.tx) (hclass : f.cls ≠ .status) :
    f ∈ (queueStatus u).line.tx := by
  have hstays : f.isWaitingStatus = false := by simp [TxFrame.isWaitingStatus, hclass]
  unfold queueStatus handFrame
  dsimp only
  split
  · exact hf
  · split
    · refine List.mem_map.mpr ⟨f, hf, ?_⟩
      rw [if_neg (by simp [hstays])]
    · split
      · exact List.mem_append_left _ hf
      · simpa [newFrame, FrameClass.displaces] using hf

/-- A quiet event's end leaves a frame that is no STATUS in the queue. -/
theorem finish_mem {f : TxFrame} {before u : State} (hquiet : Quiet u) (hf : f ∈ u.line.tx) (hclass : f.cls ≠ .status) :
    f ∈ (finish before u).line.tx := by
  unfold finish
  simp only [settlePort_keeps, settle_quiet u hquiet]
  unfold announceChange
  split
  · exact hf
  · exact queueStatus_mem hf hclass

/-! ## A served request -/

section
variable {term : Nat} {code tag : Byte} {args : List Byte} {serve : State → Served} {s u : State}

theorem answered_eq (r : Byte) (data : List Byte) : answered term code tag args r data s
    = storeAnswer term (requestPayload code tag args) (code :: tag :: r :: data) (countReceived s) := rfl

/-- A request that a station serves is counted, served, answered, and its event ends. -/
theorem request_served (hservable : Servable term code tag args s) (hcount : argCount code.toNat = some args.length)
    (hargs : args.length ≤ 10) :
    request term code tag args serve s = finish s (handResult term
      (resultPayload code tag (serve (countReceived s)).code (serve (countReceived s)).data) (serve (countReceived s)).awaited
      (storeAnswer term (requestPayload code tag args)
        (resultPayload code tag (serve (countReceived s)).code (serve (countReceived s)).data) (serve (countReceived s)).state)) := by
  obtain ⟨hterm, hreceives, hsends, hnew⟩ := hservable
  have hform : (!requestWellFormed term args || !s.receiving) = false := by simp [requestWellFormed, hterm, hargs, hreceives]
  have hcounted : (countReceived s).sending = true := hsends
  have hcheck : checkRequest term code tag args (countReceived s) = .served := by
    have hstored : storedResult term (requestPayload code tag args) (countReceived s) = none := hnew
    simp [checkRequest, hcount, hstored]
  simp [request, hform, hcounted, hcheck]

/-- A served request ends its event on its owner's state `w`, with the RESULT stored, and handed over. -/
theorem request_ends {r : Byte} {data : List Byte} {w : State} (hservable : Servable term code tag args s)
    (hcount : argCount code.toNat = some args.length) (hargs : args.length ≤ 10)
    (hcode : BitVec.ofNat 8 (serve (countReceived s)).code.number = r) (hdata : (serve (countReceived s)).data = data)
    (hstate : (serve (countReceived s)).state = w) :
    ∃ u, request term code tag args serve s = finish s u
      ∧ BesideQueues (storeAnswer term (requestPayload code tag args) (code :: tag :: r :: data) w) u := by
  refine ⟨_, request_served hservable hcount hargs, ?_⟩
  rw [← hcode, ← hdata, ← hstate]
  exact handResult_besideQueues _ _ _ _

/-- A served request leaves its owner's effect `u`, the request counted and its RESULT stored, and ends its event. -/
theorem request_after {r : Byte} {data : List Byte} (hservable : Servable term code tag args s)
    (hcount : argCount code.toNat = some args.length) (hargs : args.length ≤ 10)
    (hcode : BitVec.ofNat 8 (serve (countReceived s)).code.number = r) (hdata : (serve (countReceived s)).data = data)
    (heffect : BesideQueues (countReceived u) (serve (countReceived s)).state) :
    After (answered term code tag args r data u) (request term code tag args serve s) := by
  obtain ⟨v, hrequest, hbeside⟩ := request_ends hservable hcount hargs hcode hdata rfl
  rw [hrequest, answered_eq]
  refine After.of_besideQueues (.trans ?_ hbeside) (finish_after s v)
  unfold BesideQueues at heffect ⊢
  rw [heffect]
  rfl

/-- In a quiet state with room in the queue, the RESULT of a served request leaves in a frame of its own. -/
theorem request_result_mem (hservable : Servable term code tag args s) (hcount : argCount code.toNat = some args.length)
    (hargs : args.length ≤ 10) (hquiet : Quiet (serve (countReceived s)).state)
    (hstate : (serve (countReceived s)).state.line.state = s.line.state)
    (hroom : (serve (countReceived s)).state.line.tx.length < 6) :
    { newFrame .result term (resultPayload code tag (serve (countReceived s)).code (serve (countReceived s)).data) with
        awaited := (serve (countReceived s)).awaited } ∈ (request term code tag args serve s).line.tx := by
  rw [request_served hservable hcount hargs]
  obtain ⟨-, -, hsends, -⟩ := hservable
  refine finish_mem ((handResult_besideQueues _ _ _ _).quiet hquiet) (handResult_mem ?_ hroom) (by simp [newFrame])
  rw [State.sending_congr (s := s) (by simpa using hstate)]
  exact hsends

/-- A request whose owner answers with a code alone, and does nothing, is refused with it. -/
theorem request_refused {r : Byte} {c : ResultCode} (hservable : Servable term code tag args s)
    (hcount : argCount code.toNat = some args.length) (hargs : args.length ≤ 10)
    (hserve : serve (countReceived s) = answer c (countReceived s)) (hcode : BitVec.ofNat 8 c.number = r) :
    Refused term code tag args r s (request term code tag args serve s) := by
  constructor
  · exact request_after hservable hcount hargs (by rw [hserve]; exact hcode) (by rw [hserve]; rfl)
      (by rw [hserve]; exact besideQueues_refl _)
  · intro hquiet hroom
    have hmem := request_result_mem (serve := serve) hservable hcount hargs (by rw [hserve]; exact hquiet) (by rw [hserve]; rfl)
      (by rw [hserve]; exact hroom)
    rw [hserve] at hmem
    rw [← hcode]
    exact hmem

end

end Sys2Proof.Machine
end

section
/-! PROOFS. ITEM_TAKE, ITEM_DONE and ITEM_RETURN (R148 to R151). -/

namespace Sys2Proof.Machine

open Sys2Proof.Safety

/-! ## The item that a request names (R148) -/

theorem arg16_pair (a b : Byte) : arg16 [a, b] 0 = 256 * a.toNat + b.toNat := by
  simp [arg16, natOf, Nat.mul_comm]

section
variable {number place : Nat} {items : List Item} {it : Item}

theorem findNumber_none (h : ∀ x ∈ items, x.number ≠ number) : findNumber number items = none := by
  unfold findNumber
  rw [List.findIdx?_eq_none_iff]
  exact fun x hx => by simpa using h x hx

theorem findNumber_some (hit : items[place]? = some it) (hnumber : it.number = number)
    (hfirst : ∀ (j : Nat) (x : Item), j < place → items[j]? = some x → x.number ≠ number) :
    findNumber number items = some place := by
  obtain ⟨hlt, hget⟩ := List.getElem?_eq_some_iff.mp hit
  unfold findNumber
  rw [List.findIdx?_eq_some_iff_getElem]
  refine ⟨hlt, by simp [hget, hnumber], fun j hj => ?_⟩
  have hj' : j < items.length := hj.trans hlt
  simpa using hfirst j items[j] hj (List.getElem?_eq_getElem hj')

theorem modify_eq_set (f : Item → Item) (hit : items[place]? = some it) : items.modify place f = items.set place (f it) := by
  obtain ⟨hlt, rfl⟩ := List.getElem?_eq_some_iff.mp hit
  rw [List.modify_eq_set_getElem?, hit]
  rfl

end

section
variable {number place : Nat} {it : Item} {v : Visit} {s : State} {f : Visit → Nat → Item → Served}

theorem withItem_zero : withItem 0 s f = answer .bad s := rfl

theorem withItem_noVisit (hnumber : number ≠ 0) (hvisit : s.visits.current = none) : withItem number s f = answer .noVisit s := by
  simp [withItem, hnumber, hvisit]

theorem withItem_notFound (hnumber : number ≠ 0) (hvisit : s.visits.current.isSome = true)
    (hnone : ∀ x ∈ s.queue.items, x.number ≠ number) : withItem number s f = answer .notFound s := by
  obtain ⟨v, hv⟩ := Option.isSome_iff_exists.mp hvisit
  simp [withItem, hnumber, hv, findNumber_none hnone]

theorem withItem_found (hvisit : s.visits.current = some v) (hnumber : number ≠ 0) (hit : s.queue.items[place]? = some it)
    (hheld : it.number = number)
    (hfirst : ∀ (j : Nat) (x : Item), j < place → s.queue.items[j]? = some x → x.number ≠ number) :
    withItem number s f = f v place it := by
  simp [withItem, hnumber, hvisit, findNumber_some hit hheld hfirst, hit]

end

/-! ## What an item's change leaves (R161, R162) -/

theorem changePlace_besideQueues {place : Nat} {it : Item} (f : Item → Item) {s : State} (hit : s.queue.items[place]? = some it) :
    BesideQueues { s with queue := { s.queue with items := s.queue.items.set place (f it) } } (changePlace place f s) := by
  rw [← modify_eq_set f hit]
  exact writeSoon_besideQueues _ _

/-- The mark taken anew is the mark: taking it twice is taking it once. -/
theorem markOf_markOf (cfg : Settings) (items : List Item) (old : Bool) :
    markOf cfg items (markOf cfg items old) = markOf cfg items old := by
  unfold markOf
  split
  · rfl
  · split <;> rfl

theorem takeMark_besideQueues {u v : State} (h : BesideQueues u v) : BesideQueues (takeMark u) (takeMark v) := by
  unfold BesideQueues at *
  rw [h]
  rfl

theorem takeMark_takeMark (s : State) : takeMark (takeMark s) = takeMark s := by
  unfold takeMark
  simp only [markOf_markOf]

theorem removePlace_besideQueues (place : Nat) (s : State) :
    BesideQueues (takeMark { s with queue := { s.queue with items := s.queue.items.eraseIdx place } }) (removePlace place s) :=
  takeMark_besideQueues (writePlaces_besideQueues _ _ _)

/-- The mark for a queue, its items of severity 3 sought with `any` (R162). -/
theorem markOf_eq (cfg : Settings) (items : List Item) (old : Bool) :
    markOf cfg items old =
      if items.any (fun x => x.severity == 3) = true ∨ cfg.riseCount ≤ items.countP (fun x => 2 ≤ x.severity) then true
      else if items.countP (fun x => 2 ≤ x.severity) < cfg.fallCount then false else old := by
  have hurgent : 0 < urgentCount items ↔ items.any (fun x => x.severity == 3) = true := by
    simp [urgentCount, List.countP_pos_iff]
  unfold markOf severeCount
  simp only [hurgent]

/-! ## Done (R150, R151) -/

/-- The part with item `it` gone from its place, the mark taken, and the item listed in the open visit (R150 steps 1 and 2). -/
def itemDone (place : Nat) (it : Item) (s : State) : State :=
  changeVisit (recordDone it) (takeMark { s with queue := { s.queue with items := s.queue.items.eraseIdx place } })

theorem itemDone_besideQueues (place : Nat) (it : Item) (s : State) :
    BesideQueues (itemDone place it s) (changeVisit (recordDone it) (removePlace place s)) := by
  have h := removePlace_besideQueues place s
  unfold itemDone
  unfold BesideQueues at h ⊢
  rw [h]
  rfl

theorem takeMark_itemDone (place : Nat) (it : Item) (s : State) : takeMark (itemDone place it s) = itemDone place it s :=
  congrArg (changeVisit (recordDone it)) (takeMark_takeMark _)

theorem itemDone_eq {place : Nat} {it : Item} {v : Visit} {s : State} (hvisit : s.visits.current = some v) :
    itemDone place it s =
      let kept := s.queue.items.eraseIdx place
      let severe := kept.countP fun x => 2 ≤ x.severity
      { s with
        queue := { s.queue with
          items := kept
          mark := if kept.any (fun x => x.severity == 3) = true ∨ s.cfg.riseCount ≤ severe then true
            else if severe < s.cfg.fallCount then false else s.queue.mark }
        visits := { s.visits with current := some (recordDone it v) } } := by
  simp only [itemDone, changeVisit, takeMark, markOf_eq, hvisit, Option.map_some]

section
variable {u w : State}

theorem doneEffect_static (target : Target) (h : BesideQueues u w) :
    BesideQueues { u with bypass := { u.bypass with staticCount := 0 } } (doneEffect .staticSwitchService target w) := by
  refine .trans ?_ (writeSoon_besideQueues .cabinet { w with bypass := { w.bypass with staticCount := 0 } })
  unfold BesideQueues at *
  rw [h]

theorem doneEffect_breaker (target : Target) (h : BesideQueues u w) :
    BesideQueues { u with bypass := { u.bypass with breakerCount := 0 } } (doneEffect .breakerService target w) := by
  refine .trans ?_ (writeSoon_besideQueues .cabinet { w with bypass := { w.bypass with breakerCount := 0 } })
  unfold BesideQueues at *
  rw [h]

theorem setCondition_besideQueues (k : Condition) (value : Bool) (h : BesideQueues u w) :
    BesideQueues (setCondition k value u) (setCondition k value w) := by
  unfold BesideQueues at *
  rw [h]
  rfl

end

/-! ## The three requests -/

section
variable {term : Nat} {tag a b : Byte} {s : State}

/-- The refusals that the three requests share, in the order of R148. -/
theorem itemRequest_refused {code : Byte} {serve : State → Served} {f : State → Visit → Nat → Item → Served}
    (hservable : Servable term code tag [a, b] s) (hcount : argCount code.toNat = some 2)
    (hserve : ∀ u, serve u = withItem (arg16 [a, b] 0) u (f u)) :
    let n := 256 * a.toNat + b.toNat
    let t := request term code tag [a, b] serve s
    (n = 0 → Refused term code tag [a, b] 9#8 s t)
      ∧ (n ≠ 0 → s.visits.current = none → Refused term code tag [a, b] 7#8 s t)
      ∧ (n ≠ 0 → s.visits.current.isSome = true → (∀ it ∈ s.queue.items, it.number ≠ n) →
        Refused term code tag [a, b] 6#8 s t) := by
  rw [arg16_pair] at hserve
  refine ⟨fun hn => ?_, fun hn hvisit => ?_, fun hn hvisit hnone => ?_⟩
  · exact request_refused hservable hcount (by simp) (by rw [hserve, hn, withItem_zero]) rfl
  · exact request_refused hservable hcount (by simp) ((hserve _).trans (withItem_noVisit (s := countReceived s) hn hvisit)) rfl
  · exact request_refused hservable hcount (by simp) ((hserve _).trans (withItem_notFound (s := countReceived s) hn hvisit hnone)) rfl

theorem exec_itemTake : exec (.itemTake term tag [a, b]) s
    = .next (request term 3#8 tag [a, b] (serveItemTake (arg16 [a, b] 0)) s) := rfl

theorem exec_itemDone : exec (.itemDone term tag [a, b]) s
    = .next (request term 4#8 tag [a, b] (serveItemDone (arg16 [a, b] 0)) s) := rfl

theorem exec_itemReturn : exec (.itemReturn term tag [a, b]) s
    = .next (request term 5#8 tag [a, b] (serveItemReturn (arg16 [a, b] 0)) s) := rfl

/-- The item that the operands name stands at a place of the queue, the first of its number, while visit `v` is open. -/
structure NamesItem (a b : Byte) (v : Visit) (place : Nat) (it : Item) (s : State) : Prop where
  visit : s.visits.current = some v
  number : 256 * a.toNat + b.toNat ≠ 0
  item : s.queue.items[place]? = some it
  held : it.number = 256 * a.toNat + b.toNat
  first : ∀ (j : Nat) (x : Item), j < place → s.queue.items[j]? = some x → x.number ≠ 256 * a.toNat + b.toNat

variable {v : Visit} {place : Nat} {it : Item}

theorem NamesItem.withItem (h : NamesItem a b v place it s) (f : Visit → Nat → Item → Served) :
    withItem (arg16 [a, b] 0) (countReceived s) f = f v place it := by
  rw [arg16_pair]
  exact withItem_found (s := countReceived s) h.visit h.number h.item h.held h.first

theorem itemTake_cases (h : NamesItem a b v place it s) (hservable : Servable term 3#8 tag [a, b] s) :
    let mine := s.queue.items.countP fun x => x.taken == some v.number
    let t := request term 3#8 tag [a, b] (serveItemTake (arg16 [a, b] 0)) s
    (it.taken ≠ none → Refused term 3#8 tag [a, b] 5#8 s t)
      ∧ (it.taken = none → 8 ≤ mine → Refused term 3#8 tag [a, b] 8#8 s t)
      ∧ (it.taken = none → mine < 8 → After (answered term 3#8 tag [a, b] 0#8 []
          { s with queue := { s.queue with items := s.queue.items.set place { it with taken := some v.number } } }) t) := by
  intro mine
  have hserve : serveItemTake (arg16 [a, b] 0) (countReceived s) =
      if it.taken.isSome then answer .state (countReceived s)
      else if 8 ≤ mine then answer .limit (countReceived s)
      else answer .done (changePlace place (fun u => { u with taken := some v.number }) (countReceived s)) := h.withItem _
  refine ⟨fun htaken => ?_, fun hopen hfull => ?_, fun hopen hroom => ?_⟩
  · exact request_refused hservable rfl (by simp) (by rw [hserve, if_pos (Option.isSome_iff_ne_none.mpr htaken)]) rfl
  · exact request_refused hservable rfl (by simp) (by rw [hserve, if_neg (by simp [hopen]), if_pos hfull]) rfl
  · rw [if_neg (by simp [hopen]), if_neg (Nat.not_le_of_lt hroom)] at hserve
    refine request_after hservable rfl (by simp) (by rw [hserve]; rfl) (by rw [hserve]; rfl) ?_
    rw [hserve]
    exact changePlace_besideQueues (s := countReceived s) _ h.item

theorem itemReturn_cases (h : NamesItem a b v place it s) (hservable : Servable term 5#8 tag [a, b] s) :
    let t := request term 5#8 tag [a, b] (serveItemReturn (arg16 [a, b] 0)) s
    (it.taken = none → Refused term 5#8 tag [a, b] 5#8 s t)
      ∧ (it.taken ≠ none → After (answered term 5#8 tag [a, b] 0#8 []
          { s with queue := { s.queue with items := s.queue.items.set place { it with taken := none } } }) t) := by
  have hserve : serveItemReturn (arg16 [a, b] 0) (countReceived s) =
      if it.taken.isNone then answer .state (countReceived s)
      else answer .done (changePlace place untake (countReceived s)) := h.withItem _
  refine ⟨fun hopen => ?_, fun htaken => ?_⟩
  · exact request_refused hservable rfl (by simp) (by rw [hserve, if_pos (by simp [hopen])]) rfl
  · rw [if_neg (by simpa using htaken)] at hserve
    refine request_after hservable rfl (by simp) (by rw [hserve]; rfl) (by rw [hserve]; rfl) ?_
    rw [hserve]
    exact changePlace_besideQueues (s := countReceived s) untake h.item

theorem serveItemDone_eq (h : NamesItem a b v place it s) : serveItemDone (arg16 [a, b] 0) (countReceived s) =
    if it.taken.isNone then answer .state (countReceived s)
    else if it.kind = .stringReplace ∧ (s.hasTest || s.hasDischarge) then answer .busy (countReceived s)
    else answer .done (takeMark (doneEffect it.kind it.target
      (changeVisit (recordDone it) (removePlace place (countReceived s))))) := h.withItem _

theorem itemDone_refused (h : NamesItem a b v place it s) (hservable : Servable term 4#8 tag [a, b] s) :
    let t := request term 4#8 tag [a, b] (serveItemDone (arg16 [a, b] 0)) s
    (it.taken = none → Refused term 4#8 tag [a, b] 5#8 s t)
      ∧ (it.taken ≠ none → it.kind = .stringReplace → s.hasTest = true ∨ s.hasDischarge = true →
          Refused term 4#8 tag [a, b] 2#8 s t) := by
  refine ⟨fun hopen => ?_, fun htaken hkind hbusy => ?_⟩
  · exact request_refused hservable rfl (by simp) (by rw [serveItemDone_eq h, if_pos (by simp [hopen])]) rfl
  · refine request_refused (c := .busy) hservable rfl (by simp) ?_ rfl
    rw [serveItemDone_eq h, if_neg (by simpa using htaken), if_pos ⟨hkind, by simpa using hbusy⟩]

/-- A done item's effect `u`, as far as its kind's own effect is known, is left after the event. -/
theorem itemDone_after {u : State} (h : NamesItem a b v place it s) (hservable : Servable term 4#8 tag [a, b] s)
    (htaken : it.taken ≠ none) (hfree : ¬(it.kind = .stringReplace ∧ (s.hasTest || s.hasDischarge) = true))
    (heffect : ∀ w, BesideQueues (countReceived (itemDone place it s)) w →
      BesideQueues (countReceived u) (takeMark (doneEffect it.kind it.target w))) :
    After (answered term 4#8 tag [a, b] 0#8 [] u) (request term 4#8 tag [a, b] (serveItemDone (arg16 [a, b] 0)) s) := by
  have hserve := serveItemDone_eq h
  rw [if_neg (by simpa using htaken), if_neg hfree] at hserve
  refine request_after hservable rfl (by simp) (by rw [hserve]; rfl) (by rw [hserve]; rfl) ?_
  rw [hserve]
  exact heffect _ (itemDone_besideQueues place it (countReceived s))

end

end Sys2Proof.Machine
end

section
namespace Sys2Proof.Machine

open Sys2Proof.Safety

/-! ## A replaced string (R36, R70, R151) -/

theorem recompute_strings {i : Nat} {a : Account} {s : State} (ha : s.accounts.strings[i]? = some a) :
    (recompute i s).accounts.strings = s.accounts.strings.set i (recomputed s.cfg (stringSettings s i) a) := by
  unfold recompute
  rw [ha]
  dsimp only
  (repeat' split) <;> simp

theorem replaceString_account {i : Nat} {a : Account} {s : State} (ha : s.accounts.strings[i]? = some a) :
    (replaceString i s).accounts.strings[i]?
      = some (recomputed s.cfg (stringSettings s i) (replacedAccount s.clock.hours a)) := by
  have hlt : i < s.accounts.strings.length := (List.getElem?_eq_some_iff.mp ha).1
  have hset : (markDirty (.string i) (setAccount i (replacedAccount s.clock.hours a) s)).accounts.strings[i]?
      = some (replacedAccount s.clock.hours a) := by simp [hlt]
  unfold replaceString
  rw [ha]
  simp only [askWrite_keeps, recompute_strings hset]
  simp [hlt, stringSettings]

/-- A new string's health is its measured capacity, 100, and all of its rated capacity is available. -/
theorem recomputed_replaced {cfg : Settings} (c : StringSettings) (hours : Nat) (a : Account) (hlife : 0 < cfg.designLife) :
    recomputed cfg c (replacedAccount hours a) =
      { a with
        wear := 0
        residue := 0
        events := 0
        measured := 100
        lastTest := .untested
        testCharge := 0
        testEndHour := 0
        installHour := hours
        reviewCrossed := decide (100 ≤ cfg.reviewThreshold)
        replaceCrossed := decide (100 ≤ cfg.replaceThreshold)
        health := 100
        available := c.ratedAh } := by
  have hhealth : healthOf cfg.designLife (replacedAccount hours a) = 100 := by
    simp [healthOf, wearHealth, replacedAccount, Nat.mul_div_cancel_left _ hlife]
  simp only [recomputed, hhealth, availableOf, Nat.mul_div_cancel _ (Nat.succ_pos 99)]
  rfl

/-! ## The end of an event over which no TEST frame stands -/

section
variable {u : State}

theorem conditionAborts_of_noTest (h : u.hasTest = false) :
    (conditionAborts u).accounts = u.accounts ∧ (conditionAborts u).cond.testDue = u.cond.testDue
      ∧ (conditionAborts u).hasTest = false := by
  have hframes : (abortEqualize u).hasTest = false := by
    unfold abortEqualize
    split
    · exact h
    · have hoff : (takeOff Frame.isEqualize u).hasTest = false := by
        simp only [State.hasTest, takeOff_frames, List.any_eq_false] at h ⊢
        exact fun f hf => h f (List.mem_of_mem_filter hf)
      dsimp only
      split <;> simpa [State.hasTest] using hoff
  unfold conditionAborts
  simp only [h, Bool.false_and, Bool.false_eq_true, if_false]
  split
  · exact ⟨by simp, by simp, hframes⟩
  · exact ⟨rfl, rfl, h⟩

theorem settle_of_noTest (h : u.hasTest = false) :
    (settle u).accounts = u.accounts ∧ (settle u).cond.testDue = u.cond.testDue := by
  have hyielded : (yieldIfMust (refresh u)).hasTest = false := by simpa [State.hasTest] using h
  obtain ⟨haccounts, hdue, htest⟩ := conditionAborts_of_noTest hyielded
  have hsupport : supportAbort (refresh (conditionAborts (yieldIfMust (refresh u))))
      = refresh (conditionAborts (yieldIfMust (refresh u))) := by
    have htest' : (refresh (conditionAborts (yieldIfMust (refresh u)))).hasTest = false := htest
    simp [supportAbort, htest']
  unfold settle
  simp only [hsupport]
  constructor
  · simpa using haccounts
  · simpa using hdue

theorem finish_of_noTest (before : State) (h : u.hasTest = false) :
    (finish before u).accounts = u.accounts ∧ (finish before u).cond.testDue = u.cond.testDue := by
  simpa [finish] using settle_of_noTest h

end

section
variable {term : Nat} {tag a b : Byte} {s : State} {v : Visit} {place : Nat} {it : Item}

theorem storeAnswer_aftermath (term : Nat) (sent result : List Byte) {u w : State} (h : Aftermath u w) :
    Aftermath (storeAnswer term sent result u) (storeAnswer term sent result w) := by
  unfold Aftermath at *
  rw [h]
  rfl

/-- The own effect of marking a STRING_REPLACE item for string `i` done: its account and the test due hour are taken anew. -/
theorem replaceTarget_effect {i : Nat} {x : Account} {w : State} (hx : w.accounts.strings[i]? = some x) :
    let t := takeMark (doneEffect .stringReplace (.string i) w)
    Aftermath w t ∧ t.stack = w.stack ∧ t.cond.testDue = nextDue w.clock.hours w.cfg.testInterval
      ∧ t.accounts.strings[i]? = some (recomputed w.cfg (stringSettings w i) (replacedAccount w.clock.hours x)) := by
  have heffect : doneEffect .stringReplace (.string i) w = askWrite .cabinet (moveTestDue (replaceString i w)) := rfl
  rw [heffect]
  refine ⟨?_, by simp, by simp [moveTestDue], by simpa using replaceString_account hx⟩
  rw [aftermath_iff]
  simp

/-- A STRING_REPLACE item done: the string's account and the next test due hour are taken anew. -/
theorem itemDone_replaces {i : Nat} {x : Account} (h : NamesItem a b v place it s)
    (hservable : Servable term 4#8 tag [a, b] s) (htaken : it.taken ≠ none) (hkind : it.kind = .stringReplace)
    (htarget : it.target = .string i) (htest : s.hasTest = false) (hdischarge : s.hasDischarge = false)
    (hx : s.accounts.strings[i]? = some x) :
    let t := request term 4#8 tag [a, b] (serveItemDone (arg16 [a, b] 0)) s
    Aftermath (answered term 4#8 tag [a, b] 0#8 [] (itemDone place it s)) t
      ∧ t.cond.testDue = nextDue s.clock.hours s.cfg.testInterval
      ∧ t.accounts.strings[i]? = some (recomputed s.cfg (stringSettings s i) (replacedAccount s.clock.hours x)) := by
  have hserve := serveItemDone_eq h
  rw [if_neg (by simpa using htaken), if_neg (by simp [htest, hdischarge]), hkind, htarget] at hserve
  have hstate : (serveItemDone (arg16 [a, b] 0) (countReceived s)).state = takeMark (doneEffect .stringReplace (.string i)
      (changeVisit (recordDone it) (removePlace place (countReceived s)))) := by rw [hserve]; rfl
  obtain ⟨u, hrequest, hbeside⟩ := request_ends (r := 0#8) (data := []) hservable (by rfl) (by simp) (by rw [hserve]; rfl)
    (by rw [hserve]; rfl) hstate
  have hrecorded := itemDone_besideQueues place it (countReceived s)
  generalize changeVisit (recordDone it) (removePlace place (countReceived s)) = w at hrecorded hbeside
  obtain ⟨hcfg, hclock, haccounts, hstack, -⟩ := hrecorded.keeps
  obtain ⟨hown, hownstack, hdue, haccount⟩ := replaceTarget_effect (w := w) (by rw [haccounts]; exact hx)
  generalize takeMark (doneEffect .stringReplace (.string i) w) = e at *
  obtain ⟨-, -, huaccounts, hustack, hucond⟩ := hbeside.keeps
  have hunotest : u.hasTest = false := by
    rw [State.hasTest_congr (s := s) (by rw [hustack]; simp [hownstack, hstack, itemDone])]
    exact htest
  obtain ⟨hfinish, hfinishdue⟩ := finish_of_noTest s hunotest
  rw [hrequest]
  refine ⟨?_, ?_, ?_⟩
  · have heffect := storeAnswer_aftermath term (requestPayload 4#8 tag [a, b]) [4#8, tag, 0#8] (Aftermath.trans hrecorded.aftermath hown)
    exact Aftermath.trans (Aftermath.trans heffect hbeside.aftermath) (finish_aftermath s u)
  · rw [hfinishdue, hucond]
    simp [hdue, hclock, hcfg, itemDone]
  · rw [hfinish, huaccounts]
    simpa [hclock, hcfg, itemDone, stringSettings] using haccount

end

end Sys2Proof.Machine
end

section
namespace Sys2Proof.Machine

open Sys2Proof.Safety

/-! ## The statement -/

section
variable {term : Nat} {tag a b : Byte} {s : State} {v : Visit} {place : Nat} {it : Item}

/-- What marking an item done leaves, kind by kind, but for a replacement (R151). -/
theorem itemDone_kinds (h : NamesItem a b v place it s) (hservable : Servable term 4#8 tag [a, b] s) :
    let u := itemDone place it s
    let done (u : State) : Prop := After (answered term 4#8 tag [a, b] 0#8 [] u)
      (request term 4#8 tag [a, b] (serveItemDone (arg16 [a, b] 0)) s)
    (it.taken ≠ none → it.kind = .stringReview ∨ it.kind = .sensorCheck ∨ it.kind = .testOverdue → done u)
      ∧ (it.taken ≠ none → it.kind = .staticSwitchService → done { u with bypass := { u.bypass with staticCount := 0 } })
      ∧ (it.taken ≠ none → it.kind = .breakerService → done { u with bypass := { u.bypass with breakerCount := 0 } })
      ∧ (it.taken ≠ none → it.kind = .transferCheck → done (setCondition .transferFault false u))
      ∧ (it.taken ≠ none → it.kind = .recordCheck → done (setCondition .recordLost false u)) := by
  intro u done
  have hmarked : takeMark (countReceived u) = countReceived u := takeMark_itemDone place it (countReceived s)
  refine ⟨fun htaken hkind => ?_, fun htaken hkind => ?_, fun htaken hkind => ?_, fun htaken hkind => ?_, fun htaken hkind => ?_⟩
  · refine itemDone_after h hservable htaken (by rcases hkind with hk | hk | hk <;> simp [hk]) fun w hw => ?_
    have heffect : doneEffect it.kind it.target w = w := by rcases hkind with hk | hk | hk <;> rw [hk] <;> rfl
    have hend := takeMark_besideQueues hw
    rwa [hmarked, ← heffect] at hend
  · refine itemDone_after h hservable htaken (by simp [hkind]) fun w hw => ?_
    have hend := takeMark_besideQueues (doneEffect_static it.target hw)
    change BesideQueues { takeMark (countReceived u) with bypass := { u.bypass with staticCount := 0 } } _ at hend
    rwa [hmarked, ← hkind] at hend
  · refine itemDone_after h hservable htaken (by simp [hkind]) fun w hw => ?_
    have hend := takeMark_besideQueues (doneEffect_breaker it.target hw)
    change BesideQueues { takeMark (countReceived u) with bypass := { u.bypass with breakerCount := 0 } } _ at hend
    rwa [hmarked, ← hkind] at hend
  · refine itemDone_after h hservable htaken (by simp [hkind]) fun w hw => ?_
    have hend := takeMark_besideQueues (setCondition_besideQueues .transferFault false hw)
    change BesideQueues (setCondition .transferFault false (takeMark (countReceived u))) _ at hend
    rw [hmarked] at hend
    rwa [hkind]
  · refine itemDone_after h hservable htaken (by simp [hkind]) fun w hw => ?_
    have hend := takeMark_besideQueues (setCondition_besideQueues .recordLost false hw)
    change BesideQueues (setCondition .recordLost false (takeMark (countReceived u))) _ at hend
    rw [hmarked] at hend
    rwa [hkind]

end

/-- Settles O53. -/
theorem itemRequests : Obligations.ItemRequests := by
  intro s term tag a b n found changed
  refine ⟨fun i code hmem hservable => ?_, fun v place it hvisit hfound => ?_⟩
  · simp only [List.mem_cons, Prod.mk.injEq, List.not_mem_nil, or_false] at hmem
    rcases hmem with ⟨rfl, rfl⟩ | ⟨rfl, rfl⟩ | ⟨rfl, rfl⟩
    · exact ⟨_, exec_itemTake, itemRequest_refused hservable rfl fun _ => rfl⟩
    · exact ⟨_, exec_itemDone, itemRequest_refused hservable rfl fun _ => rfl⟩
    · exact ⟨_, exec_itemReturn, itemRequest_refused hservable rfl fun _ => rfl⟩
  · obtain ⟨hnumber, hitem, hheld, hfirst⟩ := hfound
    have h : NamesItem a b v place it s := ⟨hvisit, hnumber, hitem, hheld, hfirst⟩
    refine ⟨fun hservable => ⟨_, exec_itemTake, itemTake_cases h hservable⟩,
      fun hservable => ⟨_, exec_itemReturn, itemReturn_cases h hservable⟩, fun hservable => ?_⟩
    intro kept severe u done
    have hu : u = itemDone place it s := (itemDone_eq hvisit).symm
    obtain ⟨hopen, hbusy⟩ := itemDone_refused h hservable
    obtain ⟨hplain, hstatic, hbreaker, htransfer, hrecord⟩ := itemDone_kinds h hservable
    rw [← hu] at hplain hstatic hbreaker htransfer hrecord
    refine ⟨_, exec_itemDone, hopen, hbusy, hplain, hstatic, hbreaker, htransfer, hrecord,
      fun i x htaken hkind htarget htest hdischarge hx hlife => ?_⟩
    have hreplaced := itemDone_replaces h hservable htaken hkind htarget htest hdischarge hx
    rw [← hu, recomputed_replaced _ _ _ hlife] at hreplaced
    exact hreplaced

end Sys2Proof.Machine
end

section
/-! PROOFS. Reset, loss of power, start and restart (chapter 11). -/

namespace Sys2Proof.Machine

open Sys2Proof.Safety

/-! ## Restart (R177) -/

section
variable {s : State} {st : Straps} {image : Option Image} {lost : List PageId} {term : Nat} {tag : Byte}

theorem restartReady_iff : restartReady s = true ↔
    s.port.restartWait = true ∧ s.port.list = [] ∧ s.port.writing = none ∧ ∀ f ∈ s.line.tx, f.awaited = false := by
  simp [restartReady, and_assoc]

theorem exec_restartStart : exec (.restartStart st image lost) s =
    if restartReady s then exec (.start st image lost) s else .next s := by
  change Host.Outcome.next (if restartReady s then startPart st image lost s else s) = _
  split <;> rfl

/-- Every DIRTY page of the part is on the write list once a wait has listed it. -/
theorem mem_listDirty {p : PageId} (hp : p ∈ allPages) (hdirty : pageState p s = .dirty) : p ∈ (listDirty s).port.list := by
  by_cases hlisted : p ∈ s.port.list
  · exact List.mem_append_left _ hlisted
  · refine List.mem_append_right _ ?_
    simp [hp, hdirty, hlisted]

theorem exec_restart : exec (.restart term tag []) s = .next (request term 14#8 tag [] serveRestart s) := rfl

theorem serveRestart_again (hwait : s.port.restartWait = true) : serveRestart s = answer .started s := if_pos hwait

theorem serveRestart_refused (hwait : s.port.restartWait = false) (hbusy : s.stack.frames ≠ [] ∨ s.claims.own ≠ none) :
    serveRestart s = answer .state s := by
  have hstate : (!s.stackEmpty || s.claims.own.isSome) = true := by
    simpa [State.stackEmpty, Option.isSome_iff_ne_none] using hbusy
  simp [serveRestart, hwait, hstate]

theorem serveRestart_begins (hwait : s.port.restartWait = false) (hempty : s.stack.frames = []) (hidle : s.claims.own = none) :
    serveRestart s = { answer .started (beginRestart s) with awaited := true } := by
  have hstate : (!s.stackEmpty || s.claims.own.isSome) = false := by simp [State.stackEmpty, hempty, hidle]
  simp [serveRestart, hwait, hstate]

/-- RESTART answers STARTED again while its wait is on, STATE over an activity or a claim, and otherwise begins the wait. -/
theorem restart_cases (hservable : Servable term 14#8 tag [] s) :
    let t := request term 14#8 tag [] serveRestart s
    (s.port.restartWait = true → After (answered term 14#8 tag [] 1#8 [] s) t)
      ∧ (s.port.restartWait = false → s.stack.frames ≠ [] ∨ s.claims.own ≠ none → Refused term 14#8 tag [] 5#8 s t)
      ∧ (s.port.restartWait = false → s.stack.frames = [] → s.claims.own = none →
          After (answered term 14#8 tag [] 1#8 [] { s with
            port := { s.port with restartWait := true }, accounts := { s.accounts with second := none } }) t
          ∧ (∀ p ∈ allPages, pageState p s = .dirty → p ∈ t.port.list ∨ t.port.writing.map Write.page = some p)
          ∧ (Quiet s → s.line.tx.length < 6 → { resultFrame term 14#8 tag 1#8 [] with awaited := true } ∈ t.line.tx)) := by
  refine ⟨fun hwait => ?_, fun hwait hbusy => ?_, fun hwait hempty hidle => ?_⟩
  · have hserve := serveRestart_again (s := countReceived s) hwait
    exact request_after hservable rfl (by simp) (by rw [hserve]; rfl) (by rw [hserve]; rfl) (by rw [hserve]; rfl)
  · exact request_refused hservable rfl (by simp) (serveRestart_refused (s := countReceived s) hwait hbusy) rfl
  · have hserve := serveRestart_begins (s := countReceived s) hwait hempty hidle
    refine ⟨?_, fun p hp hdirty => ?_, fun hquiet hroom => ?_⟩
    · exact request_after hservable rfl (by simp) (by rw [hserve]; rfl) (by rw [hserve]; rfl) (by rw [hserve]; rfl)
    · rw [request_served hservable (by rfl) (by simp), hserve]
      have hlisted : p ∈ (beginRestart (countReceived s)).port.list := mem_listDirty hp hdirty
      refine finish_mem_list ?_ hp (by simpa [answer] using hlisted)
      simp [answer, beginRestart, listDirty, putOnList]
    · have hmem := request_result_mem (serve := serveRestart) hservable (by rfl) (by simp) (by rw [hserve]; exact hquiet)
        (by rw [hserve]; rfl) (by rw [hserve]; exact hroom)
      rw [hserve] at hmem
      exact hmem

end

/-! ## The items of a part that starts are OPEN (R176) -/

/-- No item of the queue is TAKEN. -/
def AllOpen (s : State) : Prop := ∀ it ∈ s.queue.items, it.taken = none

section
variable {s t : State}

theorem AllOpen.of_items (h : AllOpen s) (hitems : t.queue.items = s.queue.items) : AllOpen t := by
  unfold AllOpen
  rw [hitems]
  exact h

theorem AllOpen.removePlace (h : AllOpen s) (place : Nat) : AllOpen (removePlace place s) := fun it hit =>
  h it (List.mem_of_mem_eraseIdx (by simpa [Machine.removePlace] using hit))

theorem AllOpen.appendItem (h : AllOpen s) (k : ItemKind) (target : Target) (severity : Nat) :
    AllOpen (appendItem k target severity s) := by
  intro it hit
  simp only [Machine.appendItem, takeMark_items, writePlace_keeps, markDirty_keeps, List.mem_append, List.mem_singleton] at hit
  rcases hit with hold | rfl
  · exact h it hold
  · rfl

theorem AllOpen.enterItem (h : AllOpen s) (k : ItemKind) (target : Target) (severity : Nat) :
    AllOpen (enterItem k target severity s) := by
  unfold Machine.enterItem
  split
  · exact h.appendItem _ _ _
  · split
    · next place _ =>
      have hcounted : AllOpen { s with queue := { s.queue with displaced := inc16 s.queue.displaced } } := h
      exact (hcounted.removePlace place).appendItem _ _ _
    · exact h

/-- A change of one item that leaves its holder alone. -/
theorem AllOpen.changePlace (h : AllOpen s) (place : Nat) {f : Item → Item} (hf : ∀ it, (f it).taken = it.taken) :
    AllOpen (changePlace place f s) := by
  intro it hit
  have hmem : it ∈ s.queue.items.modify place f := by simpa [Machine.changePlace] using hit
  obtain ⟨n, hn⟩ := List.mem_iff_getElem?.mp hmem
  rw [List.getElem?_modify] at hn
  obtain ⟨old, hold, rfl⟩ := Option.map_eq_some_iff.mp hn
  have hopen : old.taken = none := h old (List.mem_of_getElem? hold)
  split
  · rw [hf, hopen]
  · exact hopen

theorem AllOpen.supersedeReview (h : AllOpen s) (target : Target) : AllOpen (supersedeReview target s) := by
  unfold Machine.supersedeReview
  split
  · exact h
  · split
    · exact h.removePlace _
    · exact h

theorem AllOpen.raiseItem (h : AllOpen s) (k : ItemKind) (target : Target) (severity : Nat) :
    AllOpen (raiseItem k target severity s) := by
  unfold Machine.raiseItem
  split
  · next place _ =>
    have hmerged : AllOpen (Machine.changePlace place (mergeItem severity) s) := h.changePlace place fun _ => rfl
    exact hmerged.of_items (by simp)
  · split
    · exact h
    · refine AllOpen.enterItem ?_ _ _ _
      split
      · exact h.supersedeReview _
      · exact h

theorem AllOpen.recompute (h : AllOpen s) (i : Nat) : AllOpen (recompute i s) := by
  unfold Machine.recompute
  split
  · exact h
  · dsimp only
    have hmarked (t : State) (ht : t.queue = s.queue) (flag : Bool) : AllOpen (if flag then markDirty (.string i) t else t) := by
      split
      · exact h.of_items (by simp [ht])
      · exact h.of_items (by simp [ht])
    split
    · exact .raiseItem (hmarked _ (by simp) _) _ _ _
    · split
      · exact .raiseItem (hmarked _ (by simp) _) _ _ _
      · exact hmarked _ (by simp) _

theorem AllOpen.recomputeAll (h : AllOpen s) : AllOpen (recomputeAll s) :=
  foldl_inv (P := AllOpen) _ (fun _ i ht => ht.recompute i) _ _ h

theorem AllOpen.dueCheck (h : AllOpen s) : AllOpen (dueCheck s) := by
  refine h.of_items ?_
  unfold Machine.dueCheck setLatch
  dsimp only
  (repeat' split) <;> simp

theorem AllOpen.overdueCheck (h : AllOpen s) : AllOpen (overdueCheck s) := by
  unfold Machine.overdueCheck
  split
  · refine AllOpen.raiseItem ?_ _ _ _
    exact h
  · exact h

theorem AllOpen.raiseServiceItems (h : AllOpen s) : AllOpen (raiseServiceItems s) := by
  have hstatic : AllOpen (if s.cfg.staticInterval ≤ s.bypass.staticCount
      then Machine.raiseItem .staticSwitchService .staticSwitch 2 s else s) := by
    split
    · exact h.raiseItem _ _ _
    · exact h
  unfold Machine.raiseServiceItems
  dsimp only
  split
  · exact hstatic.raiseItem _ _ _
  · exact hstatic

theorem AllOpen.raiseRecordCheck (h : AllOpen s) (lost : List PageId) : AllOpen (raiseRecordCheck lost s) := by
  unfold Machine.raiseRecordCheck
  split
  · exact h
  · exact h.raiseItem _ _ _

theorem AllOpen.reckon (h : AllOpen s) (lost : List PageId) : AllOpen (reckon lost s) := by
  have hdue : AllOpen (restoreLatch (restoreDueHours (Machine.recomputeAll s))) := h.recomputeAll.of_items (by simp)
  exact hdue.dueCheck.overdueCheck.raiseServiceItems.raiseRecordCheck lost

/-- A start drops the holder of every item it reads (R176). -/
theorem restoreItem_open {n : Nat} {items : List Item} (h : ∀ it ∈ items, it.taken = none) (p : PageItem) :
    ∀ it ∈ restoreItem n items p, it.taken = none := by
  intro it hit
  unfold restoreItem at hit
  split at hit
  · exact h it hit
  · rcases List.mem_append.mp hit with hold | hnew
    · exact h it hold
    · rw [List.mem_singleton.mp hnew]
      rfl

theorem restoreQueue_allOpen (unanswered : List PageId) (s : State) : AllOpen (restoreQueue unanswered s) := by
  unfold restoreQueue
  dsimp only
  refine AllOpen.of_items ?_ (takeMark_items _)
  refine foldl_inv (P := AllOpen) (fun t q => markDirty (.queue q) t) (fun t q ht => ht.of_items (by simp)) _ _ ?_
  exact List.foldlRecOn (motive := fun items : List Item => ∀ it ∈ items, it.taken = none) _ _ (by simp)
    (fun _ hitems p _ => restoreItem_open hitems p)

end

end Sys2Proof.Machine
end

section
/-! PROOFS. Reset, loss of power and the start of the part (R170, R171, R174 to R176), and the statement on them. -/

namespace Sys2Proof.Machine

open Sys2Proof.Safety

/-! ## What a start restores -/

section
variable {s b : State} {st : Straps} {im : Image} {lost : List PageId}

theorem pageRead_good {p : PageId} {c : PageContent} {areas : List (Option PageContent)}
    (harea : areas[pageIndex p]? = some (some c)) (hgood : p ∉ lost) : pageRead lost areas p = some c := by
  simp [pageRead, hgood, List.getD_eq_getElem?_getD, harea]

theorem pageRead_lost {p : PageId} {areas : List (Option PageContent)}
    (hlost : areas[pageIndex p]? = some none ∨ p ∈ lost) : pageRead lost areas p = none := by
  unfold pageRead
  split
  · rfl
  · next hanswered =>
    have harea : areas[pageIndex p]? = some none := hlost.resolve_right (by simpa using hanswered)
    simp [List.getD_eq_getElem?_getD, harea]

theorem cabinetRead_good {p : CabinetPage} (harea : s.port.areas[0]? = some (some (.cabinet p))) (hgood : PageId.cabinet ∉ lost) :
    cabinetRead lost s = p := by
  simp [cabinetRead, pageRead_good (p := .cabinet) harea hgood, PageContent.cabinet?]

theorem cabinetRead_lost (hlost : s.port.areas[0]? = some none ∨ PageId.cabinet ∈ lost) :
    cabinetRead lost s = lostCabinetPage := by
  simp [cabinetRead, pageRead_lost (p := .cabinet) hlost]

theorem cabinet_mem_lostPages (hlost : s.port.areas[0]? = some none ∨ PageId.cabinet ∈ lost) :
    PageId.cabinet ∈ lostPages lost s := by
  simp [lostPages, configuredPages, allPages, pageGood, pageRead_lost (p := .cabinet) hlost]

/-- A page found lost raises RECORD_LOST (R171). -/
theorem markLost_recordLost {l : List PageId} (hlost : l ≠ []) : (markLost l s).monitor.active.recordLost = true := by
  simp [markLost, hlost, Conditions.put]

theorem restoredPart_keeps : let t := restoredPart lost b
    t.held = b.held ∧ t.pins = b.pins ∧ t.id = b.id ∧ t.cfg = b.cfg ∧ t.intake = b.intake ∧ t.stack = b.stack ∧
    t.line = b.line ∧ t.peers = b.peers ∧ t.claims = b.claims ∧ t.pending = b.pending := by
  simp [restoredPart, restoreStrings, restoreCabinet]

theorem restoredPart_clock : (restoredPart lost b).clock =
    { b.clock with hours := (cabinetRead lost b).hours, hoursAtStart := (cabinetRead lost b).hours } := by
  simp [restoredPart, restoreStrings, restoreCabinet]

theorem restoredPart_bypass : (restoredPart lost b).bypass =
    { b.bypass with staticCount := (cabinetRead lost b).staticCount, breakerCount := (cabinetRead lost b).breakerCount } := by
  simp [restoredPart, restoreStrings, restoreCabinet]

theorem restoredPart_visits : (restoredPart lost b).visits = { b.visits with counter := (cabinetRead lost b).visitCounter } := by
  simp [restoredPart, restoreStrings, restoreCabinet]

theorem restoredPart_strings : (restoredPart lost b).accounts.strings = (List.range b.cfg.stringCount).map fun i =>
    restoredAccount (((pageRead lost b.port.areas (.string i)).bind PageContent.string?).getD lostStringPage) := by
  simp [restoredPart, restoreStrings, restoreCabinet]

theorem restoredPart_recordLost (hlost : lostPages lost b ≠ []) : (restoredPart lost b).monitor.active.recordLost = true := by
  simpa [restoredPart] using markLost_recordLost hlost

/-! ## The first tick of a part that starts -/

/-- What the contacts and the mains level make of a bypass controller that has taken neither (R124, R128). -/
def firstBypass (s : State) : Bypass :=
  { s.bypass with
    lossTimer := if s.pins.mainsOk then none else some 1
    position := positionOf s.pins.mbpCl s.pins.mbpOp s.bypass.position
    disagree := disagreeAfter s.pins.mbpCl s.pins.mbpOp s
    confirmed := firstConfirmed (positionOf s.pins.mbpCl s.pins.mbpOp s.bypass.position) }

theorem enterJoining_eq (hmains : s.bypass.mains = .present) (hconfirmed : s.bypass.confirmed = .unknown) :
    enterJoining s = refresh { startTimers s with bypass := firstBypass s } := by
  have htaken : takeMains s.pins.mainsOk (startTimers s)
      = { startTimers s with bypass := { s.bypass with lossTimer := if s.pins.mainsOk then none else some 1 } } :=
    takeMains_of_present hmains
  unfold enterJoining
  rw [htaken, readContacts_of_unknown (by exact hconfirmed)]
  rfl

theorem firstBypass_mains : (firstBypass s).mains = s.bypass.mains := rfl

theorem firstBypass_lossTimer : (firstBypass s).lossTimer = if s.pins.mainsOk then none else some 1 := rfl

theorem firstBypass_staticCount : (firstBypass s).staticCount = s.bypass.staticCount := rfl

theorem firstBypass_breakerCount : (firstBypass s).breakerCount = s.bypass.breakerCount := rfl

theorem firstBypass_closed (hcl : s.pins.mbpCl = true) (hop : s.pins.mbpOp = false) :
    (firstBypass s).position = .closed ∧ (firstBypass s).confirmed = .closed := by
  simp [firstBypass, positionOf, firstConfirmed, hcl, hop]

theorem firstBypass_opened (hcl : s.pins.mbpCl = false) (hop : s.pins.mbpOp = true) :
    (firstBypass s).position = .opened ∧ (firstBypass s).confirmed = .opened := by
  simp [firstBypass, positionOf, firstConfirmed, hcl, hop]

theorem firstBypass_transit (hold : s.bypass.position = .unknown) (heq : s.pins.mbpCl = s.pins.mbpOp) :
    (firstBypass s).position = .transit ∧ (firstBypass s).confirmed = .unknown := by
  cases hop : s.pins.mbpOp <;> simp [firstBypass, positionOf, firstConfirmed, hold, heq, hop]

/-! ## The part after its start -/

/-- The part with its retained figures restored and reckoned, before its timers run. -/
def reckonedPart (lost : List PageId) (b : State) : State := reckon (lostPages lost b) (restoredPart lost b)

@[simp] theorem reckonedPart_keeps : let t := reckonedPart lost b
    t.held = b.held ∧ t.pins = b.pins ∧ t.id = b.id ∧ t.cfg = b.cfg ∧ t.intake = b.intake ∧ t.stack = b.stack ∧
    t.line = b.line ∧ t.peers = b.peers ∧ t.claims = b.claims ∧ t.pending = b.pending := by
  simp [reckonedPart, restoredPart_keeps]

theorem reckonedPart_bypass : (reckonedPart lost b).bypass = (restoredPart lost b).bypass := by
  simp [reckonedPart]

theorem bringUp_joined (hmains : b.bypass.mains = .present) (hconfirmed : b.bypass.confirmed = .unknown) :
    bringUp lost b = settlePort [] (refresh { startTimers (reckonedPart lost b) with bypass := firstBypass (reckonedPart lost b) }) := by
  rw [bringUp_eq, ← reckonedPart, enterJoining_eq]
  · rw [reckonedPart_bypass, restoredPart_bypass]
    exact hmains
  · rw [reckonedPart_bypass, restoredPart_bypass]
    exact hconfirmed

section
variable (hmains : b.bypass.mains = .present) (hconfirmed : b.bypass.confirmed = .unknown)
include hmains hconfirmed

theorem bringUp_keeps : let t := bringUp lost b
    t.held = b.held ∧ t.pins = b.pins ∧ t.id = b.id ∧ t.cfg = b.cfg ∧ t.stack = b.stack ∧ t.peers = b.peers ∧
    t.claims = b.claims ∧ t.pending = b.pending := by
  simp [bringUp_joined hmains hconfirmed, startTimers]

theorem bringUp_line : (bringUp lost b).line = { b.line with state := .joining, statusTimer := some 10, joiningTimer := some 40 } := by
  simp [bringUp_joined hmains hconfirmed, startTimers, seconds]

theorem bringUp_intake : (bringUp lost b).intake = { b.intake with second := some 10 } := by
  simp [bringUp_joined hmains hconfirmed, startTimers, seconds]

theorem bringUp_clock : (bringUp lost b).clock =
    { b.clock with hours := (cabinetRead lost b).hours, hoursAtStart := (cabinetRead lost b).hours, hourTimer := some 36000 } := by
  simp [bringUp_joined hmains hconfirmed, startTimers, seconds, reckonedPart, restoredPart_clock]

theorem bringUp_visits : (bringUp lost b).visits =
    { b.visits with counter := (cabinetRead lost b).visitCounter, settleTimer := some 5 } := by
  simp [bringUp_joined hmains hconfirmed, startTimers, reckonedPart, restoredPart_visits]

theorem bringUp_bypass : (bringUp lost b).bypass = firstBypass (reckonedPart lost b) := by
  simp [bringUp_joined hmains hconfirmed]

theorem bringUp_second : (bringUp lost b).accounts.second = some 10 := by
  simp [bringUp_joined hmains hconfirmed, startTimers, seconds]

/-- Apart from what a recompute takes, a string starts with the account that its page gives. -/
theorem bringUp_strings {β : Type} (f : Account → β) (hf : ∀ cfg c a, f (recomputed cfg c a) = f a) :
    (bringUp lost b).accounts.strings.map f = (List.range b.cfg.stringCount).map fun i =>
      f (restoredAccount (((pageRead lost b.port.areas (.string i)).bind PageContent.string?).getD lostStringPage)) := by
  have hstarted : (bringUp lost b).accounts.strings = (recomputeAll (restoredPart lost b)).accounts.strings := by
    simp [bringUp_joined hmains hconfirmed, startTimers, reckonedPart]
  rw [hstarted, recomputeAll_map f hf, restoredPart_strings, List.map_map]
  rfl

theorem bringUp_allOpen : AllOpen (bringUp lost b) := by
  have hopen : AllOpen (reckonedPart lost b) := (restoreQueue_allOpen _ _).reckon _
  refine hopen.of_items ?_
  simp [bringUp_joined hmains hconfirmed, startTimers]

theorem bringUp_recordLost (hlost : lostPages lost b ≠ []) : (bringUp lost b).monitor.active.recordLost = true := by
  simp [bringUp_joined hmains hconfirmed, followed, startTimers, reckonedPart, restoredPart_recordLost hlost]

end

/-- A string with a good page starts with its figures, in the event state IDLE (R175, R176). -/
theorem bringUp_string (hmains : b.bypass.mains = .present) (hconfirmed : b.bypass.confirmed = .unknown) {i : Nat} {p : StringPage}
    (hi : i < b.cfg.stringCount) (harea : b.port.areas[1 + i]? = some (some (.string p))) (hgood : PageId.string i ∉ lost) :
    ∃ a, (bringUp lost b).accounts.strings[i]? = some a ∧ a.wear = p.wear ∧ a.residue = p.residue
      ∧ a.events = p.events ∧ a.measured = p.measured ∧ a.event = .idle ∧ a.charge = 0 := by
  have hpage : pageRead lost b.port.areas (.string i) = some (.string p) := pageRead_good harea hgood
  have hfigures := bringUp_strings (lost := lost) hmains hconfirmed
    (fun a : Account => (a.wear, a.residue, a.events, a.measured, a.event, a.charge)) fun _ _ _ => rfl
  have hat := congrArg (fun l => l[i]?) hfigures
  simp only [List.getElem?_map, List.getElem?_range hi, Option.map_some, hpage, Option.bind_some, PageContent.string?,
    Option.getD_some, restoredAccount] at hat
  obtain ⟨a, ha, hfields⟩ := Option.map_eq_some_iff.mp hat
  simp only [Prod.mk.injEq] at hfields
  exact ⟨a, ha, hfields⟩

theorem bringUp_strings_length (hmains : b.bypass.mains = .present) (hconfirmed : b.bypass.confirmed = .unknown) :
    (bringUp lost b).accounts.strings.length = b.cfg.stringCount := by
  have hcount := congrArg List.length (bringUp_strings (lost := lost) hmains hconfirmed (fun _ => ()) fun _ _ _ => rfl)
  simpa using hcount

/-! ## Holding and starting (R170, R171, R174, R175) -/

theorem exec_resetNAsserted : exec .resetNAsserted s = .next (hold s) := rfl

theorem exec_powerLoss : exec .powerLoss s = .next (hold s) := rfl

theorem exec_start {image : Option Image} : exec (.start st image lost) s = .next (startPart st image lost s) := rfl

theorem startPart_refused {image : Option Image} (hbad : isStation st.id.toNat = false ∨ ∀ im, image = some im → imageGood im = false) :
    startPart st image lost s = configFault (readStraps st (clearBlocks s)) := by
  unfold startPart
  dsimp only
  split
  · rfl
  · next hstation =>
    have himage := hbad.resolve_left (by simpa using hstation)
    split
    · rfl
    · next im => simp [himage im rfl]

/-- The part of a good START with its straps and its image read, and nothing else. -/
def configured (st : Straps) (im : Image) (s : State) : State := readImage im (readStraps st (clearBlocks s))

theorem startPart_good (hstation : isStation st.id.toNat = true) (himage : imageGood im = true) :
    startPart st (some im) lost s = bringUp lost (configured st im s) := by
  simp [startPart, hstation, himage, configured]

end

/-! ## The statement -/

/-- Settles O60. A reset, a loss of power and a refused START are their blocks' start values by definition; a good START is read off
the lemmas on `bringUp`; RESTART_START and RESTART are `restartReady_iff` and `restart_cases`. -/
theorem heldAndStarted : Obligations.HeldAndStarted := by
  unfold Obligations.HeldAndStarted
  refine ⟨fun s => ?_, fun s st image lost => ?_, fun s term tag hservable => ⟨_, exec_restart, restart_cases hservable⟩⟩
  · refine ⟨exec_resetNAsserted, exec_powerLoss, fun st image lost => ⟨fun hbad => ?_, fun im hstation himage hgood => ?_⟩⟩
    · rw [exec_start, startPart_refused hbad]
      rfl
    subst himage
    have hm : (configured st im s).bypass.mains = .present := rfl
    have hc : (configured st im s).bypass.confirmed = .unknown := rfl
    have hpins : (configured st im s).pins = s.pins := rfl
    obtain ⟨kheld, kpins, kid, kcfg, kstack, kpeers, kclaims, kpending⟩ := bringUp_keeps (lost := lost) hm hc
    refine ⟨_, exec_start.trans (by rw [startPart_good hstation hgood]), kheld, kpins, kid, kcfg, kpending, bringUp_line hm hc,
      kstack, kclaims, kpeers, ?_, bringUp_second hm hc, ?_, ?_⟩
    · rw [bringUp_intake hm hc, kcfg]
      rfl
    · rw [kcfg, bringUp_strings_length hm hc]
    rw [bringUp_clock hm hc, bringUp_bypass hm hc, bringUp_visits hm hc]
    have hrpins : (reckonedPart lost (configured st im s)).pins = s.pins := by simp [hpins]
    have hrbypass := (reckonedPart_bypass (lost := lost) (b := configured st im s)).trans restoredPart_bypass
    refine ⟨rfl, rfl, ?_, ?_, ?_, ?_, ?_, rfl, bringUp_allOpen hm hc, ?_, ?_, ?_⟩
    · rw [firstBypass_mains, hrbypass]
      exact hm
    · rw [firstBypass_lossTimer, hrpins]
    · rw [← hrpins]
      exact firstBypass_closed
    · rw [← hrpins]
      exact firstBypass_opened
    · rw [← hrpins]
      exact firstBypass_transit (by rw [hrbypass]; rfl)
    · intro p harea hcabinet
      have hread : cabinetRead lost (configured st im s) = p := cabinetRead_good harea hcabinet
      rw [firstBypass_staticCount, firstBypass_breakerCount, hrbypass, hread]
      exact ⟨rfl, rfl, rfl, rfl, rfl⟩
    · intro i p hi harea hstring
      rw [kcfg] at hi
      exact bringUp_string hm hc hi harea hstring
    · intro hlost
      have hread : cabinetRead lost (configured st im s) = lostCabinetPage := cabinetRead_lost hlost
      have hmarked : PageId.cabinet ∈ lostPages lost (configured st im s) := cabinet_mem_lostPages hlost
      rw [hread]
      exact ⟨rfl, bringUp_recordLost hm hc (List.ne_nil_of_mem hmarked)⟩
  · rw [exec_restartStart]
    refine ⟨fun hwait hlist hwriting htx => if_pos (restartReady_iff.mpr ⟨hwait, hlist, hwriting, htx⟩), fun hnot => if_neg ?_⟩
    intro hready
    obtain ⟨hwait, hlist, hwriting, htx⟩ := restartReady_iff.mp hready
    rcases hnot with hoff | hlisted | hbusy | ⟨f, hf, hawaited⟩
    · simp [hwait] at hoff
    · exact hlisted hlist
    · exact hbusy hwriting
    · simp [htx f hf] at hawaited

end Sys2Proof.Machine
end

section
/-! PROOFS. The frames of the stack through every operation (chapter 3): a TEST frame stands alone (R38, R40). -/

namespace Sys2Proof.Machine

open Sys2Proof.Safety

section
variable {s t : State}

/-! ## Removals -/

theorem setSettle_frames (s : State) : (setSettle s).stack.frames = s.stack.frames := by simp

theorem test?_eq_none_iff : s.test? = none ↔ s.hasTest = false := by
  rw [State.test?, List.findSome?_eq_none_iff, State.hasTest, List.any_eq_false]
  refine forall₂_congr fun f _ => ?_
  cases f <;> simp [Frame.test?, Frame.isTest]

theorem equalize?_eq_none_iff : s.equalize? = none ↔ s.hasEqualize = false := by
  rw [State.equalize?, List.findSome?_eq_none_iff, State.hasEqualize, List.any_eq_false]
  refine forall₂_congr fun f _ => ?_
  cases f <;> simp [Frame.equalize?, Frame.isEqualize]

theorem withdrawal?_eq_none_iff : s.withdrawal? = none ↔ s.hasWithdrawal = false := by
  rw [State.withdrawal?, List.findSome?_eq_none_iff, State.hasWithdrawal, List.any_eq_false]
  refine forall₂_congr fun f _ => ?_
  cases f <;> simp [Frame.withdrawal?, Frame.isWithdrawal]

theorem hasWithdrawal_of_some {w : WithdrawalFrame} (h : s.withdrawal? = some w) : s.hasWithdrawal = true := by
  cases hno : s.hasWithdrawal with
  | true => rfl
  | false => simp [withdrawal?_eq_none_iff.mpr hno] at h

/-- The end of a test takes the TEST frame off and leaves every other frame. -/
theorem endTest_frames (result : TestResult) (s : State) :
    (endTest result s).stack.frames = s.stack.frames.filter fun f => !f.isTest := by
  unfold endTest
  split
  · next hnone =>
    refine (List.filter_eq_self.mpr fun f hf => ?_).symm
    rw [test?_eq_none_iff, State.hasTest, List.any_eq_false] at hnone
    simpa using hnone f hf
  · simp

theorem endTest_noTest (result : TestResult) (s : State) : (endTest result s).hasTest = false := by
  simp [State.hasTest, endTest_frames]

/-- The abort of an equalize takes the EQUALIZE frame off and leaves every other frame. -/
theorem abortEqualize_frames (s : State) :
    (abortEqualize s).stack.frames = s.stack.frames.filter fun f => !f.isEqualize := by
  unfold abortEqualize
  split
  · next hnone =>
    refine (List.filter_eq_self.mpr fun f hf => ?_).symm
    rw [equalize?_eq_none_iff, State.hasEqualize, List.any_eq_false] at hnone
    simpa using hnone f hf
  · dsimp only
    split <;> simp

theorem openVisit_frames (origin : VisitOrigin) (technician planned : Nat) (s : State) :
    (openVisit origin technician planned s).stack.frames = s.stack.frames.filter fun f => !f.isTest := by
  simp [openVisit, endTest_frames]

/-! ## The frames that are left -/

/-- From `s` to `t` frames may have left the stack, and nothing else has come of them. -/
def FramesLeft (s t : State) : Prop := t.stack.frames.Sublist s.stack.frames

theorem framesLeft_refl (s : State) : FramesLeft s s := List.Sublist.refl _

theorem framesLeft_of_eq (h : t.stack.frames = s.stack.frames) : FramesLeft s t := by
  rw [FramesLeft, h]

theorem FramesLeft.trans {u : State} (h : FramesLeft s t) (k : FramesLeft t u) : FramesLeft s u :=
  List.Sublist.trans k h

theorem FramesLeft.noTest (h : FramesLeft s t) (hs : s.hasTest = false) : t.hasTest = false := by
  unfold State.hasTest at *
  rw [List.any_eq_false] at *
  exact fun f hf => hs f (h.subset hf)

theorem endTest_framesLeft (result : TestResult) (s : State) : FramesLeft s (endTest result s) := by
  rw [FramesLeft, endTest_frames]
  exact List.filter_sublist

theorem abortEqualize_framesLeft (s : State) : FramesLeft s (abortEqualize s) := by
  rw [FramesLeft, abortEqualize_frames]
  exact List.filter_sublist

theorem takeOff_framesLeft (kind : Frame → Bool) (s : State) : FramesLeft s (takeOff kind s) := by
  rw [FramesLeft, takeOff_frames]
  exact List.filter_sublist

theorem popEqualize_framesLeft (s : State) : FramesLeft s (popEqualize s) :=
  (takeOff_framesLeft Frame.isEqualize s).trans (framesLeft_of_eq (by simp [popEqualize]))

theorem openVisit_framesLeft (origin : VisitOrigin) (technician planned : Nat) (s : State) :
    FramesLeft s (openVisit origin technician planned s) := by
  rw [FramesLeft, openVisit_frames]
  exact List.filter_sublist

theorem reopenForKey_framesLeft (s : State) : FramesLeft s (reopenForKey s) := by
  unfold reopenForKey
  split
  · exact framesLeft_refl s
  · exact openVisit_framesLeft _ _ _ s
  · exact openVisit_framesLeft _ _ _ s

theorem endVisit_stack (reason : CloseReason) (s : State) : (endVisit reason s).stack = s.stack := by
  unfold endVisit
  split <;> simp

theorem closeVisit_framesLeft (reason : CloseReason) (s : State) : FramesLeft s (closeVisit reason s) := by
  unfold closeVisit
  split
  · exact framesLeft_refl s
  · have hended : FramesLeft s (endVisit reason s) := framesLeft_of_eq (by rw [endVisit_stack])
    exact hended.trans (reopenForKey_framesLeft (endVisit reason s))

theorem ownedRemoved_framesLeft (owner : Nat) (s : State) : FramesLeft s (ownedRemoved owner s) := by
  unfold ownedRemoved
  split
  · exact framesLeft_refl s
  · split
    · exact closeVisit_framesLeft .key s
    · exact framesLeft_refl s

/-! ## A TEST frame stands alone -/

/-- A TEST frame is the only frame of the stack (R38). -/
def TestAlone (s : State) : Prop := s.hasTest = true → s.stack.frames.length = 1

/-- Of the seven configurations of R38, one alone has a TEST frame. -/
theorem testAlone_of_stackSound (h : StackSound s) : TestAlone s := by
  obtain ⟨hlegal, -, -⟩ := h
  unfold TestAlone State.hasTest
  generalize s.stack.frames = fs at hlegal
  intro htest
  unfold legalFrames at hlegal
  split at hlegal
  · simp at htest
  · rfl
  · simp [Frame.isTest] at htest
  · simp [Frame.isTest] at htest
  · cases hlegal

theorem testAlone_of_noTest (h : s.hasTest = false) : TestAlone s := by simp [TestAlone, h]

theorem TestAlone.left (h : TestAlone s) (k : FramesLeft s t) : TestAlone t := by
  intro htest
  have hs : s.hasTest = true := by
    cases hno : s.hasTest with
    | true => rfl
    | false => simp [k.noTest hno] at htest
  have hle : t.stack.frames.length ≤ s.stack.frames.length := k.length_le
  have hpos : 0 < t.stack.frames.length := by
    obtain ⟨f, hf, -⟩ := List.any_eq_true.mp htest
    exact List.length_pos_of_mem hf
  rw [h hs] at hle
  omega

theorem TestAlone.kept (h : TestAlone s) (hframes : t.stack.frames = s.stack.frames) : TestAlone t :=
  h.left (framesLeft_of_eq hframes)

/-- A change of the frames that leaves each of its kind. -/
theorem TestAlone.mapped (h : TestAlone s) {g : Frame → Frame} (hg : ∀ f, (g f).isTest = f.isTest)
    (hframes : t.stack.frames = s.stack.frames.map g) : TestAlone t := by
  intro htest
  have hkinds : Frame.isTest ∘ g = Frame.isTest := funext hg
  rw [State.hasTest, hframes, List.any_map, hkinds] at htest
  rw [hframes, List.length_map]
  exact h htest

/-- Where a frame of another kind stands, no TEST frame does. -/
theorem TestAlone.noTest (h : TestAlone s) {f : Frame} (hf : f ∈ s.stack.frames) (hkind : f.isTest = false) :
    s.hasTest = false := by
  cases htest : s.hasTest with
  | false => rfl
  | true =>
    obtain ⟨g, hg⟩ := List.length_eq_one_iff.mp (h htest)
    rw [hg, List.mem_singleton] at hf
    simp [State.hasTest, hg, ← hf, hkind] at htest

theorem TestAlone.noTest_of_withdrawal (h : TestAlone s) (hw : s.hasWithdrawal = true) : s.hasTest = false := by
  obtain ⟨f, hf, hkind⟩ := List.any_eq_true.mp hw
  exact h.noTest hf (by cases f <;> simp_all [Frame.isWithdrawal, Frame.isTest])

theorem TestAlone.noTest_of_discharge (h : TestAlone s) (hd : s.hasDischarge = true) : s.hasTest = false := by
  obtain ⟨f, hf, hkind⟩ := List.any_eq_true.mp hd
  exact h.noTest hf (by cases f <;> simp_all [Frame.isDischarge, Frame.isTest])

/-- A frame of another kind is pushed where no TEST frame stands. -/
theorem noTest_pushed {f : Frame} (hs : s.hasTest = false) (hkind : f.isTest = false)
    (hframes : t.stack.frames = f :: s.stack.frames) : t.hasTest = false := by
  simpa [State.hasTest, hframes, hkind] using hs

/-! ## Pushes and pops -/

theorem startEqualize_noTest (h : s.hasTest = false) : (startEqualize s).hasTest = false := by
  unfold startEqualize
  split
  · exact h
  · next l _ =>
    have hpushed : (pushFrame (.equalize { pushed := s.now, remaining := l.minutes, minute := 0, origin := l.origin })
        { s with cond := { s.cond with latch := none } }).hasTest = false :=
      noTest_pushed h (f := .equalize { pushed := s.now, remaining := l.minutes, minute := 0, origin := l.origin }) rfl rfl
    simpa [State.hasTest] using hpushed

theorem pushDischarge_noTest (h : s.hasTest = false) : (pushDischarge s).hasTest = false := noTest_pushed h (f := .discharge _) rfl rfl

theorem pushWithdrawn_noTest (o : WithdrawalOrigin) (h : s.hasTest = false) : (pushWithdrawn o s).hasTest = false :=
  noTest_pushed h (f := .withdrawal _) rfl rfl

theorem TestAlone.forceDischarge (h : TestAlone s) : TestAlone (forceDischarge s) := by
  unfold Machine.forceDischarge
  split
  · exact h.kept rfl
  · split
    · exact h
    · exact testAlone_of_noTest (pushDischarge_noTest (endTest_noTest .aborted s))

theorem TestAlone.forceWithdrawal (h : TestAlone s) (o : WithdrawalOrigin) : TestAlone (forceWithdrawal o s) := by
  unfold Machine.forceWithdrawal
  split
  · exact h.kept rfl
  · split
    · exact h
    · exact testAlone_of_noTest (pushWithdrawn_noTest o (endTest_noTest .aborted s))

theorem popDischarge_noTest (h : s.hasTest = false) : (popDischarge s).hasTest = false := by
  have hoff : (takeOff Frame.isDischarge s).hasTest = false := (takeOff_framesLeft _ s).noTest h
  unfold popDischarge
  dsimp only
  rw [State.hasTest_congr (setSettle_frames _)]
  split
  · split
    · exact pushWithdrawn_noTest _ hoff
    · exact hoff
  · exact hoff

/-- The frames of a withdrawal change in nothing but their fields. -/
theorem TestAlone.changeWithdrawal (h : TestAlone s) (f : WithdrawalFrame → WithdrawalFrame) : TestAlone (changeWithdrawal f s) :=
  h.mapped (fun g => by cases g <;> rfl) rfl

/-- The removal of a WITHDRAWAL frame up to its owner's handoff: the frame gone, and the claim of a CLAIMED one released (R44, R45). -/
def withdrawalHandedBack (w : WithdrawalFrame) (s : State) : State :=
  let t := if w.origin = .claimed then releaseClaim (takeOff Frame.isWithdrawal s) else takeOff Frame.isWithdrawal s
  match w.owner with
  | some n => ownedRemoved n t
  | none => t

theorem popWithdrawal_of_some {w : WithdrawalFrame} (hw : s.withdrawal? = some w) :
    popWithdrawal s = setSettle (if s.stack.dischargeDeferred
      then pushDischarge { withdrawalHandedBack w s with
        stack := { (withdrawalHandedBack w s).stack with dischargeDeferred := false } }
      else withdrawalHandedBack w s) := by
  unfold popWithdrawal
  rw [hw]
  rfl

theorem withdrawalHandedBack_framesLeft (w : WithdrawalFrame) (s : State) : FramesLeft s (withdrawalHandedBack w s) := by
  have hreleased : FramesLeft s (if w.origin = .claimed then releaseClaim (takeOff Frame.isWithdrawal s)
      else takeOff Frame.isWithdrawal s) := by
    refine (takeOff_framesLeft Frame.isWithdrawal s).trans (framesLeft_of_eq ?_)
    split <;> simp
  unfold withdrawalHandedBack
  dsimp only
  split
  · exact hreleased.trans (ownedRemoved_framesLeft _ _)
  · exact hreleased

theorem TestAlone.popWithdrawal (h : TestAlone s) : TestAlone (popWithdrawal s) := by
  cases hw : s.withdrawal? with
  | none => simpa [Machine.popWithdrawal, hw] using h
  | some w =>
    have hback : (withdrawalHandedBack w s).hasTest = false :=
      (withdrawalHandedBack_framesLeft w s).noTest (h.noTest_of_withdrawal (hasWithdrawal_of_some hw))
    rw [popWithdrawal_of_some hw]
    refine testAlone_of_noTest ?_
    rw [State.hasTest_congr (setSettle_frames _)]
    split
    · exact pushDischarge_noTest hback
    · exact hback

/-! ## The breaker and the mains (chapter 8) -/

theorem TestAlone.startReturn (h : TestAlone s) : TestAlone (startReturn s) := by
  have hreturning := h.changeWithdrawal fun w => { w with phase := .returning, returnRequested := false, timer := transferWait s }
  exact hreturning.kept (by simp [Machine.startReturn])

theorem TestAlone.askReturn (h : TestAlone s) : TestAlone (askReturn s) := by
  unfold Machine.askReturn
  split
  · exact h
  · split
    · exact h.changeWithdrawal _
    · exact h.startReturn
    · exact h
    · exact h

theorem TestAlone.confirmTransfer (h : TestAlone s) (w : WithdrawalFrame) : TestAlone (confirmTransfer w s) := by
  unfold Machine.confirmTransfer
  split
  · exact h.startReturn
  · exact h.changeWithdrawal _

theorem TestAlone.uncommandedClosure (h : TestAlone s) : TestAlone (uncommandedClosure s) :=
  (h.kept (t := uncommanded s) (by simp)).forceWithdrawal .manual

theorem TestAlone.timeOutTransfer (h : TestAlone s) : TestAlone (timeOutTransfer s) := by
  have hpopped : TestAlone (Machine.popWithdrawal (askPulse .mbpo s)) := (h.kept (by simp)).popWithdrawal
  exact hpopped.kept (by simp [Machine.timeOutTransfer])

theorem TestAlone.timeOutReturn (h : TestAlone s) : TestAlone (timeOutReturn s) := by
  have hstuck := h.changeWithdrawal fun w => { w with phase := .stuck, timer := none }
  exact hstuck.kept (by simp [Machine.timeOutReturn])

theorem TestAlone.becomeClosed (h : TestAlone s) (last : Confirmed) : TestAlone (becomeClosed last s) := by
  unfold Machine.becomeClosed
  split
  · split
    · exact h.confirmTransfer _
    · exact h
    · exact h
    · exact h
  · split
    · exact h
    · split
      · exact h.uncommandedClosure
      · exact h

theorem TestAlone.becomeOpen (h : TestAlone s) : TestAlone (becomeOpen s) := by
  have hended : TestAlone { s with bypass := { s.bypass with recovery := none } } := h
  have huncommanded : TestAlone (uncommanded { s with bypass := { s.bypass with recovery := none } }) := hended.kept (by simp)
  unfold Machine.becomeOpen
  dsimp only
  split
  · split
    · exact hended
    · split
      · exact huncommanded.popWithdrawal
      · exact hended
    · exact hended.popWithdrawal
    · exact hended.popWithdrawal
  · exact hended

theorem TestAlone.moveBreaker (h : TestAlone s) (cl op : Bool) : TestAlone (moveBreaker cl op s) := by
  have htaken : TestAlone (takeContacts cl op s) := h
  unfold Machine.moveBreaker
  dsimp only
  split
  · exact htaken
  · split
    · exact (htaken.kept (by simp)).becomeClosed _
    · exact (htaken.kept (by simp)).becomeOpen
    · exact htaken
    · exact htaken
    · exact htaken

theorem TestAlone.adopt (h : TestAlone s) : TestAlone (adopt s) := by
  unfold Machine.adopt
  split
  · exact h.forceWithdrawal _
  · exact h

theorem TestAlone.endRecovery (h : TestAlone s) : TestAlone (endRecovery s) := by
  have hended : TestAlone { s with bypass := { s.bypass with recovery := none } } := h
  unfold Machine.endRecovery
  dsimp only
  split
  · exact hended.uncommandedClosure
  · exact hended

theorem TestAlone.loseMains (h : TestAlone s) : TestAlone (loseMains s) :=
  (h.kept (by simp)).forceDischarge

theorem TestAlone.restoreMains (h : TestAlone s) : TestAlone (restoreMains s) := by
  have htold : TestAlone (handMains .restored { s with bypass := { s.bypass with mains := .present, qualTimer := none } }) :=
    h.kept (by simp)
  unfold Machine.restoreMains
  dsimp only
  split
  · next hdischarge => exact testAlone_of_noTest (popDischarge_noTest (htold.noTest_of_discharge hdischarge))
  · exact htold

/-! ## Visits and the key (chapter 9) -/

theorem TestAlone.openForKey (h : TestAlone s) : TestAlone (openForKey s) := by
  unfold Machine.openForKey
  split
  · exact h.left (openVisit_framesLeft _ _ _ s)
  · split <;> exact h.kept (by simp)

theorem TestAlone.dropRequest (h : TestAlone s) : TestAlone (dropRequest s) := h.kept (by simp)

theorem TestAlone.pendClose (h : TestAlone s) : TestAlone (pendClose s) := by
  unfold Machine.pendClose
  split
  · exact h
  · split
    · have hpending : TestAlone (changeVisit (fun u => { u with closePending := true }) s) := h.kept (by simp)
      dsimp only
      split
      · exact hpending
      · exact hpending.left (closeVisit_framesLeft _ _)
    · exact h

theorem TestAlone.keyEffects (h : TestAlone s) (old new : KeyPosition) : TestAlone (keyEffects old new s) := by
  unfold Machine.keyEffects
  split
  · exact h.openForKey
  · exact h.openForKey.kept rfl
  · exact h.kept rfl
  · exact h.dropRequest.askReturn
  · exact h.dropRequest.askReturn.pendClose
  · exact h.askReturn.pendClose
  · exact h
  · exact h
  · exact h

theorem TestAlone.settleKey (h : TestAlone s) : TestAlone (settleKey s) := by
  unfold Machine.settleKey
  split
  · exact h
  · split
    · exact h
    · exact (h.kept (by rfl)).keyEffects _ _

/-! ## The activities themselves (chapters 3, 4 and 7) -/

theorem TestAlone.equalizeMinute {f : EqualizeFrame} {rest : List Frame} (h : TestAlone s) (hf : s.stack.frames = .equalize f :: rest) :
    TestAlone (equalizeMinute f rest s) := by
  have hno : s.hasTest = false := h.noTest (f := .equalize f) (by simp [hf]) rfl
  unfold Machine.equalizeMinute
  split
  · exact h.left (popEqualize_framesLeft s)
  · refine testAlone_of_noTest ?_
    simpa [State.hasTest, hf, Frame.isTest] using hno

theorem TestAlone.ageTest (h : TestAlone s) : TestAlone (ageTest s) := h.mapped (fun f => by cases f <;> rfl) rfl

theorem TestAlone.testSecond (h : TestAlone s) : TestAlone (testSecond s) := by
  unfold Machine.testSecond
  split
  · exact testAlone_of_noTest (endTest_noTest _ _)
  · exact h.ageTest

theorem TestAlone.sampleTest (h : TestAlone s) (bs : List BurstString) : TestAlone (sampleTest bs s) := by
  unfold Machine.sampleTest
  split
  · exact h
  · dsimp only
    split
    · exact testAlone_of_noTest (endTest_noTest _ _)
    · split
      · exact testAlone_of_noTest (endTest_noTest _ _)
      · exact h.mapped (fun f => by cases f <;> rfl) rfl

theorem pushClaimed_frames (owner : Option Nat) (s : State) : ∃ w, (pushClaimed owner s).stack.frames = .withdrawal w :: s.stack.frames := by
  refine ⟨{ pushed := s.now, origin := .claimed, phase := .transferring, owner := owner, returnRequested := false
            timer := transferWait s }, ?_⟩
  unfold pushClaimed
  dsimp only
  split <;> simp

/-- No TEST frame stands where a WITHDRAWAL may be pushed (R40). -/
theorem TestAlone.noTest_of_pushAllowed (h : TestAlone s) (hallowed : pushAllowed .withdraw s.stack.frames = true) :
    s.hasTest = false := by
  cases htest : s.hasTest with
  | false => rfl
  | true =>
    obtain ⟨g, hg⟩ := List.length_eq_one_iff.mp (h htest)
    have hkind : g.isTest = true := by simpa [State.hasTest, hg] using htest
    simp [pushAllowed, hg, hkind] at hallowed

/-- A commit pushes a TEST on an empty stack, or a WITHDRAWAL where no TEST stands, and holds the claim; or the claim yields (R117). -/
theorem TestAlone.commit_cases {c : OwnClaim} (h : TestAlone s) (hown : s.claims.own = some c) :
    (commit s = yieldClaim .abandoned s)
    ∨ (c.kind = .test ∧ s.stack.frames = [] ∧ commit s = holdClaim c (pushTest (testOriginOf c.origin) s))
    ∨ (c.kind = .withdraw ∧ s.hasTest = false ∧ (commit s).hasTest = false ∧ commit s = holdClaim c (pushClaimed c.owner s)) := by
  unfold commit
  rw [hown]
  dsimp only
  cases hallowed : pushAllowed c.kind s.stack.frames with
  | false => exact .inl rfl
  | true =>
    cases hkind : c.kind with
    | test => exact .inr (.inl ⟨rfl, by simpa [pushAllowed, hkind] using hallowed, rfl⟩)
    | withdraw =>
      have hno := h.noTest_of_pushAllowed (hkind ▸ hallowed)
      obtain ⟨w, hframes⟩ := pushClaimed_frames c.owner s
      refine .inr (.inr ⟨rfl, hno, ?_, rfl⟩)
      have hpushed : (holdClaim c (pushClaimed c.owner s)).stack.frames = .withdrawal w :: s.stack.frames := by simp [hframes]
      exact noTest_pushed hno rfl hpushed

theorem TestAlone.commit (h : TestAlone s) : TestAlone (commit s) := by
  cases hown : s.claims.own with
  | none => simpa [Machine.commit, hown] using h
  | some c =>
    rcases h.commit_cases hown with hyields | ⟨-, hempty, htest⟩ | ⟨-, -, hno, -⟩
    · rw [hyields]
      exact h.kept (by simp)
    · intro _
      simp [htest, pushTest, hempty]
    · exact testAlone_of_noTest hno

theorem TestAlone.tryEqualize (h : TestAlone s) : TestAlone (tryEqualize s) := by
  unfold Machine.tryEqualize
  split
  · next hready =>
    have hempty : s.stackEmpty = true := by
      simp only [equalizeReady, Bool.and_eq_true] at hready
      tauto
    refine testAlone_of_noTest (startEqualize_noTest ?_)
    rw [State.hasTest, List.isEmpty_iff.mp hempty]
    rfl
  · exact h

theorem TestAlone.startActivities (h : TestAlone s) : TestAlone (startActivities s) := by
  have hdrawn : TestAlone { s with free := s.free + 1 } := h
  unfold Machine.startActivities
  dsimp only
  split
  · split
    · exact hdrawn.tryEqualize.kept (by simp)
    · exact TestAlone.tryEqualize (hdrawn.kept (by simp))
  · exact h.tryEqualize.kept (by simp)

/-! ## A sample at its receivers (R9) -/

theorem TestAlone.abortBeforeSample (h : TestAlone s) (bs : List BurstString) : TestAlone (abortBeforeSample bs s) := by
  have hdrawn : TestAlone { s with free := s.free + 1 } := h
  unfold Machine.abortBeforeSample
  dsimp only
  split
  · split
    · exact hdrawn
    · exact hdrawn.left (abortEqualize_framesLeft _)
  · exact h

theorem TestAlone.commitBeforeSample (h : TestAlone s) (bs : List BurstString) : TestAlone (commitBeforeSample bs s) := by
  have hdrawn : TestAlone { s with free := s.free + 1 } := h
  unfold Machine.commitBeforeSample
  dsimp only
  split
  · split
    · exact hdrawn
    · exact hdrawn.commit
  · exact h

theorem TestAlone.sampleTestAndHot (h : TestAlone s) (bs : List BurstString) : TestAlone (sampleTestAndHot bs s) := by
  unfold Machine.sampleTestAndHot
  dsimp only
  split
  · exact testAlone_of_noTest (endTest_noTest .aborted _)
  · exact h.sampleTest bs

theorem TestAlone.startBeforeAccounts (h : TestAlone s) (bs : List BurstString) : TestAlone (startBeforeAccounts bs s) := by
  unfold Machine.startBeforeAccounts
  dsimp only
  split
  · next hstarts =>
    have hempty : s.stackEmpty = true := by
      simp only [equalizeReady, Bool.and_eq_true] at hstarts
      exact hstarts.1.1.1.1.1.1.2
    have hno : s.hasTest = false := by
      rw [State.hasTest, List.isEmpty_iff.mp hempty]
      rfl
    split
    · exact h
    · exact testAlone_of_noTest (startEqualize_noTest (s := { s with free := s.free + 1 }) hno)
  · exact h

theorem TestAlone.sampleReceivers (h : TestAlone s) (bs : List BurstString) : TestAlone (sampleReceivers bs s) := by
  have hdrawn : TestAlone { s with free := s.free + 1 } := h
  have haccounts (t : State) (ht : TestAlone t) : TestAlone (sampleAccounts bs t) := ht.kept (by simp)
  unfold Machine.sampleReceivers
  dsimp only
  split
  · split
    · exact haccounts _ ((hdrawn.sampleTestAndHot bs).startBeforeAccounts bs)
    · exact (haccounts _ hdrawn).sampleTestAndHot bs
  · exact (haccounts _ (h.startBeforeAccounts bs)).sampleTestAndHot bs

end

end Sys2Proof.Machine
end

section
/-! PROOFS. What the commits, starts, claims, yields and aborts of an event's end read of the state (R57 to R61, R67, R102, R116, R118,
R146): states that agree there have the same left due. -/

namespace Sys2Proof.Machine

open Sys2Proof.Safety

/-! ## The view -/

/-- A frame with its kind alone. -/
def Frame.bare : Frame → Frame
  | .equalize _ => .equalize { pushed := 0, remaining := 0, minute := 0, origin := .terminal }
  | .test _ => .test { pushed := 0, elapsed := 0, strings := [], origin := .terminal }
  | .withdrawal _ => .withdrawal
      { pushed := 0, origin := .manual, phase := .withdrawn, owner := none, returnRequested := false, timer := none }
  | .discharge _ => .discharge { pushed := 0 }

/-- A claim list entry without its confirmation time and timer. -/
def ClaimEntry.bare (e : ClaimEntry) : ClaimEntry := { e with confirmed := 0, timer := none }

/-- A peer entry without its count of time and its timer. -/
def Peer.bare (p : Peer) : Peer := { p with since := 0, staleTimer := none }

/-- The own claim without the mark of an owed CLAIM frame. -/
def OwnClaim.bare (c : OwnClaim) : OwnClaim := { c with owed := false }

/-- A visit of which only is known that it is open. -/
def bareVisit : Visit :=
  { number := 0, technician := 0, origin := .key, opened := 0, planned := 0, overdue := false, done := [], doneCount := 0
    used := false, closePending := false, closing := none }

/-- The conditions that hold an activity back or abort it (10.3); the others count as inactive. -/
def Conditions.bearing (c : Conditions) : Conditions :=
  { Conditions.inactive with
    mainsLost := c.mainsLost
    onBypass := c.onBypass
    stringHot := c.stringHot
    tempLost := c.tempLost
    sampleGap := c.sampleGap
    redundancyLost := c.redundancyLost
    claimConflict := c.claimConflict
    transferFault := c.transferFault
    uncommandedBypass := c.uncommandedBypass }

/-- The state as what is due reads it: everything else at its start value. -/
def dueView (s : State) : State :=
  { State.blocksAtStart false { State.reset.pins with bypLoad := s.pins.bypLoad } [] 0 [] with
    id := s.id
    cfg := s.cfg
    intake := { Intake.start 0 with load := s.intake.load, loadState := s.intake.loadState }
    accounts := { strings := [], energy := s.accounts.energy, second := none }
    stack := { Stack.start with frames := s.stack.frames.map Frame.bare, settle := s.stack.settle }
    cond := { Conditioning.start with latch := s.cond.latch, testLatch := s.cond.testLatch, waiting := s.cond.waiting }
    line := { Line.start with state := s.line.state }
    peers := s.peers.map Peer.bare
    claims := { Claims.start with
      own := s.claims.own.map OwnClaim.bare
      window := s.claims.window.map fun _ => 0
      list := s.claims.list.map ClaimEntry.bare
      spacing := s.claims.spacing.map fun _ => 0
      latch := s.claims.latch }
    bypass := { Bypass.start with mains := s.bypass.mains }
    visits := { Visits.start with current := s.visits.current.map fun _ => bareVisit, requestHeld := s.visits.requestHeld }
    monitor := { Monitor.start 0 with active := s.monitor.active.bearing } }

/-! ## What is due reads no more than the view -/

section
variable (s : State)

theorem any_map_bare (frames : List Frame) {p : Frame → Bool} (hp : ∀ f : Frame, p f.bare = p f) :
    (frames.map Frame.bare).any p = frames.any p := by
  rw [List.any_map]
  exact congrArg _ (funext hp)

theorem dueView_hasTest : (dueView s).hasTest = s.hasTest := any_map_bare _ fun f => by cases f <;> rfl

theorem dueView_hasWithdrawal : (dueView s).hasWithdrawal = s.hasWithdrawal := any_map_bare _ fun f => by cases f <;> rfl

theorem dueView_hasDischarge : (dueView s).hasDischarge = s.hasDischarge := any_map_bare _ fun f => by cases f <;> rfl

theorem dueView_stackEmpty : (dueView s).stackEmpty = s.stackEmpty := by
  cases hframes : s.stack.frames <;> simp [State.stackEmpty, dueView, hframes]

theorem dueView_topLevel : topLevel (dueView s).stack.frames = topLevel s.stack.frames := by
  cases hframes : s.stack.frames with
  | nil => simp [topLevel, dueView, hframes]
  | cons f rest => cases f <;> simp [topLevel, dueView, hframes, Frame.bare, Frame.level]

theorem dueView_mode : (dueView s).mode = s.mode := by
  unfold State.mode
  rw [dueView_hasWithdrawal, dueView_hasDischarge]
  rfl

theorem dueView_visitOpen : (dueView s).visitOpen = s.visitOpen := by simp [State.visitOpen, dueView]

theorem dueView_claiming : (dueView s).claiming = s.claiming := by
  cases hown : s.claims.own <;> simp [State.claiming, dueView, hown, OwnClaim.bare]

theorem dueView_claimsIdle : claimsIdle (dueView s) = claimsIdle s := by simp [claimsIdle, dueView]

theorem dueView_listForbids (k : ClaimKind) : listForbids (dueView s) k = listForbids s k := by
  simp only [listForbids, dueView, List.any_map]
  rfl

theorem dueView_outranked (k : ClaimKind) : outranked (dueView s) k = outranked s k := by
  simp only [outranked, dueView, List.any_map]
  rfl

theorem bearing_inhibitsClaim (c : Conditions) (k : ClaimKind) : c.bearing.inhibitsClaim k = c.inhibitsClaim k := by
  cases k <;> rfl

theorem dueView_inhibitsClaim (k : ClaimKind) :
    (dueView s).monitor.active.inhibitsClaim k = s.monitor.active.inhibitsClaim k := bearing_inhibitsClaim _ k

/-! ### The support checks (R94 to R101) -/

theorem dueView_memberPeers : memberPeers (dueView s) = (memberPeers s).map fun e => (e.1, e.2.bare) := by
  simp only [memberPeers, dueView, List.zipIdx_map, List.map_map, List.filter_map]
  rfl

theorem dueView_members : members (dueView s) = members s := by
  unfold members
  rw [dueView_memberPeers, List.map_map]
  congr 1
  unfold ownMember
  rw [dueView_mode]
  rfl

section
variable {s t : State} (hmembers : members t = members s) (hcfg : t.cfg = s.cfg)
include hmembers hcfg

theorem carries_of_members (ms : List Member) : carries t ms = carries s ms := by
  unfold carries groupLoad
  rw [hmembers, hcfg]

/-- The support checks read the members of the group and the configuration. -/
theorem supports_of_members (k : ClaimKind) (n : Nat) : supports k t n = supports k s n := by
  have hremaining : remainingSet t n = remainingSet s n := by rw [remainingSet, onlineSet, hmembers, remainingSet, onlineSet]
  have hstrained : noneStrained t = noneStrained s := by rw [noneStrained, hmembers, noneStrained]
  have hload : groupLoad t = groupLoad s := by rw [groupLoad, hmembers, groupLoad]
  unfold supports firstFailure
  dsimp only
  rw [hremaining, hstrained, carries_of_members hmembers hcfg, hload, hcfg]

theorem presentCheck_of_members : presentCheck t = presentCheck s := by
  have honline : onlineSet t = onlineSet s := by rw [onlineSet, hmembers, onlineSet]
  rw [presentCheck, presentCheck, honline, carries_of_members hmembers hcfg]

end

theorem dueView_supports (k : ClaimKind) (n : Nat) : supports k (dueView s) n = supports k s n :=
  supports_of_members (dueView_members s) rfl k n

/-! ### What is due -/

theorem dueView_commitReady : commitReady (dueView s) = commitReady s := by
  cases hown : s.claims.own with
  | none => simp [commitReady, dueView, hown]
  | some c =>
    have hviewed : (dueView s).claims.own = some c.bare := by simp [dueView, hown]
    unfold commitReady
    rw [hown, hviewed]
    simp only [dueView_memberPeers, List.all_map]
    congr 1
    · simp [dueView, OwnClaim.bare]
      rfl
    · exact dueView_supports s _ _

theorem dueView_equalizeReady : equalizeReady (dueView s) = equalizeReady s := by
  unfold equalizeReady
  rw [dueView_stackEmpty, dueView_visitOpen, dueView_claiming]
  rfl

theorem dueView_mayClaim (k : ClaimKind) : mayClaim (dueView s) k = mayClaim s k := by
  unfold mayClaim
  rw [dueView_claimsIdle, dueView_listForbids, dueView_inhibitsClaim]
  cases k with
  | test =>
    simp only [dueView_stackEmpty, dueView_visitOpen]
    rfl
  | withdraw =>
    simp only [dueView_hasWithdrawal, dueView_topLevel]
    rfl

theorem dueView_testClaimReady : testClaimReady (dueView s) = testClaimReady s := by
  unfold testClaimReady
  rw [dueView_mayClaim]
  rfl

theorem dueView_keyClaimReady : keyClaimReady (dueView s) = keyClaimReady s := by
  unfold keyClaimReady
  rw [dueView_mayClaim, dueView_visitOpen]
  rfl

theorem dueView_testNowFailure : testNowFailure (dueView s) = testNowFailure s := by
  unfold testNowFailure
  rw [dueView_stackEmpty, dueView_visitOpen, dueView_claimsIdle, dueView_listForbids]
  rfl

theorem dueView_waitingReady : waitingReady (dueView s) = waitingReady s := by
  have hdropped : testNowFailure (dropWaiting (dueView s)) = testNowFailure (dropWaiting s) :=
    dueView_testNowFailure (dropWaiting s)
  unfold waitingReady
  rw [hdropped]
  rfl

theorem dueView_mustYield : mustYield (dueView s) = mustYield s := by
  cases hown : s.claims.own with
  | none => simp [mustYield, dueView, hown]
  | some c =>
    have hviewed : (dueView s).claims.own = some c.bare := by simp [dueView, hown]
    unfold mustYield
    rw [hown, hviewed]
    simp only [dueView_outranked, dueView_inhibitsClaim]
    rfl

theorem dueView_testBarred : testBarred (dueView s) = testBarred s := rfl

theorem nothingDue_dueView : NothingDue (dueView s) ↔ NothingDue s := by
  unfold NothingDue
  rw [dueView_commitReady, dueView_equalizeReady, dueView_waitingReady, dueView_testClaimReady, dueView_keyClaimReady,
    dueView_mustYield, dueView_hasTest, dueView_testBarred, dueView_supports]
  rfl

end

/-- States with one view have the same left due. -/
theorem nothingDue_of_view {s t : State} (h : NothingDue s) (hview : dueView t = dueView s) : NothingDue t := by
  rw [← nothingDue_dueView, hview, nothingDue_dueView]
  exact h

end Sys2Proof.Machine
end

section
/-! PROOFS. The end of an event leaves nothing due (R57, R60, R61, R67, R102, R116, R118, R146). -/

namespace Sys2Proof.Machine

open Sys2Proof.Safety

section
variable {s t : State}

/-! ## A test that stands, and a claim that is idle or busy -/

/-- No condition and no support check aborts a TEST frame that stands (R67, R102). -/
def TestAbides (s : State) : Prop := s.hasTest = true → testBarred s = false ∧ supports .test s s.id.station = true

theorem testAbides_of_noTest (h : s.hasTest = false) : TestAbides s := by simp [TestAbides, h]

theorem testAbides_congr (hframes : t.stack.frames = s.stack.frames) (hactive : t.monitor.active = s.monitor.active)
    (hid : t.id = s.id) (hcfg : t.cfg = s.cfg) (hmembers : members t = members s) : TestAbides t ↔ TestAbides s := by
  unfold TestAbides testBarred
  rw [State.hasTest_congr hframes, hactive, supports_of_members hmembers hcfg, hid]

theorem memberPeers_congr (hid : t.id = s.id) (hpeers : t.peers = s.peers) : memberPeers t = memberPeers s := by
  unfold memberPeers isMember
  rw [hid, hpeers]

/-- The members as the checks see them are read from the group's own figures and the peer table (R95, R96). -/
theorem members_congr (hid : t.id = s.id) (hcfg : t.cfg = s.cfg) (hpeers : t.peers = s.peers) (hintake : t.intake = s.intake)
    (henergy : t.accounts.energy = s.accounts.energy) (hmode : t.mode = s.mode) : members t = members s := by
  unfold members ownMember State.loadValue
  rw [memberPeers_congr hid hpeers, hid, hcfg, hintake, henergy, hmode]

theorem mayClaim_of_busy (h : claimsIdle s = false) (k : ClaimKind) : mayClaim s k = false := by simp [mayClaim, h]

theorem testNowFailure_of_busy (h : claimsIdle s = false) : testNowFailure s ≠ 0 := by
  unfold testNowFailure
  simp only [h]
  (repeat' split) <;> simp_all

theorem testNowFailure_of_stack (h : s.stackEmpty = false) : testNowFailure s ≠ 0 := by
  unfold testNowFailure
  simp only [h]
  (repeat' split) <;> simp_all

theorem commitReady_of_notClaiming (h : s.claiming = false) : commitReady s = false := by
  unfold commitReady
  cases hown : s.claims.own with
  | none => rfl
  | some c =>
    have hholding : c.holding = true := by simpa [State.claiming, hown] using h
    simp [hholding]

theorem mustYield_of_notClaiming (h : s.claiming = false) : mustYield s = false := by
  unfold mustYield
  cases hown : s.claims.own with
  | none => rfl
  | some c =>
    have hholding : c.holding = true := by simpa [State.claiming, hown] using h
    simp [hholding]

/-! ## A claim just made -/

/-- A CLAIMING claim stands that is not announced yet, and that nothing makes yield. -/
def FreshClaim (s : State) : Prop :=
  ∃ c, s.claims.own = some c ∧ c.holding = false ∧ c.announced = false ∧ outranked s c.kind = false
    ∧ s.monitor.active.inhibitsClaim c.kind = false

theorem FreshClaim.busy (h : FreshClaim s) : claimsIdle s = false := by
  obtain ⟨c, hown, -⟩ := h
  simp [claimsIdle, hown]

theorem FreshClaim.claiming (h : FreshClaim s) : s.claiming = true := by
  obtain ⟨c, hown, hholding, -⟩ := h
  simp [State.claiming, hown, hholding]

theorem FreshClaim.equalizeReady (h : FreshClaim s) : equalizeReady s = false := by
  simp [Machine.equalizeReady, h.claiming]

/-- Beside a claim just made nothing is due: it holds back every start and claim, and cannot commit before it is announced. -/
theorem FreshClaim.nothingDue (h : FreshClaim s) (habides : TestAbides s) : NothingDue s := by
  have hwaiting : testNowFailure (dropWaiting s) ≠ 0 := testNowFailure_of_busy (s := dropWaiting s) h.busy
  refine ⟨?_, h.equalizeReady, ?_, ?_, ?_, ?_, habides⟩
  · obtain ⟨c, hown, -, hannounced, -⟩ := h
    simp [commitReady, hown, hannounced]
  · simp [waitingReady, hwaiting]
  · simp [testClaimReady, mayClaim_of_busy h.busy]
  · simp [keyClaimReady, mayClaim_of_busy h.busy]
  · obtain ⟨c, hown, -, -, hrank, hfree⟩ := h
    simp [mustYield, hown, hrank, hfree]

theorem mem_insertEntry {e f : ClaimEntry} {list : List ClaimEntry} (h : f ∈ insertEntry e list) : f = e ∨ f ∈ list := by
  induction list with
  | nil => exact .inl (List.mem_singleton.mp h)
  | cons g rest ih =>
    unfold insertEntry at h
    split at h
    · exact List.mem_cons.mp h
    · rcases List.mem_cons.mp h with rfl | hrest
      · exact .inr (List.mem_cons_self)
      · exact (ih hrest).imp_right (List.mem_cons_of_mem g)

theorem mem_enterOwn {e f : ClaimEntry} {list : List ClaimEntry} (h : f ∈ enterOwn e list) : f = e ∨ f ∈ list := by
  unfold enterOwn at h
  split at h
  · exact mem_insertEntry h
  · split at h
    · exact (mem_insertEntry h).imp_right List.mem_of_mem_filter
    · exact .inr h

theorem makeClaim_list (k : ClaimKind) (origin : ClaimOrigin) (owner : Option Nat) (s : State) :
    (makeClaim k origin owner s).claims.list = enterOwn (ownEntry s k) (removeEntry s.id.station s.claims.list) := by
  simp [makeClaim]

theorem makeClaim_own (k : ClaimKind) (origin : ClaimOrigin) (owner : Option Nat) (s : State) :
    (makeClaim k origin owner s).claims.own = some
      { kind := k, origin := origin, owner := owner, holding := false, announced := false, heard := []
        owed := !takes .claim s.line.tx } := rfl

/-- A claim that the list and the conditions allow has nothing to yield to once it is made (R107, R108). -/
theorem makeClaim_fresh {k : ClaimKind} (origin : ClaimOrigin) (owner : Option Nat) (hlist : listForbids s k = false)
    (hfree : s.monitor.active.inhibitsClaim k = false) : FreshClaim (makeClaim k origin owner s) := by
  refine ⟨_, makeClaim_own k origin owner s, rfl, rfl, ?_, by simpa using hfree⟩
  simp only [listForbids, List.any_eq_false, Bool.or_eq_true, decide_eq_true_eq, not_or] at hlist
  simp only [outranked, makeClaim_list, makeClaim_keeps, List.any_eq_false, Bool.and_eq_true, Bool.or_eq_true, decide_eq_true_eq,
    bne_iff_ne, not_and, not_or]
  intro e he hother
  rcases mem_enterOwn he with rfl | hold
  · exact absurd rfl hother
  · exact hlist e (List.mem_of_mem_filter hold)

theorem makeClaim_testAbides (k : ClaimKind) (origin : ClaimOrigin) (owner : Option Nat) :
    TestAbides (makeClaim k origin owner s) ↔ TestAbides s := by
  refine testAbides_congr (by simp) (by simp) (by simp) (by simp) (members_congr (by simp) (by simp) (by simp) (by simp) (by simp) ?_)
  exact State.mode_congr (by simp) (by simp) (by simp)

/-! ## What starts at the end of an event -/

/-- A pending equalize has just started: no claim and no visit stood in its way. -/
def EqualizeBegun (s : State) : Prop :=
  s.cond.latch = none ∧ (∃ f, s.stack.frames = [.equalize f]) ∧ s.visitOpen = false ∧ s.claiming = false

theorem EqualizeBegun.stackEmpty (h : EqualizeBegun s) : s.stackEmpty = false := by
  obtain ⟨-, ⟨f, hframes⟩, -⟩ := h
  simp [State.stackEmpty, hframes]

theorem EqualizeBegun.keyClaimReady (h : EqualizeBegun s) : keyClaimReady s = false := by
  obtain ⟨-, -, hvisit, -⟩ := h
  simp [Machine.keyClaimReady, hvisit]

theorem EqualizeBegun.testClaimReady (h : EqualizeBegun s) : testClaimReady s = false := by
  simp [Machine.testClaimReady, mayClaim, h.stackEmpty]

theorem EqualizeBegun.waitingFails (h : EqualizeBegun s) : testNowFailure (dropWaiting s) ≠ 0 :=
  testNowFailure_of_stack (s := dropWaiting s) h.stackEmpty

theorem EqualizeBegun.nothingDue (h : EqualizeBegun s) : NothingDue s := by
  have hwaiting := h.waitingFails
  refine ⟨?_, ?_, by simp [waitingReady, hwaiting], h.testClaimReady, h.keyClaimReady, ?_, ?_⟩
  all_goals obtain ⟨hlatch, ⟨f, hframes⟩, -, hclaiming⟩ := h
  · exact commitReady_of_notClaiming hclaiming
  · simp [equalizeReady, hlatch]
  · exact mustYield_of_notClaiming hclaiming
  · exact testAbides_of_noTest (by simp [State.hasTest, hframes, Frame.isTest])

theorem EqualizeBegun.tryTest (h : EqualizeBegun s) : EqualizeBegun (tryTest s) := by
  have hwaiting := h.waitingFails
  have htaken : EqualizeBegun (takeWaiting s) := by
    unfold takeWaiting
    split <;> exact h
  unfold Machine.tryTest
  dsimp only
  rw [htaken.testClaimReady]
  exact htaken

theorem tryEqualize_begun (h : equalizeReady s = true) : EqualizeBegun (tryEqualize s) := by
  have hready := h
  simp only [equalizeReady, Bool.and_eq_true, Bool.not_eq_true'] at hready
  obtain ⟨⟨⟨⟨⟨⟨⟨hlatch, -⟩, hempty⟩, hvisit⟩, -⟩, -⟩, hclaiming⟩, -⟩ := hready
  obtain ⟨l, hl⟩ := Option.isSome_iff_exists.mp hlatch
  have hframes : s.stack.frames = [] := List.isEmpty_iff.mp hempty
  have hstarts : (startEqualize s).cond.latch = none ∧ ∃ f, (startEqualize s).stack.frames = [.equalize f] := by
    simp [startEqualize, hl, hframes]
  obtain ⟨hnone, hframe⟩ := hstarts
  rw [tryEqualize, if_pos h]
  refine ⟨hnone, hframe, ?_, ?_⟩
  · simpa [State.visitOpen] using hvisit
  · rw [State.claiming_congr (s := s) (by simp)]
    exact hclaiming

/-- What the start of a test can do: a claim has just been made, or no test may be claimed and the waiting one alone may be gone. -/
theorem tryTest_cases (s : State) :
    (FreshClaim (tryTest s) ∧ (TestAbides (tryTest s) ↔ TestAbides s))
    ∨ (testClaimReady s = false ∧ waitingReady s = false ∧ testClaimReady (tryTest s) = false ∧ waitingReady (tryTest s) = false
      ∧ (tryTest s = s ∨ tryTest s = dropWaiting s)) := by
  have hschedule (t : State) (ht : testClaimReady t = true) : FreshClaim (makeClaim .test .schedule none t) := by
    simp only [testClaimReady, mayClaim, Bool.and_eq_true, Bool.not_eq_true'] at ht
    obtain ⟨-, ⟨⟨⟨-, hlist⟩, hfree⟩, -⟩⟩ := ht
    exact makeClaim_fresh .schedule none hlist hfree
  unfold tryTest
  dsimp only
  cases hready : waitingReady s with
  | true =>
    have htaken : takeWaiting s = makeClaim .test .terminal none (dropWaiting s) := by
      simp only [waitingReady, Bool.and_eq_true, beq_iff_eq, Bool.not_eq_true'] at hready
      obtain ⟨⟨hwaits, hsettled⟩, hpasses⟩ := hready
      simp [takeWaiting, hwaits, hsettled, hpasses]
    have hfresh : FreshClaim (makeClaim .test .terminal none (dropWaiting s)) := by
      have hpasses : testNowFailure (dropWaiting s) = 0 := by
        simp only [waitingReady, Bool.and_eq_true, beq_iff_eq] at hready
        tauto
      refine makeClaim_fresh .terminal none ?_ ?_
      all_goals
        unfold testNowFailure at hpasses
        (repeat' split at hpasses) <;> simp_all [Conditions.inhibitsClaim]
    have hno : testClaimReady (makeClaim .test .terminal none (dropWaiting s)) = false := by
      simp [testClaimReady, mayClaim_of_busy hfresh.busy]
    rw [htaken, hno]
    exact .inl ⟨hfresh, makeClaim_testAbides _ _ _⟩
  | false =>
    have htaken : takeWaiting s = s ∨ takeWaiting s = dropWaiting s := by
      unfold takeWaiting
      split
      · next hwaits =>
        have hfails : testNowFailure (dropWaiting s) ≠ 0 := by
          simpa [waitingReady, hwaits] using hready
        exact .inr (if_neg hfails)
      · exact .inl rfl
    have hstill : waitingReady (takeWaiting s) = false := by
      rcases htaken with htaken | htaken
      · rw [htaken, hready]
      · simp [htaken, waitingReady]
    split
    · next hclaims =>
      refine .inl ⟨hschedule _ hclaims, (makeClaim_testAbides _ _ _).trans ?_⟩
      rcases htaken with htaken | htaken
      · rw [htaken]
      · rw [htaken]
        rfl
    · next hclaims =>
      have hkept : testClaimReady s = false := by
        cases hwaits : s.cond.waiting with
        | true => simp [testClaimReady, hwaits]
        | false =>
          have hsame : takeWaiting s = s := by simp [takeWaiting, hwaits]
          rw [hsame] at hclaims
          simpa using hclaims
      exact .inr ⟨hkept, rfl, by simpa using hclaims, hstill, htaken⟩

end

end Sys2Proof.Machine
end

section
/-! PROOFS. The starts of pending activities, and what an abort leaves alone (R57, R60, R61, R67, R102, R146). -/

namespace Sys2Proof.Machine

open Sys2Proof.Safety

section
variable {s t : State}

/-! ## The starts of pending activities (R57, R60, R61, R146) -/

/-- No commit, yield or abort is due: what the end of an event has seen to before it starts anything. -/
def Settled (s : State) : Prop := commitReady s = false ∧ mustYield s = false ∧ TestAbides s

theorem Settled.of_view (h : Settled s) (hview : dueView t = dueView s) : Settled t := by
  unfold Settled TestAbides at *
  rw [← dueView_commitReady, ← dueView_mustYield, ← dueView_hasTest, ← dueView_testBarred, ← dueView_supports] at h ⊢
  rw [hview]
  have hid : t.id = s.id := by
    change (dueView t).id = (dueView s).id
    rw [hview]
  rw [hid]
  exact h

/-- Once an equalize has begun, no test and no request of the key is claimed beside it. -/
theorem nothingDue_after_equalize (h : EqualizeBegun (tryEqualize s)) : NothingDue (tryKey (tryTest (tryEqualize s))) := by
  have htested := h.tryTest
  rw [tryKey, htested.keyClaimReady]
  exact htested.nothingDue

theorem tryKey_nothingDue (h : Settled s) (hequalize : equalizeReady s = false) (hwaiting : waitingReady s = false)
    (htest : testClaimReady s = false) : NothingDue (tryKey s) := by
  obtain ⟨hcommit, hyield, habides⟩ := h
  unfold tryKey
  split
  · next hkey =>
    simp only [keyClaimReady, mayClaim, Bool.and_eq_true, Bool.not_eq_true'] at hkey
    obtain ⟨-, ⟨⟨-, hlist⟩, hfree⟩, -⟩ := hkey
    exact (makeClaim_fresh _ _ hlist hfree).nothingDue ((makeClaim_testAbides _ _ _).mpr habides)
  · next hkey => exact ⟨hcommit, hequalize, hwaiting, htest, by simpa using hkey, hyield, habides⟩

/-- The starts of a settled state leave nothing due. -/
theorem Settled.startActivities (h : Settled s) : NothingDue (startActivities s) := by
  unfold Machine.startActivities
  dsimp only
  split
  · next hboth =>
    have hequalize : equalizeReady { s with free := s.free + 1 } = true := by
      simp only [Bool.and_eq_true] at hboth
      exact hboth.1
    split
    · exact (tryEqualize_begun hequalize).tryTest.nothingDue
    · rcases tryTest_cases { s with free := s.free + 1 } with ⟨hfresh, habides⟩ | ⟨htest, hwaiting, -⟩
      · rw [tryEqualize, if_neg (by simp [hfresh.equalizeReady])]
        exact hfresh.nothingDue (habides.mpr h.2.2)
      · have hclaims : testClaimReady s = false ∧ waitingReady s = false := ⟨htest, hwaiting⟩
        simp [hclaims] at hboth
  · cases hequalize : equalizeReady s with
    | true => exact nothingDue_after_equalize (tryEqualize_begun hequalize)
    | false =>
      have hsame : tryEqualize s = s := if_neg (by simp [hequalize])
      rw [hsame]
      rcases tryTest_cases s with ⟨hfresh, habides⟩ | ⟨-, -, htest, hwaiting, hnext⟩
      · rw [tryKey, if_neg (by simp [keyClaimReady, mayClaim_of_busy hfresh.busy])]
        exact hfresh.nothingDue (habides.mpr h.2.2)
      · have hsettled : Settled (tryTest s) ∧ equalizeReady (tryTest s) = false := by
          rcases hnext with hnext | hnext <;> rw [hnext] <;> exact ⟨h, hequalize⟩
        exact tryKey_nothingDue hsettled.1 hsettled.2 hwaiting htest

/-! ## The aborts that conditions and the support check ask for (R67, R102) -/

/-- From `s` to `t` an activity has been aborted: a frame of level 1 may have gone, with it the claim and the claim's entry, and what it
hands over; nothing that a condition or a mode is read from has changed. -/
def Aborted (s t : State) : Prop :=
  t.pins = s.pins ∧ t.id = s.id ∧ t.cfg = s.cfg ∧ t.intake = s.intake ∧ t.line.state = s.line.state ∧ t.peers = s.peers
    ∧ t.bypass = s.bypass ∧ t.monitor = s.monitor ∧ FramesLeft s t ∧ t.hasWithdrawal = s.hasWithdrawal
    ∧ t.hasDischarge = s.hasDischarge ∧ (t.claims.own = none ∨ t.claims.own = s.claims.own)
    ∧ t.claims.list ⊆ s.claims.list

theorem aborted_refl (s : State) : Aborted s s :=
  ⟨rfl, rfl, rfl, rfl, rfl, rfl, rfl, rfl, framesLeft_refl s, rfl, rfl, .inr rfl, List.Subset.refl _⟩

theorem Aborted.trans {u : State} (h : Aborted s t) (k : Aborted t u) : Aborted s u := by
  obtain ⟨hpins, hid, hcfg, hintake, hline, hpeers, hbypass, hmonitor, hframes, hwithdrawal, hdischarge, hown, hlist⟩ := h
  obtain ⟨kpins, kid, kcfg, kintake, kline, kpeers, kbypass, kmonitor, kframes, kwithdrawal, kdischarge, kown, klist⟩ := k
  refine ⟨kpins.trans hpins, kid.trans hid, kcfg.trans hcfg, kintake.trans hintake, kline.trans hline, kpeers.trans hpeers,
    kbypass.trans hbypass, kmonitor.trans hmonitor, hframes.trans kframes, kwithdrawal.trans hwithdrawal,
    kdischarge.trans hdischarge, ?_, fun e he => hlist (klist he)⟩
  rcases kown with knone | ksame
  · exact .inl knone
  · rwa [ksame]

theorem releaseClaim_own (s : State) : (releaseClaim s).claims.own = none ∨ (releaseClaim s).claims.own = s.claims.own := by
  unfold releaseClaim
  split
  · split
    · exact .inl rfl
    · exact .inr rfl
  · exact .inr rfl

theorem releaseClaim_list (s : State) : (releaseClaim s).claims.list ⊆ s.claims.list := by
  unfold releaseClaim
  split
  · split
    · refine fun e he => List.mem_of_mem_filter (p := fun e => e.station != s.id.station) ?_
      simpa [endClaim, removeEntry] using he
    · exact List.Subset.refl _
  · exact List.Subset.refl _

/-- Of the claims, the end of a test may release the own one, and changes nothing else (R45). -/
theorem endTest_claims (result : TestResult) (s : State) : ∃ t, t.claims = s.claims ∧ t.id = s.id
    ∧ (endTest result s = s ∨ (endTest result s).claims = (releaseClaim t).claims) := by
  unfold endTest
  split
  · exact ⟨s, rfl, rfl, .inl rfl⟩
  · next f _ =>
    exact ⟨concludeTest result f { takeOff Frame.isTest s with cond := { (takeOff Frame.isTest s).cond with testSecond := none } },
      by simp, by simp, .inr (by simp)⟩

theorem endTest_aborted (result : TestResult) (s : State) : Aborted s (endTest result s) := by
  obtain ⟨u, hclaims, -, hends⟩ := endTest_claims result s
  refine ⟨by simp, by simp, by simp, by simp, by simp, by simp, by simp, by simp, endTest_framesLeft result s, ?_, ?_, ?_, ?_⟩
  · rw [State.hasWithdrawal, endTest_frames, List.any_filter]
    exact congrArg _ (funext fun f => by cases f <;> rfl)
  · rw [State.hasDischarge, endTest_frames, List.any_filter]
    exact congrArg _ (funext fun f => by cases f <;> rfl)
  · rcases hends with hsame | hends
    · exact .inr (by rw [hsame])
    · rw [hends, ← hclaims]
      exact releaseClaim_own u
  · rcases hends with hsame | hends
    · rw [hsame]
      exact List.Subset.refl _
    · rw [hends, ← hclaims]
      exact releaseClaim_list u

theorem abortEqualize_aborted (s : State) : Aborted s (abortEqualize s) := by
  refine ⟨by simp, by simp, by simp, by simp, by simp, by simp, by simp, by simp, abortEqualize_framesLeft s, ?_, ?_,
    .inr (by simp), by simp⟩
  · rw [State.hasWithdrawal, abortEqualize_frames, List.any_filter]
    exact congrArg _ (funext fun f => by cases f <;> rfl)
  · rw [State.hasDischarge, abortEqualize_frames, List.any_filter]
    exact congrArg _ (funext fun f => by cases f <;> rfl)

theorem conditionAborts_aborted (s : State) : Aborted s (conditionAborts s) := by
  have hended : Aborted s (if s.hasTest && testBarred s then endTest .aborted s else s) := by
    split
    · exact endTest_aborted .aborted s
    · exact aborted_refl s
  unfold conditionAborts
  dsimp only
  generalize (if s.hasTest && testBarred s then endTest .aborted s else s) = t at hended ⊢
  split
  · exact hended.trans (abortEqualize_aborted t)
  · exact hended

theorem supportAbort_aborted (s : State) : Aborted s (supportAbort s) := by
  unfold supportAbort
  split
  · exact endTest_aborted .aborted s
  · exact aborted_refl s

theorem Aborted.mode (h : Aborted s t) : t.mode = s.mode := by
  obtain ⟨hpins, -, -, -, hline, -, -, -, -, hwithdrawal, hdischarge, -⟩ := h
  unfold State.mode
  rw [hpins, hline, hwithdrawal, hdischarge]

/-- The present-state check does not read the cabinet's energy. -/
theorem presentCheck_congr (hid : t.id = s.id) (hcfg : t.cfg = s.cfg) (hpeers : t.peers = s.peers) (hintake : t.intake = s.intake)
    (hmode : t.mode = s.mode) : presentCheck t = presentCheck s := by
  have hother : presentCheck { t with accounts := s.accounts } = presentCheck s :=
    presentCheck_of_members (members_congr hid hcfg hpeers hintake rfl hmode) hcfg
  rw [← hother]
  unfold presentCheck carries groupLoad onlineSet members ratingSum
  simp only [List.map_cons, List.filter_cons]
  have : (ownMember t).online = (ownMember { t with accounts := s.accounts }).online := rfl
  rw [this]
  split <;> rfl

/-- The conditions that bear on an activity follow alike before and after an abort. -/
theorem Aborted.bearing (h : Aborted s t) : (followed t).bearing = (followed s).bearing := by
  have hmode := h.mode
  obtain ⟨hpins, hid, hcfg, hintake, hline, hpeers, hbypass, hmonitor, -⟩ := h
  simp only [followed, Conditions.bearing, presentCheck_congr hid hcfg hpeers hintake hmode, State.running_congr hline,
    State.joined_congr hline, hpins, hintake, hbypass, hmonitor]

/-- A claim that had nothing to yield to still has nothing to, with fewer entries listed and the conditions as before. -/
theorem mustYield_of_less (hid : t.id = s.id) (hown : t.claims.own = none ∨ t.claims.own = s.claims.own)
    (hlist : t.claims.list ⊆ s.claims.list) (hbearing : t.monitor.active.bearing = s.monitor.active.bearing)
    (hs : mustYield s = false) : mustYield t = false := by
  have hinhibits (k : ClaimKind) : t.monitor.active.inhibitsClaim k = s.monitor.active.inhibitsClaim k := by
    rw [← bearing_inhibitsClaim, hbearing, bearing_inhibitsClaim]
  unfold mustYield at *
  rcases hown with hnone | hsame
  · rw [hnone]
  · rw [hsame]
    split
    · rfl
    · next c hc =>
      rw [hc] at hs
      dsimp only at hs ⊢
      rw [hinhibits]
      cases hholding : c.holding with
      | true => rfl
      | false =>
        simp only [hholding, Bool.not_false, Bool.true_and, Bool.or_eq_false_iff] at hs ⊢
        obtain ⟨hrank, hfree⟩ := hs
        refine ⟨?_, hfree⟩
        simp only [outranked, hid, List.any_eq_false] at hrank ⊢
        exact fun e he => hrank e (hlist he)

end

end Sys2Proof.Machine
end

section
/-! PROOFS. The end of an event, step by step, leaves nothing due (R67, R102, R116, R118, R163, assumption 10). -/

namespace Sys2Proof.Machine

open Sys2Proof.Safety

section
variable {s t : State}

/-! ## The follow conditions along the end of an event (R163) -/

theorem refresh_of_follows (h : ConditionsFollow s) : refresh s = s := by
  unfold refresh
  rw [← show s.monitor.active = followed s from h]

theorem refresh_follows (s : State) : ConditionsFollow (refresh s) := rfl

/-- What the conditions follow is read from these fields alone (R163). -/
theorem followed_congr (hpins : t.pins = s.pins) (hid : t.id = s.id) (hcfg : t.cfg = s.cfg) (hintake : t.intake = s.intake)
    (haccounts : t.accounts = s.accounts) (hframes : t.stack.frames = s.stack.frames) (hline : t.line.state = s.line.state)
    (hpeers : t.peers = s.peers) (hbypass : t.bypass = s.bypass) (hvisits : t.visits = s.visits) (hqueue : t.queue = s.queue)
    (hmonitor : t.monitor = s.monitor) : followed t = followed s := by
  simp only [followed, anyWeak, presentCheck_congr hid hcfg hpeers hintake (State.mode_congr hline hframes hpins),
    State.running_congr hline, State.joined_congr hline, hpins, hcfg, hintake, haccounts, hbypass, hvisits, hqueue, hmonitor]

/-- The conditions that abort a test follow the intake, the hot flags and the static switch alone (R67). -/
theorem testBarred_refresh_congr (hpins : t.pins = s.pins) (hintake : t.intake = s.intake) (hline : t.line.state = s.line.state)
    (hhot : t.monitor.hot = s.monitor.hot) : testBarred (refresh t) = testBarred (refresh s) := by
  simp only [testBarred, refresh_active, followed, State.running_congr hline, hpins, hintake, hhot]

theorem testBarred_of_bearing (h : t.monitor.active.bearing = s.monitor.active.bearing) : testBarred t = testBarred s := by
  have hbits (u : State) : testBarred u = (u.monitor.active.bearing.stringHot || u.monitor.active.bearing.tempLost
      || u.monitor.active.bearing.sampleGap || u.monitor.active.bearing.onBypass) := rfl
  rw [hbits, hbits, h]

/-! ## The steps of the end of an event (assumption 10) -/

theorem yieldClaim_claiming (r : ClaimResult) (s : State) : (yieldClaim r s).claiming = false := by
  unfold yieldClaim
  split
  · next c hown =>
    split
    · next hholding => simp [State.claiming, hown, hholding]
    · rfl
  · next hown => simp [State.claiming, hown]

/-- The yield that is due is made (R118). -/
theorem yieldIfMust_mustYield (s : State) : mustYield (yieldIfMust s) = false := by
  unfold yieldIfMust
  split
  · next hown => simp [mustYield, hown]
  · next c hown =>
    split
    · next hholding => simp [mustYield, hown, hholding]
    · split
      · exact mustYield_of_notClaiming (yieldClaim_claiming _ _)
      · next hrank =>
        split
        · exact mustYield_of_notClaiming (yieldClaim_claiming _ _)
        · next hfree => simp [mustYield, hown, hrank, hfree]

theorem yieldIfMust_follows (h : ConditionsFollow s) : ConditionsFollow (yieldIfMust s) := by
  unfold ConditionsFollow at *
  rw [followed_congr (t := yieldIfMust s) (s := s) (by simp) (by simp) (by simp) (by simp) (by simp) (by simp) (by simp) (by simp)
    (by simp) (by simp) (by simp) (by simp), ← h]
  simp

/-- Where the conditions stood as they follow, an abort leaves them bearing on the activities as they did. -/
theorem Aborted.refresh_bearing (h : Aborted s t) (hfollow : ConditionsFollow s) :
    (refresh t).monitor.active.bearing = s.monitor.active.bearing := by
  rw [refresh_active, h.bearing, ← show s.monitor.active = followed s from hfollow]

theorem Aborted.refresh_mustYield (h : Aborted s t) (hfollow : ConditionsFollow s) (hs : mustYield s = false) :
    mustYield (refresh t) = false := by
  have hbearing := h.refresh_bearing hfollow
  obtain ⟨-, hid, -, -, -, -, -, -, -, -, -, hown, hlist⟩ := h
  exact mustYield_of_less hid hown hlist hbearing hs

theorem Aborted.testAlone (h : Aborted s t) (hs : TestAlone s) : TestAlone t := by
  obtain ⟨-, -, -, -, -, -, -, -, hframes, -⟩ := h
  exact hs.left hframes

theorem Aborted.noTest (h : Aborted s t) (hs : s.hasTest = false) : t.hasTest = false := by
  obtain ⟨-, -, -, -, -, -, -, -, hframes, -⟩ := h
  exact hframes.noTest hs

/-- A test that the aborts of conditions leave is one that no condition aborts (R67). -/
theorem conditionAborts_test (h : (conditionAborts s).hasTest = true) : testBarred s = false := by
  cases hbarred : testBarred s with
  | false => rfl
  | true =>
    have hno : (conditionAborts s).hasTest = false := by
      unfold conditionAborts
      simp only [hbarred, Bool.and_true]
      have hended : (if s.hasTest = true then endTest .aborted s else s).hasTest = false := by
        split
        · exact endTest_noTest _ _
        · next hno => simpa using hno
      generalize (if s.hasTest = true then endTest .aborted s else s) = t at hended ⊢
      split
      · exact (abortEqualize_framesLeft t).noTest hended
      · exact hended
    simp [hno] at h

/-- What the end of an event has seen to before a commit: the conditions follow, nothing must yield, and a test that stands abides. -/
def Cleared (s : State) : Prop := ConditionsFollow s ∧ mustYield s = false ∧ TestAbides s ∧ TestAlone s

theorem supportAbort_cleared (hfollow : ConditionsFollow s) (hyield : mustYield s = false)
    (hbarred : s.hasTest = true → testBarred s = false) (halone : TestAlone s) : Cleared (refresh (supportAbort s)) := by
  have haborted := supportAbort_aborted s
  refine ⟨refresh_follows _, haborted.refresh_mustYield hfollow hyield, ?_, haborted.testAlone halone⟩
  cases hfails : s.hasTest && !supports .test s s.id.station with
  | true =>
    have hended : supportAbort s = endTest .aborted s := if_pos hfails
    exact testAbides_of_noTest (by rw [hended]; exact endTest_noTest _ _)
  | false =>
    have hsame : supportAbort s = s := if_neg (by simp [hfails])
    rw [hsame, refresh_of_follows hfollow]
    intro htest
    exact ⟨hbarred htest, by simpa [htest] using hfails⟩

/-- The yields and the aborts of an event's end clear the way for its commit (R67, R102, R118). -/
theorem aborts_cleared (h : TestAlone s) :
    Cleared (refresh (supportAbort (refresh (conditionAborts (yieldIfMust (refresh s)))))) := by
  have hfollow : ConditionsFollow (yieldIfMust (refresh s)) := yieldIfMust_follows (refresh_follows s)
  have hyield := yieldIfMust_mustYield (refresh s)
  have halone : TestAlone (yieldIfMust (refresh s)) := h.kept (by simp)
  generalize yieldIfMust (refresh s) = u at *
  have haborted := conditionAborts_aborted u
  refine supportAbort_cleared (refresh_follows _) (haborted.refresh_mustYield hfollow hyield) (fun htest => ?_) ?_
  · rw [testBarred_of_bearing (haborted.refresh_bearing hfollow)]
    exact conditionAborts_test htest
  · exact haborted.testAlone halone

theorem holdClaim_claiming (c : OwnClaim) (s : State) : (holdClaim c s).claiming = false := by
  simp [holdClaim, State.claiming]

/-- A claim that holds or is gone leaves neither a commit nor a yield due. -/
theorem settled_of_notClaiming (hclaiming : s.claiming = false) (habides : TestAbides s) : Settled s :=
  ⟨commitReady_of_notClaiming hclaiming, mustYield_of_notClaiming hclaiming, habides⟩

/-- With the stack empty the own mode does not tell a TEST from an empty stack (R49). -/
theorem pushTest_mode (o : TestOrigin) (s : State) : (pushTest o s).mode = s.mode := rfl

/-- The commit that is due is made, and its activity is one that nothing aborts (R116, R117). -/
theorem Cleared.tryCommit (h : Cleared s) : Settled (refresh (tryCommit s)) := by
  obtain ⟨hfollow, hyield, habides, halone⟩ := h
  unfold Machine.tryCommit
  cases hready : commitReady s with
  | false =>
    rw [if_neg (by simp), refresh_of_follows hfollow]
    exact ⟨hready, hyield, habides⟩
  | true =>
    rw [if_pos rfl]
    cases hown : s.claims.own with
    | none => simp [commitReady, hown] at hready
    | some c =>
      have hready' : c.holding = false ∧ supports c.kind s s.id.station = true := by
        simp only [commitReady, hown, Bool.and_eq_true, Bool.not_eq_true'] at hready
        tauto
      obtain ⟨hclaiming, hsupports⟩ := hready'
      have hfree : s.monitor.active.inhibitsClaim c.kind = false := by
        simp only [mustYield, hown, hclaiming, Bool.not_false, Bool.true_and, Bool.or_eq_false_iff] at hyield
        exact hyield.2
      rcases halone.commit_cases hown with hyields | ⟨hkind, hempty, htest⟩ | ⟨-, -, hno, hwithdraws⟩
      · rw [hyields]
        refine settled_of_notClaiming (yieldClaim_claiming .abandoned s) fun htest => ?_
        have hs : s.hasTest = true := by simpa [State.hasTest] using htest
        obtain ⟨hbarred, hsupported⟩ := habides hs
        rw [testBarred_refresh_congr (s := s) (by simp) (by simp) (by simp) (by simp), refresh_of_follows hfollow]
        refine ⟨hbarred, ?_⟩
        rw [supports_of_members (s := s) (members_congr (by simp) (by simp) (by simp) (by simp) (by simp)
          (State.mode_congr (by simp) (by simp) (by simp))) (by simp)]
        simpa using hsupported
      · rw [htest]
        refine settled_of_notClaiming (holdClaim_claiming c _) fun _ => ?_
        rw [testBarred_refresh_congr (s := s) (by simp) (by simp) (by simp) (by simp), refresh_of_follows hfollow]
        constructor
        · rw [hkind] at hfree
          simp only [Conditions.inhibitsClaim, Conditions.inhibitsTest, Bool.or_eq_false_iff] at hfree
          simp [testBarred, hfree]
        · have hmode : (refresh (holdClaim c (pushTest (testOriginOf c.origin) s))).mode = s.mode := by
            rw [State.mode_congr (s := pushTest (testOriginOf c.origin) s) (by simp) (by simp) (by simp), pushTest_mode]
          rw [supports_of_members (s := s) (members_congr (by simp) (by simp) (by simp) (by simp) (by simp) hmode) (by simp)]
          rw [hkind] at hsupports
          simpa using hsupports
      · rw [hwithdraws] at hno ⊢
        exact settled_of_notClaiming (holdClaim_claiming c _) (testAbides_of_noTest hno)

/-! ## The end of an event -/

theorem changeWithdrawal_view (f : WithdrawalFrame → WithdrawalFrame) (s : State) : dueView (changeWithdrawal f s) = dueView s := by
  have hkinds : (changeWithdrawal f s).stack.frames.map Frame.bare = s.stack.frames.map Frame.bare := by
    simp only [changeWithdrawal, setFrames_frames, List.map_map]
    exact List.map_congr_left fun g _ => by cases g <;> rfl
  simp only [dueView, hkinds]
  rfl

theorem giveOwner_view (s : State) : dueView (giveOwner s) = dueView s := by
  unfold giveOwner assignWithdrawal
  split
  · split
    · rfl
    · next v hvisit =>
      rw [← changeWithdrawal_view (fun w => { w with owner := some v.number }) s]
      simp [dueView, changeWithdrawal, hvisit]
  · rfl

theorem handOwedClaim_view (s : State) : dueView (handOwedClaim s) = dueView s := by
  unfold handOwedClaim
  split
  · rfl
  · next c hown =>
    split
    · simp [dueView, handClaim, hown, OwnClaim.bare]
    · rfl

theorem settle_nothingDue (h : TestAlone s) : NothingDue (settle s) := by
  have hcommitted := (aborts_cleared h).tryCommit
  unfold settle
  dsimp only
  generalize refresh (tryCommit (refresh (supportAbort (refresh (conditionAborts (yieldIfMust (refresh s))))))) = u at hcommitted
  have hready : Settled (handOwedClaim (giveOwner u)) :=
    hcommitted.of_view ((handOwedClaim_view _).trans (giveOwner_view u))
  exact nothingDue_of_view hready.startActivities rfl

/-- Whatever an event has done with a TEST frame standing alone, its end leaves nothing due. -/
theorem finish_nothingDue (before : State) (h : TestAlone s) : NothingDue (finish before s) :=
  nothingDue_of_view (settle_nothingDue h) (by simp [finish, dueView])

end

end Sys2Proof.Machine
end

section
/-! PROOFS. Every step leaves nothing due (R57, R60, R61, R67, R102, R116, R118, R146): the commands one by one. -/

namespace Sys2Proof.Machine

open Sys2Proof.Safety

section
variable {s t u : State}

/-! ## A part that has not joined -/

/-- The part has not joined, and no claim, no test, no waiting test and no held request stands. -/
def Resting (s : State) : Prop :=
  s.joined = false ∧ s.claims.own = none ∧ s.hasTest = false ∧ s.cond.waiting = false ∧ s.visits.requestHeld = false

/-- A part that has not joined starts and claims nothing (R57, R107). -/
theorem Resting.nothingDue (h : Resting s) : NothingDue s := by
  obtain ⟨hjoined, hown, htest, hwaiting, hrequest⟩ := h
  have hclaiming : s.claiming = false := by simp [State.claiming, hown]
  have hstate : s.line.state ≠ .active := by
    intro hactive
    simp [State.joined, hactive] at hjoined
  have hclaims (k : ClaimKind) : mayClaim s k = false := by simp [mayClaim, hstate]
  refine ⟨commitReady_of_notClaiming hclaiming, ?_, ?_, ?_, ?_, mustYield_of_notClaiming hclaiming, testAbides_of_noTest htest⟩
  · simp [equalizeReady, hjoined]
  · simp [waitingReady, hwaiting]
  · simp [testClaimReady, hclaims]
  · simp [keyClaimReady, hrequest]

theorem resting_of_idle (h : IdleAtStart s) (hidle : s.running = false) : Resting s := by
  have hjoined : s.joined = false := by
    unfold State.running at hidle
    unfold State.joined
    cases hstate : s.line.state <;> simp [hstate] at hidle ⊢
  rw [h hidle] at hjoined ⊢
  exact ⟨hjoined, rfl, rfl, rfl, rfl⟩

theorem raiseRecordCheck_cond (lost : List PageId) (s : State) : (raiseRecordCheck lost s).cond = s.cond := by
  unfold raiseRecordCheck
  split <;> simp

theorem restoreDueHours_waiting (s : State) : (restoreDueHours s).cond.waiting = s.cond.waiting := by
  unfold restoreDueHours
  dsimp only
  split <;> simp

theorem restoreLatch_waiting (s : State) : (restoreLatch s).cond.waiting = s.cond.waiting := by
  unfold restoreLatch
  split <;> simp

/-- A start restores no waiting test (R61). -/
theorem reckon_waiting (lost : List PageId) (s : State) : (reckon lost s).cond.waiting = s.cond.waiting := by
  simp [reckon, raiseRecordCheck_cond, restoreLatch_waiting, restoreDueHours_waiting]

theorem bringUp_waiting (hmains : s.bypass.mains = .present) (hconfirmed : s.bypass.confirmed = .unknown) (lost : List PageId) :
    (bringUp lost s).cond.waiting = s.cond.waiting := by
  simp [bringUp_joined hmains hconfirmed, startTimers, reckonedPart, reckon_waiting, restoredPart, restoreStrings, restoreCabinet]

theorem startPart_resting (st : Straps) (image : Option Image) (lost : List PageId) (s : State) :
    Resting (startPart st image lost s) := by
  have hrefused : Resting (configFault (readStraps st (clearBlocks s))) := ⟨rfl, rfl, rfl, rfl, rfl⟩
  cases hstation : isStation st.id.toNat with
  | false =>
    rw [startPart_refused (.inl hstation)]
    exact hrefused
  | true =>
    cases image with
    | none =>
      rw [startPart_refused (.inr (by simp))]
      exact hrefused
    | some im =>
      cases hgood : imageGood im with
      | false =>
        rw [startPart_refused (.inr (by simpa using hgood))]
        exact hrefused
      | true =>
        have hmains : (configured st im s).bypass.mains = .present := rfl
        have hconfirmed : (configured st im s).bypass.confirmed = .unknown := rfl
        rw [startPart_good hstation hgood]
        obtain ⟨-, -, -, -, hstack, -, hclaims, -⟩ := bringUp_keeps (lost := lost) hmains hconfirmed
        refine ⟨?_, ?_, ?_, ?_, ?_⟩
        · simp [State.joined, bringUp_line hmains hconfirmed]
        · rw [hclaims]
          rfl
        · rw [State.hasTest, hstack]
          rfl
        · rw [bringUp_waiting hmains hconfirmed]
          rfl
        · rw [bringUp_visits hmains hconfirmed]
          rfl

/-! ## Requests -/

theorem TestAlone.withItem (h : TestAlone s) (number : Nat) {f : Visit → Nat → Item → Served}
    (hf : ∀ v place it, TestAlone (f v place it).state) : TestAlone (withItem number s f).state := by
  unfold Machine.withItem
  (repeat' split) <;> first | exact h | exact hf _ _ _

theorem TestAlone.serveVisitOpen (h : TestAlone s) (term technician planned : Nat) :
    TestAlone (serveVisitOpen term technician planned s).state := by
  unfold Machine.serveVisitOpen
  dsimp only
  split
  · exact h
  · split
    · exact h
    · exact h.left (openVisit_framesLeft _ _ _ s)

theorem TestAlone.serveVisitClose (h : TestAlone s) (number : Nat) : TestAlone (serveVisitClose number s).state := by
  have hended : TestAlone (Machine.startActivities (endVisit .terminal s)) :=
    TestAlone.startActivities (h.kept (by rw [endVisit_stack]))
  have hclosed : TestAlone (closeByTerminal s) := hended.left (reopenForKey_framesLeft _)
  unfold Machine.serveVisitClose
  (repeat' split) <;> first | exact h | exact hclosed

theorem TestAlone.serveItemTake (h : TestAlone s) (number : Nat) : TestAlone (serveItemTake number s).state := by
  refine h.withItem number fun v place it => ?_
  split
  · exact h
  · split
    · exact h
    · exact h.kept (by simp [answer])

theorem TestAlone.serveItemReturn (h : TestAlone s) (number : Nat) : TestAlone (serveItemReturn number s).state := by
  refine h.withItem number fun v place it => ?_
  split
  · exact h
  · exact h.kept (by simp [answer])

theorem TestAlone.serveItemDone (h : TestAlone s) (number : Nat) : TestAlone (serveItemDone number s).state := by
  refine h.withItem number fun v place it => ?_
  split
  · exact h
  · split
    · exact h
    · exact h.kept (by simp [answer])

theorem TestAlone.serveWithdraw (h : TestAlone s) (n : Nat) : TestAlone (serveWithdraw n s).state := by
  have hassigned : TestAlone (assignWithdrawal s) := by
    unfold assignWithdrawal
    split
    · exact h
    · next v _ =>
      have hchanged := h.changeWithdrawal fun w => { w with owner := some v.number }
      exact hchanged.kept (by simp)
  unfold Machine.serveWithdraw
  (repeat' split) <;> first | exact h | exact hassigned | exact h.kept (by simp [answer])

theorem TestAlone.serveReturn (h : TestAlone s) : TestAlone (serveReturn s).state := by
  unfold Machine.serveReturn
  split
  · exact h
  · exact h.askReturn

theorem TestAlone.serveTestNow (h : TestAlone s) : TestAlone (serveTestNow s).state := by
  unfold Machine.serveTestNow
  (repeat' split) <;> exact h.kept (by simp [answer])

theorem TestAlone.serveStop (h : TestAlone s) : TestAlone (serveStop s).state := by
  unfold Machine.serveStop
  split
  · exact h.left ((abortEqualize_framesLeft s).trans (endTest_framesLeft .aborted _))
  · exact h

theorem TestAlone.serveClear (h : TestAlone s) (named : Nat) : TestAlone (serveClear named s).state := by
  have hcleared : TestAlone ((clearedBy named s.monitor.active).foldl (fun t k => setCondition k false t) s) :=
    foldl_inv (P := TestAlone) _ (fun t k ht => ht.kept (by simp)) _ _ h
  unfold Machine.serveClear
  dsimp only
  (repeat' split) <;> exact hcleared

theorem TestAlone.serveForget (h : TestAlone s) (n : Nat) : TestAlone (serveForget n s).state := by
  unfold Machine.serveForget
  (repeat' split) <;> exact h.kept (by simp [answer])

theorem TestAlone.serveRestart (h : TestAlone s) : TestAlone (serveRestart s).state := by
  unfold Machine.serveRestart
  (repeat' split) <;> exact h.kept (by simp [answer])

/-- A request that is not served changes nothing that is due reads; one that is served ends its event. -/
theorem request_nothingDue (h : NothingDue s) (halone : TestAlone s) (term : Nat) (code tag : Byte) (args : List Byte)
    {serve : State → Served} (hserve : ∀ u, TestAlone u → TestAlone (serve u).state) :
    NothingDue (request term code tag args serve s) := by
  unfold request
  dsimp only
  split
  · exact h
  · split
    · exact nothingDue_of_view h rfl
    · split
      · exact nothingDue_of_view h (by simp [dueView])
      · exact nothingDue_of_view h (by simp [dueView])
      · have hcounted : TestAlone (countReceived s) := halone
        exact finish_nothingDue s ((hserve _ hcounted).kept (by simp))

theorem requestRead_view (term : Nat) (tag : Byte) (args : List Byte) (s : State) :
    dueView (requestRead term tag args s) = dueView s := by
  unfold requestRead
  dsimp only
  (repeat' split) <;> simp [dueView]

/-! ## The commands -/

theorem nothingDue_ite {c : Prop} [Decidable c] (ht : NothingDue t) (hu : NothingDue u) : NothingDue (if c then t else u) := by
  split
  · exact ht
  · exact hu

/-- The state that a command answers has nothing left due. -/
def NextNothingDue (o : Host.Outcome State Fault Refusal) : Prop := ∀ t, o = .next t → NothingDue t

theorem nextNothingDue_next (h : NothingDue t) : NextNothingDue (.next t) := by
  rintro _ ⟨⟩
  exact h

theorem countFailure_view (f : RxFailure) (s : State) : dueView (countFailure f s) = dueView s := by
  cases f <;> simp [dueView, countFailure, lineError, Conditions.bearing]

theorem exec_nextNothingDue (c : Instr) (h : NothingDue s) (halone : TestAlone s) (hidle : s.running = false → Resting s) :
    NextNothingDue (exec c s) := by
  have hrequest (term : Nat) (code tag : Byte) (args : List Byte) {serve : State → Served}
      (hserve : ∀ u, TestAlone u → TestAlone (serve u).state) : NextNothingDue (.next (request term code tag args serve s)) :=
    nextNothingDue_next (request_nothingDue h halone term code tag args hserve)
  have hfinish {u : State} (hu : TestAlone u) : NothingDue (finish s u) := finish_nothingDue s hu
  have hkept {u : State} (hu : u.stack.frames = s.stack.frames) : NothingDue (finish s u) := hfinish (halone.kept hu)
  cases c with
  | resetNAsserted => exact nextNothingDue_next (Resting.nothingDue ⟨rfl, rfl, rfl, rfl, rfl⟩)
  | powerLoss => exact nextNothingDue_next (Resting.nothingDue ⟨rfl, rfl, rfl, rfl, rfl⟩)
  | start st image lost => exact nextNothingDue_next (startPart_resting st image lost s).nothingDue
  | restartStart st image lost => exact nextNothingDue_next (nothingDue_ite (startPart_resting st image lost s).nothingDue h)
  | measurementBurst bytes extra early =>
    refine nextNothingDue_next (nothingDue_ite h ?_)
    split
    · exact nothingDue_of_view h rfl
    · exact nothingDue_of_view h rfl
    · next load bs _ =>
      have hheld : TestAlone { s with intake := takeBurst load bs s.intake } := halone
      exact hfinish (((hheld.abortBeforeSample bs).commitBeforeSample bs).sampleReceivers bs)
  | intakeSecondTimerExpiry => exact nextNothingDue_next (nothingDue_ite h (hkept (by simp)))
  | wearSecondTimerExpiry => exact nextNothingDue_next (nothingDue_ite h (hkept (by simp)))
  | equalizeMinuteTimerExpiry =>
    refine nextNothingDue_next ?_
    split
    · next f rest hframes => exact hfinish (halone.equalizeMinute hframes)
    · exact h
  | testSecondTimerExpiry =>
    have hticked : TestAlone { s with cond := { s.cond with testSecond := seconds 1 } } := halone
    exact nextNothingDue_next (nothingDue_ite h (hfinish hticked.testSecond))
  | frameStart => exact nextNothingDue_next (nothingDue_of_view h (by simp [dueView]))
  | arbitrationLoss =>
    refine nextNothingDue_next ?_
    split
    · exact h
    · exact nothingDue_of_view h (handOwedClaim_view _)
  | frameAbandoned =>
    refine nextNothingDue_next ?_
    split
    · exact h
    · split
      · exact h
      · next f _ =>
        refine nothingDue_of_view h ((handOwedClaim_view _).trans ?_)
        unfold oweClaim
        split
        · cases hown : s.claims.own <;> simp [dueView, hown, OwnClaim.bare]
        · rfl
  | frameSent =>
    refine nextNothingDue_next ?_
    split
    · exact h
    · split
      · exact h
      · exact hkept (by simp)
  | lineSynchronised => exact nextNothingDue_next (nothingDue_ite (nothingDue_of_view h rfl) h)
  | frameRejected frame =>
    refine nextNothingDue_next (nothingDue_ite h ?_)
    split
    · exact h
    · next failure _ =>
      exact nothingDue_ite (nothingDue_of_view h (countFailure_view failure s))
        (nothingDue_of_view h (countFailure_view failure s))
  | statusReceived source payload =>
    refine nextNothingDue_next (nothingDue_ite h ?_)
    split
    · exact h
    · exact hkept (by simp)
  | duplicateNumberHeard =>
    exact nextNothingDue_next (nothingDue_ite h (nothingDue_ite (hkept (by simp)) (nothingDue_of_view h rfl)))
  | claimReceived source kind =>
    exact nextNothingDue_next (nothingDue_ite h (nothingDue_ite (nothingDue_of_view h rfl) (hkept (by simp))))
  | releaseReceived source kind =>
    exact nextNothingDue_next (nothingDue_ite h (nothingDue_ite (nothingDue_of_view h rfl) (hkept (by simp))))
  | mainsReceived source kind =>
    exact nextNothingDue_next (nothingDue_ite h (nothingDue_ite (nothingDue_of_view h rfl) (nothingDue_of_view h rfl)))
  | resultRecordReceived => exact nextNothingDue_next (nothingDue_ite (nothingDue_of_view h rfl) h)
  | statusTimerExpiry => exact nextNothingDue_next (nothingDue_ite h (nothingDue_of_view h (by simp [dueView])))
  | joiningTimerExpiry =>
    have hjoined : TestAlone { s with line := { s.line with joiningTimer := none, state := s.line.state.joinedState } } := halone
    exact nextNothingDue_next (nothingDue_ite h (hfinish hjoined.adopt))
  | staleTimerExpiry station => exact nextNothingDue_next (nothingDue_ite (hkept (by simp)) h)
  | claimWindowTimerExpiry => exact nextNothingDue_next (nothingDue_ite h (hkept (by simp)))
  | spacingTimerExpiry => exact nextNothingDue_next (nothingDue_ite h (hkept rfl))
  | confirmationTimerExpiry station => exact nextNothingDue_next (nothingDue_ite (hkept (by simp)) h)
  | mainsOkChange level =>
    refine nextNothingDue_next (nothingDue_ite h (nothingDue_ite (nothingDue_of_view h ?_) (nothingDue_of_view h rfl)))
    simp [dueView]
  | mainsLossTimerExpiry => exact nextNothingDue_next (nothingDue_ite h (hfinish halone.loseMains))
  | mainsQualificationTimerExpiry => exact nextNothingDue_next (nothingDue_ite h (hfinish halone.restoreMains))
  | breakerContactChange cl op =>
    have hmoved : TestAlone { s with pins := { s.pins with mbpCl := cl, mbpOp := op } } := halone
    exact nextNothingDue_next (nothingDue_ite h (nothingDue_ite (hfinish (hmoved.moveBreaker cl op)) (nothingDue_of_view h rfl)))
  | disagreeTimerExpiry => exact nextNothingDue_next (nothingDue_ite h (nothingDue_of_view h rfl))
  | pulseEnd => exact nextNothingDue_next (nothingDue_of_view h (by simp [dueView]))
  | transferTimeout => exact nextNothingDue_next (nothingDue_ite (hfinish halone.timeOutTransfer) h)
  | returnTimeout => exact nextNothingDue_next (nothingDue_ite (hfinish halone.timeOutReturn) h)
  | recoveryWaitExpiry => exact nextNothingDue_next (nothingDue_ite h (hfinish halone.endRecovery))
  | bypLoadChange level =>
    refine nextNothingDue_next (nothingDue_ite h ?_)
    dsimp only
    split
    · refine hkept ?_
      split <;> simp
    · next hheld =>
      have hresting : Resting { s with pins := { s.pins with bypLoad := level } } := hidle (by simpa using hheld)
      exact hresting.nothingDue
  | keyInputChange keyS keyW =>
    exact nextNothingDue_next (nothingDue_ite h (nothingDue_ite (nothingDue_of_view h rfl) (nothingDue_of_view h rfl)))
  | keySettleTimerExpiry =>
    have hread : TestAlone { s with visits := { s.visits with settleTimer := none } } := halone
    exact nextNothingDue_next (nothingDue_ite h (hfinish hread.settleKey))
  | overdueTimerExpiry => exact nextNothingDue_next (nothingDue_ite h (hkept (by simp)))
  | hourTimerExpiry => exact nextNothingDue_next (nothingDue_ite h (hkept (by simp)))
  | memoryWriteDone => exact nextNothingDue_next (nothingDue_ite h (nothingDue_of_view h (by simp [dueView])))
  | memoryWriteFail => exact nextNothingDue_next (nothingDue_ite h (hkept (by simp)))
  | visitOpen term tag args => exact hrequest _ _ _ _ fun _ hu => hu.serveVisitOpen _ _ _
  | visitClose term tag args => exact hrequest _ _ _ _ fun _ hu => hu.serveVisitClose _
  | itemTake term tag args => exact hrequest _ _ _ _ fun _ hu => hu.serveItemTake _
  | itemDone term tag args => exact hrequest _ _ _ _ fun _ hu => hu.serveItemDone _
  | itemReturn term tag args => exact hrequest _ _ _ _ fun _ hu => hu.serveItemReturn _
  | withdraw term tag args => exact hrequest _ _ _ _ fun _ hu => hu.serveWithdraw _
  | returnRequest term tag args => exact hrequest _ _ _ _ fun _ hu => hu.serveReturn
  | testNow term tag args => exact hrequest _ _ _ _ fun _ hu => hu.serveTestNow
  | equalizeNow term tag args => exact hrequest _ _ _ _ fun _ hu => hu.kept (by simp [serveEqualizeNow, answer])
  | stop term tag args => exact hrequest _ _ _ _ fun _ hu => hu.serveStop
  | clear term tag args => exact hrequest _ _ _ _ fun _ hu => hu.serveClear _
  | forget term tag args => exact hrequest _ _ _ _ fun _ hu => hu.serveForget _
  | read term tag args => exact nextNothingDue_next (nothingDue_of_view h (requestRead_view _ _ _ _))
  | restart term tag args => exact hrequest _ _ _ _ fun _ hu => hu.serveRestart
  | unknownRequestCode term code tag args =>
    exact nextNothingDue_next (nothingDue_ite h (request_nothingDue h halone _ _ _ _ fun _ hu => hu))

/-! ## The passing of time -/

theorem tickFrames_bare (frames : List Frame) : (tickFrames frames).map Frame.bare = frames.map Frame.bare := by
  cases frames with
  | nil => rfl
  | cons f rest => cases f <;> rfl

/-- A tenth of a second is counted on timers and counts alone, and no rule looks at those before they expire. -/
theorem tick_view (s : State) : dueView (tick s) = dueView s := by
  have hpeer (p : Peer) : (tickPeer p).bare = p.bare := by
    unfold tickPeer
    split <;> rfl
  unfold tick
  split
  · rfl
  · simp only [dueView, tickFrames_bare, Timer.tick, Option.map_map, List.map_map]
    congr 2
    · exact funext hpeer

end

/-- Settles O10: with a TEST frame alone on the stack the end of every event leaves nothing due, and a command that ends no event
changes nothing that is due reads. -/
theorem stepLeavesNothingDue : Obligations.StepLeavesNothingDue := by
  intro s t h hsound hidle hstep
  have halone := testAlone_of_stackSound hsound
  unfold step at hstep
  split at hstep
  · cases hstep
    exact nothingDue_of_view h (tick_view s)
  · next c rest _ =>
    have hpopped : NothingDue { s with pending := rest } := h
    have hresting (hrun : s.running = false) : Resting s := resting_of_idle hidle hrun
    exact exec_nextNothingDue c hpopped halone hresting t hstep

end Sys2Proof.Machine
end

section
/-! PROOFS. Items that a raise leaves in the queue (R157, R158), and the end of an event over a test that it aborts or that does not
stand. -/

namespace Sys2Proof.Machine

open Sys2Proof.Safety

section
variable {s t u : State}

/-! ## A raised item is in the queue (R157, R158) -/

theorem HasItem.of_items {k : ItemKind} {target : Target} {severity : Nat} (h : HasItem k target severity s)
    (hitems : t.queue.items = s.queue.items) : HasItem k target severity t := by
  unfold HasItem
  rw [hitems]
  exact h

/-- A raise merges into the item of its kind and target, which keeps at least the severity raised (R158). -/
theorem raiseItem_merged {k : ItemKind} {target : Target} {place : Nat} (severity : Nat)
    (hfound : findKind k target s.queue.items = some place) : HasItem k target severity (raiseItem k target severity s) := by
  obtain ⟨hlt, hmatch, -⟩ := List.findIdx?_eq_some_iff_getElem.mp hfound
  simp only [Bool.and_eq_true, beq_iff_eq] at hmatch
  obtain ⟨hkind, htarget⟩ := hmatch
  have hitems : (raiseItem k target severity s).queue.items = s.queue.items.modify place (mergeItem severity) := by
    simp [raiseItem, hfound, changePlace]
  refine ⟨mergeItem severity s.queue.items[place], ?_, hkind, htarget, le_max_right _ _⟩
  rw [hitems]
  refine List.mem_of_getElem? (i := place) ?_
  simp [hlt]

theorem appendItem_hasItem (k : ItemKind) (target : Target) (severity : Nat) (s : State) :
    HasItem k target severity (appendItem k target severity s) := by
  unfold HasItem appendItem
  simp

theorem supersedeReview_length (target : Target) (s : State) :
    (supersedeReview target s).queue.items.length ≤ s.queue.items.length := by
  unfold supersedeReview
  split
  · exact le_rfl
  · split
    · simpa [removePlace] using (List.eraseIdx_sublist _ _).length_le
    · exact le_rfl

/-- With room in the queue a raise leaves an item of its kind and target with at least its severity; a review gives way to a replacement
that stands (R157, R159). -/
theorem raiseItem_hasItem {k : ItemKind} (target : Target) (severity : Nat) (hroom : s.queue.items.length < 24)
    (hkind : k ≠ .stringReview) : HasItem k target severity (raiseItem k target severity s) := by
  cases hfound : findKind k target s.queue.items with
  | some place => exact raiseItem_merged severity hfound
  | none =>
    have hentered (t : State) (ht : t.queue.items.length ≤ s.queue.items.length) :
        HasItem k target severity (enterItem k target severity t) := by
      rw [enterItem, if_pos (lt_of_le_of_lt ht hroom)]
      exact appendItem_hasItem k target severity t
    unfold raiseItem
    rw [hfound]
    dsimp only
    rw [if_neg fun h => hkind h.1]
    split
    · exact hentered _ (supersedeReview_length target s)
    · exact hentered _ le_rfl

/-! ## The end of an event that bars tests (R67) -/

theorem startActivities_noTest (h : s.hasTest = false) : (startActivities s).hasTest = false := by
  have hequalize (t : State) (ht : t.hasTest = false) : (tryEqualize t).hasTest = false := by
    unfold tryEqualize
    split
    · exact startEqualize_noTest ht
    · exact ht
  have htest (t : State) (ht : t.hasTest = false) : (tryTest t).hasTest = false := by
    rw [State.hasTest_congr (s := t) (by simp)]
    exact ht
  have hdrawn : ({ s with free := s.free + 1 } : State).hasTest = false := h
  unfold startActivities
  dsimp only
  split
  · split
    · exact htest _ (hequalize _ hdrawn)
    · exact hequalize _ (htest _ hdrawn)
  · rw [State.hasTest_congr (s := tryTest (tryEqualize s)) (by simp)]
    exact htest _ (hequalize s h)

/-- No more than an equalize is started once the commit is made. -/
theorem settle_noTest_of_committed
    (h : (tryCommit (refresh (supportAbort (refresh (conditionAborts (yieldIfMust (refresh u))))))).hasTest = false) :
    (settle u).hasTest = false := by
  have hready : (handOwedClaim (giveOwner (refresh (tryCommit (refresh (supportAbort (refresh
      (conditionAborts (yieldIfMust (refresh u)))))))))).hasTest = false := by
    rw [← dueView_hasTest, handOwedClaim_view, giveOwner_view, dueView_hasTest]
    exact h
  exact startActivities_noTest hready

theorem finish_noTest_of_settle (before : State) (h : (settle u).hasTest = false) : (finish before u).hasTest = false := by
  rw [State.hasTest_congr (s := settle u) (by simp [finish])]
  exact h

/-- No TEST frame outlives an event that leaves a condition that aborts tests, and none is pushed at its end (R67, R118). -/
theorem finish_noTest_of_barred (before : State) (h : testBarred (refresh u) = true) : (finish before u).hasTest = false := by
  refine finish_noTest_of_settle before (settle_noTest_of_committed ?_)
  have hfollow : ConditionsFollow (yieldIfMust (refresh u)) := yieldIfMust_follows (refresh_follows u)
  have hyield := yieldIfMust_mustYield (refresh u)
  have hbarred : testBarred (yieldIfMust (refresh u)) = true := by simpa [testBarred] using h
  generalize yieldIfMust (refresh u) = v at *
  have haborted := conditionAborts_aborted v
  have hno : (conditionAborts v).hasTest = false := by
    cases htest : (conditionAborts v).hasTest with
    | false => rfl
    | true => simp [conditionAborts_test htest] at hbarred
  have hyield' := haborted.refresh_mustYield hfollow hyield
  have hbarred' : testBarred (refresh (conditionAborts v)) = true := by
    rw [testBarred_of_bearing (haborted.refresh_bearing hfollow), hbarred]
  have hsupport : supportAbort (refresh (conditionAborts v)) = refresh (conditionAborts v) := by
    have hno' : (refresh (conditionAborts v)).hasTest = false := hno
    simp [supportAbort, hno']
  rw [hsupport, refresh_of_follows (refresh_follows _)]
  generalize hw : refresh (conditionAborts v) = w at *
  have hnow : w.hasTest = false := by rw [← hw]; exact hno
  unfold tryCommit
  split
  · next hready =>
    cases hown : w.claims.own with
    | none => simp [commitReady, hown] at hready
    | some c =>
      rcases (testAlone_of_noTest hnow).commit_cases hown with hyields | ⟨hkind, -, -⟩ | ⟨-, -, hwithdraws, -⟩
      · rw [hyields, State.hasTest_congr (s := w) (by simp)]
        exact hnow
      · have hclaiming : c.holding = false := by
          simp only [commitReady, hown, Bool.and_eq_true, Bool.not_eq_true'] at hready
          tauto
        simp only [testBarred, Bool.or_eq_true] at hbarred'
        simp only [mustYield, hown, hclaiming, hkind, Conditions.inhibitsClaim, Conditions.inhibitsTest] at hyield'
        rcases hbarred' with ((hb | hb) | hb) | hb <;> simp [hb] at hyield'
      · exact hwithdraws
  · exact hnow

/-- At the end of an event ON_BYPASS is as the static switch has it (R137, R163). -/
theorem finish_onBypass (before u : State) : (finish before u).monitor.active.onBypass = (u.running && u.pins.bypLoad) := by
  have hactive : (finish before u).monitor.active
      = followed (tryCommit (refresh (supportAbort (refresh (conditionAborts (yieldIfMust (refresh u))))))) := by
    simp [finish, settle]
  rw [hactive]
  simp only [followed]
  rw [State.running_congr (s := u) (by simp)]
  simp

/-! ## The end of an event over which no TEST frame stands -/

/-- Without a TEST frame the end of an event hands no records over, and raises nothing (R65). -/
theorem finish_queue_of_noTest (before : State) (h : u.hasTest = false) : (finish before u).queue = u.queue := by
  have hyielded : (yieldIfMust (refresh u)).hasTest = false := by simpa [State.hasTest] using h
  obtain ⟨-, -, hno⟩ := conditionAborts_of_noTest hyielded
  have hqueue : (conditionAborts (yieldIfMust (refresh u))).queue = u.queue := by
    unfold conditionAborts
    simp only [hyielded, Bool.false_and, Bool.false_eq_true, if_false]
    split <;> simp
  have hsupport : supportAbort (refresh (conditionAborts (yieldIfMust (refresh u))))
      = refresh (conditionAborts (yieldIfMust (refresh u))) := by
    have hno' : (refresh (conditionAborts (yieldIfMust (refresh u)))).hasTest = false := hno
    simp [supportAbort, hno']
  simp [finish, settle, hsupport, hqueue]

end

end Sys2Proof.Machine
end

section
/-! PROOFS. The contacts of the breaker and the static switch where no activity follows (R128, R134, R137, R138). -/

namespace Sys2Proof.Machine

open Sys2Proof.Safety

section
variable {s t u : State}

/-! ## The contacts (R128) -/

/-- The part with the contacts' pins read. -/
def pinsRead (cl op : Bool) (s : State) : State := { s with pins := { s.pins with mbpCl := cl, mbpOp := op } }

theorem takeContacts_confirmed (closed : Bool) (s : State) : takeContacts closed (!closed) (pinsRead closed (!closed) s) = { s with
    pins := { s.pins with mbpCl := closed, mbpOp := !closed }
    bypass := { s.bypass with position := if closed then .closed else .opened, disagree := none } } := by
  cases closed <;> rfl

theorem confirmClosed_taken (s : State) : confirmClosed (takeContacts true false (pinsRead true false s)) = breakerTaken true s := by
  exact congrArg confirmClosed (takeContacts_confirmed true s)

theorem confirmOpen_taken (s : State) : confirmOpen (takeContacts false true (pinsRead false true s)) = breakerTaken false s := by
  exact congrArg confirmOpen (takeContacts_confirmed false s)

theorem takeContacts_mixed_transit (c : Bool) (h : s.bypass.position = .transit) : takeContacts c c s = s := by
  obtain ⟨_, _, _, _, _, _, _, _, _, _, _, _, _, ⟨_, _, _, _, _, _, _, _, _, _, _, _, _⟩, _, _, _, _, _, _⟩ := s
  cases c <;> simp_all [takeContacts, positionOf, disagreeAfter]

theorem takeContacts_mixed_disagree (c : Bool) (h : s.bypass.position = .disagree) :
    takeContacts c c s = { s with bypass := { s.bypass with disagree := none } } := by
  obtain ⟨_, _, _, _, _, _, _, _, _, _, _, _, _, ⟨_, _, _, _, _, _, _, _, _, _, _, _, _⟩, _, _, _, _, _, _⟩ := s
  cases c <;> simp_all [takeContacts, positionOf, disagreeAfter]

theorem takeContacts_mixed (c : Bool) (htransit : s.bypass.position ≠ .transit) (hdisagree : s.bypass.position ≠ .disagree) :
    takeContacts c c s = { s with bypass := { s.bypass with position := .transit, disagree := some 10 } } := by
  cases c <;> simp [takeContacts, positionOf, disagreeAfter, htransit, hdisagree, seconds]

/-- A mixed pair brings nothing about but its position and its timer (R128). -/
theorem moveBreaker_mixed (c : Bool) (s : State) : moveBreaker c c s = takeContacts c c s := by
  have hmixed : (takeContacts c c s).bypass.position = .disagree ∨ (takeContacts c c s).bypass.position = .transit := by
    cases c <;> simp [takeContacts, positionOf, em]
  unfold moveBreaker
  dsimp only
  split
  · rfl
  · rcases hmixed with h | h <;> rw [h]

theorem moveBreaker_closed (hposition : s.bypass.position ≠ .closed) :
    moveBreaker true false (pinsRead true false s) = becomeClosed s.bypass.confirmed (breakerTaken true s) := by
  have hne : Position.closed ≠ s.bypass.position := hposition.symm
  rw [← confirmClosed_taken]
  simp [moveBreaker, takeContacts, positionOf, pinsRead, hne]

theorem moveBreaker_opened (hposition : s.bypass.position ≠ .opened) :
    moveBreaker false true (pinsRead false true s) = becomeOpen (breakerTaken false s) := by
  have hne : Position.opened ≠ s.bypass.position := hposition.symm
  rw [← confirmOpen_taken]
  simp [moveBreaker, takeContacts, positionOf, pinsRead, hne]

/-- The part with a confirmed position of the contacts read. -/
def contactsConfirmed (closed : Bool) (s : State) : State :=
  { s with
    pins := { s.pins with mbpCl := closed, mbpOp := !closed }
    bypass := { s.bypass with position := if closed then .closed else .opened, disagree := none } }

theorem breakerTaken_of_other (closed : Bool) (h : s.bypass.confirmed = (if closed then .opened else .closed)) :
    breakerTaken closed s = { countOperation (contactsConfirmed closed s) with bypass :=
      { (countOperation (contactsConfirmed closed s)).bypass with confirmed := if closed then .closed else .opened } } := by
  unfold breakerTaken
  dsimp only
  rw [if_pos h]
  rfl

theorem breakerTaken_of_notOther (closed : Bool) (h : s.bypass.confirmed ≠ (if closed then .opened else .closed)) :
    breakerTaken closed s = { contactsConfirmed closed s with bypass :=
      { (contactsConfirmed closed s).bypass with confirmed := if closed then .closed else .opened } } := by
  unfold breakerTaken
  dsimp only
  rw [if_neg h]
  rfl

theorem breakerTaken_keeps (closed : Bool) (s : State) :
    (breakerTaken closed s).stack = s.stack ∧ (breakerTaken closed s).line = s.line
      ∧ (breakerTaken closed s).bypass.recovery = s.bypass.recovery := by
  by_cases h : s.bypass.confirmed = (if closed then .opened else .closed)
  · rw [breakerTaken_of_other closed h]
    simp [contactsConfirmed]
  · rw [breakerTaken_of_notOther closed h]
    simp [contactsConfirmed]

/-- A closure in the recovery wait, or before JOINING has ended, is none that R134 speaks of. -/
theorem becomeClosed_of_expected (last : Confirmed) (hwithdrawal : s.hasWithdrawal = false)
    (h : s.bypass.recovery.isSome = true ∨ s.pastJoining = false) : becomeClosed last s = s := by
  have hexpected : (s.bypass.recovery.isNone && s.pastJoining) = false := by
    rcases h with h | h
    · simp [Option.isSome_iff_ne_none.mp h]
    · simp [h]
  unfold becomeClosed
  rw [withdrawal?_eq_none_iff.mpr hwithdrawal]
  simp [hexpected]

theorem becomeOpen_of_noWithdrawal (hwithdrawal : s.hasWithdrawal = false) :
    becomeOpen s = { s with bypass := { s.bypass with recovery := none } } := by
  unfold becomeOpen
  dsimp only
  rw [withdrawal?_eq_none_iff.mpr]
  exact hwithdrawal

theorem exec_breakerContactChange (cl op : Bool) (hchange : ¬(cl = s.pins.mbpCl ∧ op = s.pins.mbpOp)) (hrun : s.running = true) :
    exec (.breakerContactChange cl op) s = .next (finish s (moveBreaker cl op (pinsRead cl op s))) := by
  change execBreakerContactChange cl op s = _
  simp [execBreakerContactChange, hchange, hrun, pinsRead]

theorem exec_breakerContactChange_idle (cl op : Bool) (hchange : ¬(cl = s.pins.mbpCl ∧ op = s.pins.mbpOp)) (hrun : s.running = false) :
    exec (.breakerContactChange cl op) s = .next (pinsRead cl op s) := by
  change execBreakerContactChange cl op s = _
  simp [execBreakerContactChange, hchange, hrun, pinsRead]

theorem exec_breakerContactChange_same (cl op : Bool) (hsame : cl = s.pins.mbpCl ∧ op = s.pins.mbpOp) :
    exec (.breakerContactChange cl op) s = .next s := by
  change execBreakerContactChange cl op s = _
  simp [execBreakerContactChange, hsame]

/-! ## The counts (R138) -/

theorem countOperation_count (s : State) : (countOperation s).bypass.breakerCount = min 65535 (s.bypass.breakerCount + 1) := by
  unfold countOperation
  dsimp only
  split <;> simp [inc16, satAdd, markDirty, setPageState]

theorem countOperation_item (hroom : s.queue.items.length < 24)
    (hinterval : min 65535 (s.bypass.breakerCount + 1) = s.cfg.breakerInterval)
    (hrise : s.bypass.breakerCount < min 65535 (s.bypass.breakerCount + 1)) :
    HasItem .breakerService .breaker 2 (countOperation s) := by
  unfold countOperation
  rw [if_pos ⟨hinterval, hrise⟩]
  exact raiseItem_hasItem _ _ hroom (by decide)

theorem countTransfer_item (hroom : s.queue.items.length < 24)
    (hinterval : min 65535 (s.bypass.staticCount + 1) = s.cfg.staticInterval)
    (hrise : s.bypass.staticCount < min 65535 (s.bypass.staticCount + 1)) :
    HasItem .staticSwitchService .staticSwitch 2 (countTransfer s) := by
  unfold countTransfer
  rw [if_pos ⟨hinterval, hrise⟩]
  exact raiseItem_hasItem _ _ hroom (by decide)

/-- A count and its item are what the end of an event may change, but for the count itself. -/
theorem countTransfer_aftermath (s : State) :
    Aftermath { s with bypass := { s.bypass with staticCount := min 65535 (s.bypass.staticCount + 1) } } (countTransfer s) := by
  have hcount : (countTransfer s).bypass.staticCount = min 65535 (s.bypass.staticCount + 1) := by
    unfold countTransfer
    dsimp only
    split <;> simp [inc16, satAdd, markDirty, setPageState]
  rw [aftermath_iff]
  simp [hcount]

theorem breakerTaken_count (closed : Bool) (s : State) : (breakerTaken closed s).bypass.breakerCount
    = if s.bypass.confirmed = (if closed then .opened else .closed) then min 65535 (s.bypass.breakerCount + 1)
      else s.bypass.breakerCount := by
  by_cases h : s.bypass.confirmed = (if closed then .opened else .closed)
  · rw [breakerTaken_of_other closed h, if_pos h]
    exact countOperation_count _
  · rw [breakerTaken_of_notOther closed h, if_neg h]
    rfl

theorem breakerTaken_item (closed : Bool) (hlast : s.bypass.confirmed = (if closed then .opened else .closed))
    (hroom : s.queue.items.length < 24) (hinterval : min 65535 (s.bypass.breakerCount + 1) = s.cfg.breakerInterval)
    (hrise : s.bypass.breakerCount < min 65535 (s.bypass.breakerCount + 1)) :
    HasItem .breakerService .breaker 2 (breakerTaken closed s) := by
  rw [breakerTaken_of_other closed hlast]
  exact HasItem.of_items (countOperation_item (s := contactsConfirmed closed s) hroom hinterval hrise) rfl

/-! ## The static switch (R137) -/

theorem testBarred_of_bypLoad (hrun : u.running = true) (hload : u.pins.bypLoad = true) : testBarred (refresh u) = true := by
  have honBypass : (refresh u).monitor.active.onBypass = true := by
    change (u.running && u.pins.bypLoad) = true
    simp [hrun, hload]
  rw [testBarred, honBypass, Bool.or_true]

/-- The static switch has taken the load over, and the transfer is counted (R137, R138). -/
def loadRead (s : State) : State := countTransfer { s with pins := { s.pins with bypLoad := true } }

theorem exec_bypLoadChange_asserted (hchange : true ≠ s.pins.bypLoad) (hrun : s.running = true) :
    exec (.bypLoadChange true) s = .next (finish s (loadRead s)) := by
  change execBypLoadChange true s = _
  rw [execBypLoadChange, if_neg hchange]
  dsimp only
  rw [if_pos hrun]
  rfl

theorem exec_bypLoadChange_released (hchange : false ≠ s.pins.bypLoad) (hrun : s.running = true) :
    exec (.bypLoadChange false) s = .next (finish s { s with pins := { s.pins with bypLoad := false } }) := by
  change execBypLoadChange false s = _
  rw [execBypLoadChange, if_neg hchange]
  dsimp only
  rw [if_pos hrun]
  rfl

theorem loadRead_aftermath (s : State) : Aftermath { s with
    pins := { s.pins with bypLoad := true }
    bypass := { s.bypass with staticCount := min 65535 (s.bypass.staticCount + 1) } } (loadRead s) :=
  countTransfer_aftermath _

theorem loadRead_noTest (hrun : s.running = true) : (finish s (loadRead s)).hasTest = false := by
  refine finish_noTest_of_barred s (testBarred_of_bypLoad ?_ ?_)
  · simpa [loadRead, State.running] using hrun
  · simp [loadRead]

theorem loadRead_item (hnoTest : s.hasTest = false) (hroom : s.queue.items.length < 24)
    (hinterval : min 65535 (s.bypass.staticCount + 1) = s.cfg.staticInterval)
    (hrise : s.bypass.staticCount < min 65535 (s.bypass.staticCount + 1)) :
    HasItem .staticSwitchService .staticSwitch 2 (finish s (loadRead s)) := by
  have hstill : (loadRead s).hasTest = false := by
    rw [State.hasTest_congr (s := s) (by simp [loadRead])]
    exact hnoTest
  refine HasItem.of_items ?_ (congrArg WorkQueue.items (finish_queue_of_noTest s hstill))
  exact countTransfer_item (s := { s with pins := { s.pins with bypLoad := true } }) hroom hinterval hrise

end

/-- Settles O48: each contact change and level change ends in `finish` over the state that the effect names. -/
theorem breakerAndStaticSwitch : Obligations.BreakerAndStaticSwitch := by
  unfold Obligations.BreakerAndStaticSwitch
  refine ⟨fun cl op s => ⟨exec_breakerContactChange_same cl op, exec_breakerContactChange_idle cl op, fun hchange hrun =>
    ⟨_, exec_breakerContactChange cl op hchange hrun, ?_, ?_, ?_, ?_, ?_⟩⟩, fun closed s => ⟨breakerTaken_count closed s, ?_⟩,
    fun level s => ⟨fun hsame => ?_, fun hchange hrun => ?_, fun hchange hrun => ?_⟩⟩
  · rintro rfl htransit
    rw [moveBreaker_mixed, takeContacts_mixed_transit (s := pinsRead cl cl s) cl htransit]
    exact finish_after _ _
  · rintro rfl hdisagree
    rw [moveBreaker_mixed, takeContacts_mixed_disagree (s := pinsRead cl cl s) cl hdisagree]
    exact finish_after _ _
  · rintro rfl htransit hdisagree
    rw [moveBreaker_mixed, takeContacts_mixed (s := pinsRead cl cl s) cl htransit hdisagree]
    exact finish_after _ _
  · rintro rfl rfl hposition hwithdrawal hexpected
    obtain ⟨hstack, hline, hrecovery⟩ := breakerTaken_keeps true s
    have hnone : (breakerTaken true s).hasWithdrawal = false := by
      rw [State.hasWithdrawal, hstack]
      exact hwithdrawal
    have hpast : (breakerTaken true s).pastJoining = s.pastJoining := by
      simp [State.pastJoining, State.joined, hline]
    rw [moveBreaker_closed hposition, becomeClosed_of_expected _ hnone (by rw [hrecovery, hpast]; exact hexpected)]
    exact finish_after _ _
  · rintro rfl rfl hposition hwithdrawal
    obtain ⟨hstack, -, -⟩ := breakerTaken_keeps false s
    have hnone : (breakerTaken false s).hasWithdrawal = false := by
      rw [State.hasWithdrawal, hstack]
      exact hwithdrawal
    rw [moveBreaker_opened hposition, becomeOpen_of_noWithdrawal hnone]
    exact finish_after _ _
  · exact breakerTaken_item closed
  · change execBypLoadChange level s = _
    simp [execBypLoadChange, hsame]
  · change execBypLoadChange level s = _
    simp [execBypLoadChange, hchange, hrun]
  · cases level
    · have honBypass := finish_onBypass s { s with pins := { s.pins with bypLoad := false } }
      exact ⟨_, exec_bypLoadChange_released hchange hrun, by simpa using honBypass, fun _ => finish_after s _,
        fun h => absurd h (by decide)⟩
    · have honBypass := finish_onBypass s (loadRead s)
      have hactive : (finish s (loadRead s)).monitor.active.onBypass = true := by
        rw [honBypass]
        simpa [loadRead, State.running] using hrun
      have haftermath := Aftermath.trans (loadRead_aftermath s) (finish_aftermath s (loadRead s))
      exact ⟨_, exec_bypLoadChange_asserted hchange hrun, hactive, fun h => absurd h (by decide),
        fun _ => ⟨haftermath, loadRead_noTest hrun, loadRead_item⟩⟩

end Sys2Proof.Machine
end

section
/-! PROOFS. Where the statement on page writes fails: a listed page that is none of the eight has the place of one that is (R172,
R173). -/

namespace Sys2Proof.Machine

open Sys2Proof.Safety

/-- A write of the first queue page ends while the write list holds a string page of a fifth string. There is no such page, but the
place that `pageIndex` gives it is the first queue page's, and the statement asks nothing of the pages on the list. -/
def strayPageListed : State :=
  { State.reset with port := { State.reset.port with
      states := [.clean, .clean, .clean, .clean, .clean, .writing, .clean, .clean]
      list := [.string 4]
      writing := some { page := .queue 0, content := .queue [] } } }

/-- What the end of the write leaves: the stray page's write begins, and its state stands in the first queue page's place. -/
def strayPageWriting : State :=
  { strayPageListed with port := { strayPageListed.port with
      list := []
      writing := some { page := .string 4, content := .string lostStringPage }
      areas := [none, none, none, none, none, some (.queue []), none, none] } }

theorem memoryWriteDone_strayPage : exec .memoryWriteDone strayPageListed = .next strayPageWriting := by rfl

/-- Refutes O58: `pageIndex (.string 4)` is `pageIndex (.queue 0)`, so with page 4 of the strings on the write list the write of the
first queue page ends well and leaves that page's state WRITING, not CLEAN. -/
theorem not_hourAndPages : ¬ Obligations.HourAndPages := by
  unfold Obligations.HourAndPages
  rintro ⟨-, hdone, -, -⟩
  obtain ⟨t, hnext, -, -, hwritten, -⟩ :=
    hdone strayPageListed { page := .queue 0, content := .queue [] } rfl (by decide) rfl
  rw [memoryWriteDone_strayPage] at hnext
  obtain rfl : strayPageWriting = t := Host.Outcome.next.inj hnext
  obtain ⟨-, -, hclean⟩ := hwritten (by decide)
  exact absurd (hclean (by decide)) (by decide)

end Sys2Proof.Machine
end

section
/-! PROOFS. The end of an event that has no yield, abort or commit to make, and the end of one at a station without a test or a claim. -/

namespace Sys2Proof.Machine

open Sys2Proof.Safety

section
variable {s t u : State}

/-! ## What `finish` shows of `settle` -/

theorem finish_stack (before u : State) : (finish before u).stack = (settle u).stack := by simp [finish]

theorem finish_cond (before u : State) : (finish before u).cond = (settle u).cond := by simp [finish]

theorem finish_claims (before u : State) : (finish before u).claims = (settle u).claims := by simp [finish]

/-- Of the frames in the transmit queue, the announcement of a change takes none but a STATUS away. -/
theorem finish_mem_of_settle {f : TxFrame} (before : State) (hf : f ∈ (settle u).line.tx) (hclass : f.cls ≠ .status) :
    f ∈ (finish before u).line.tx := by
  unfold finish
  simp only [settlePort_keeps]
  unfold announceChange
  split
  · exact hf
  · exact queueStatus_mem hf hclass

/-! ## An event with nothing to yield, to abort or to commit -/

theorem yieldIfMust_of_not (h : mustYield s = false) : yieldIfMust s = s := by
  unfold yieldIfMust
  split
  · rfl
  · next c hown =>
    simp only [mustYield, hown, Bool.and_eq_false_iff, Bool.not_eq_false', Bool.or_eq_false_iff] at h
    rcases h with hholding | ⟨hrank, hfree⟩
    · simp [hholding]
    · simp [hrank, hfree]

/-- Nothing stands that a condition, the list or a check would end, and no commit is ready. -/
def Still (s : State) : Prop :=
  ConditionsFollow s ∧ Settled s ∧ (s.hasEqualize = true → s.monitor.active.stringHot = false)

theorem conditionAborts_of_still (h : Still s) : conditionAborts s = s := by
  obtain ⟨-, ⟨-, -, habides⟩, hequalize⟩ := h
  have htest : (s.hasTest && testBarred s) = false := by
    cases hs : s.hasTest with
    | false => rfl
    | true => exact (habides hs).1
  have hcool : (s.hasEqualize && s.monitor.active.stringHot) = false := by
    cases hs : s.hasEqualize with
    | false => rfl
    | true => exact hequalize hs
  simp [conditionAborts, htest, hcool]

theorem supportAbort_of_abides (h : TestAbides s) : supportAbort s = s := by
  have hsupports : (s.hasTest && !supports .test s s.id.station) = false := by
    cases hs : s.hasTest with
    | false => rfl
    | true => simp [(h hs).2]
  simp [supportAbort, hsupports]

theorem tryCommit_of_not (h : commitReady s = false) : tryCommit s = s := if_neg (by simp [h])

/-- The end of such an event takes the conditions anew and goes on to the owner of a withdrawal, a claim owed and the starts. -/
theorem settle_of_still (h : Still (refresh u)) :
    settle u = retakeConsent (startActivities (handOwedClaim (giveOwner (refresh u)))) := by
  obtain ⟨hfollow, ⟨hcommit, hyield, habides⟩, -⟩ := id h
  unfold settle
  simp only [yieldIfMust_of_not hyield, conditionAborts_of_still h, refresh_of_follows hfollow, supportAbort_of_abides habides,
    tryCommit_of_not hcommit]

theorem giveOwner_of_noWithdrawal (h : s.hasWithdrawal = false) : giveOwner s = s := by
  simp [giveOwner, ownerless, withdrawal?_eq_none_iff.mpr h]

theorem handOwedClaim_of_notClaiming (h : s.claiming = false) : handOwedClaim s = s := by
  unfold handOwedClaim
  split
  · rfl
  · next c hown =>
    have hholding : c.holding = true := by simpa [State.claiming, hown] using h
    simp [hholding]

/-! ## The starts that are held back (R50, R57, R60, R107) -/

/-- With a claim standing, or its spacing running, no test is claimed; a waiting one may be dropped (R61, R107). -/
theorem tryTest_of_busy (h : claimsIdle s = false) : tryTest s = s ∨ tryTest s = dropWaiting s := by
  rcases tryTest_cases s with ⟨hfresh, -⟩ | ⟨-, -, -, -, hnext⟩
  · have hwaiting : testNowFailure (dropWaiting s) ≠ 0 := testNowFailure_of_busy (s := dropWaiting s) h
    have htaken : takeWaiting s = s ∨ takeWaiting s = dropWaiting s := by
      unfold takeWaiting
      rw [if_neg hwaiting]
      split
      · exact .inr rfl
      · exact .inl rfl
    have hbusy : claimsIdle (takeWaiting s) = false := by rcases htaken with h' | h' <;> rw [h'] <;> exact h
    have hno : tryTest s = takeWaiting s := if_neg (by simp [testClaimReady, mayClaim_of_busy hbusy])
    rw [hno]
    exact htaken
  · exact hnext

theorem tryKey_of_busy (h : claimsIdle s = false) : tryKey s = s :=
  if_neg (by simp [keyClaimReady, mayClaim_of_busy h])

/-- With a claim standing, or its spacing running, the starts leave the claims and the transmit queue alone. -/
theorem startActivities_of_busy (h : claimsIdle s = false) :
    (startActivities s).claims = s.claims ∧ (startActivities s).line = s.line := by
  have hboth : (equalizeReady s && (testClaimReady s || waitingReady s)) = false := by
    have hwaiting : testNowFailure (dropWaiting s) ≠ 0 := testNowFailure_of_busy (s := dropWaiting s) h
    simp [testClaimReady, waitingReady, mayClaim_of_busy h, hwaiting]
  have hequalized : (tryEqualize s).claims = s.claims ∧ (tryEqualize s).line = s.line := by simp
  have htested : (tryTest (tryEqualize s)).claims = s.claims ∧ (tryTest (tryEqualize s)).line = s.line := by
    have hbusy : claimsIdle (tryEqualize s) = false := by simpa [claimsIdle] using h
    rcases tryTest_of_busy hbusy with hnext | hnext <;> rw [hnext] <;> exact hequalized
  have hbusy : claimsIdle (tryTest (tryEqualize s)) = false := by simpa [claimsIdle, htested] using h
  unfold startActivities
  dsimp only
  rw [if_neg (by simp [hboth]), tryKey_of_busy hbusy]
  exact htested

theorem tryEqualize_of_not (h : equalizeReady s = false) : tryEqualize s = s := if_neg (by simp [h])

/-- Where no equalize may start, the frames stay. -/
theorem startActivities_stack (h : equalizeReady s = false) : (startActivities s).stack = s.stack := by
  unfold startActivities
  dsimp only
  rw [if_neg (by simp [h]), tryEqualize_of_not h]
  simp

/-- While the settle flag is set, neither an equalize starts nor a test is claimed (R50). -/
theorem startActivities_of_settle (h : s.stack.settle = true) : startActivities s = tryKey s := by
  have hequalize : equalizeReady s = false := by simp [equalizeReady, h]
  have htaken : takeWaiting s = s := if_neg (by simp [h])
  have htest : tryTest s = s := by
    unfold tryTest
    dsimp only
    rw [htaken, if_neg (by simp [testClaimReady, mayClaim, h])]
  unfold startActivities
  dsimp only
  rw [if_neg (by simp [hequalize]), tryEqualize_of_not hequalize, htest]

/-- The starts of activities make no test wait. -/
theorem startActivities_waiting (h : s.cond.waiting = false) : (startActivities s).cond.waiting = false := by
  have htest (t : State) (ht : t.cond.waiting = false) : (tryTest t).cond.waiting = false := by
    have hsame : takeWaiting t = t := if_neg (by simp [ht])
    unfold tryTest
    dsimp only
    rw [hsame]
    split
    · simpa using ht
    · exact ht
  have hdrawn : ({ s with free := s.free + 1 } : State).cond.waiting = false := h
  have hequalize (t : State) (ht : t.cond.waiting = false) : (tryEqualize t).cond.waiting = false := by simpa using ht
  unfold startActivities
  dsimp only
  split
  · split
    · exact htest _ (hequalize _ hdrawn)
    · exact hequalize _ (htest _ hdrawn)
  · simpa using htest _ (hequalize _ h)

/-! ## A station without a test and without a claim (R45, R120) -/

theorem mustYield_of_noClaim (h : s.claims.own = none) : mustYield s = false := by simp [mustYield, h]

theorem commitReady_of_noClaim (h : s.claims.own = none) : commitReady s = false := by simp [commitReady, h]

/-- Before the starts, the end of an event at a station without a test and without a claim can do no more than abort an equalize. -/
theorem settle_of_unclaimed (htest : u.hasTest = false) (hown : u.claims.own = none) :
    ∃ v, (v = refresh u ∨ v = refresh (abortEqualize (refresh u))) ∧ settle u = retakeConsent (startActivities (giveOwner v)) := by
  have hyielded : yieldIfMust (refresh u) = refresh u := yieldIfMust_of_not (mustYield_of_noClaim hown)
  have htest' : (refresh u).hasTest = false := htest
  have hcleared (v : State) (hv : v.hasTest = false) (hclaim : v.claims.own = none) :
      handOwedClaim (giveOwner (refresh (tryCommit (refresh (supportAbort (refresh v)))))) = giveOwner (refresh v) := by
    have hv' : (refresh v).hasTest = false := hv
    have hsame : refresh (refresh v) = refresh v := refresh_of_follows (refresh_follows v)
    rw [supportAbort_of_abides (testAbides_of_noTest hv'), hsame,
      tryCommit_of_not (s := refresh v) (commitReady_of_noClaim hclaim), hsame]
    refine handOwedClaim_of_notClaiming ?_
    simp [State.claiming, hclaim]
  have haborted : conditionAborts (refresh u) = refresh u ∨ conditionAborts (refresh u) = abortEqualize (refresh u) := by
    unfold conditionAborts
    dsimp only
    rw [htest', Bool.false_and, if_neg Bool.false_ne_true]
    split
    · exact .inr rfl
    · exact .inl rfl
  unfold settle
  dsimp only
  rw [hyielded]
  rcases haborted with hnext | hnext
  · rw [hnext, hcleared (refresh u) htest hown, refresh_of_follows (refresh_follows u)]
    exact ⟨_, .inl rfl, rfl⟩
  · rw [hnext, hcleared (abortEqualize (refresh u)) ((abortEqualize_aborted (refresh u)).noTest htest) (by simpa using hown)]
    exact ⟨_, .inr rfl, rfl⟩

/-- What the end of an event keeps at a station without a test whose claim has ended: that no claim stands, its spacing, the schedule of the
tests and the accounts. -/
theorem finish_of_released (before : State) (htest : u.hasTest = false) (hown : u.claims.own = none)
    (hspacing : u.claims.spacing.isSome = true) :
    (finish before u).hasTest = false ∧ (finish before u).cond.testSecond = u.cond.testSecond ∧ (finish before u).claims.own = none
      ∧ (finish before u).claims.spacing = u.claims.spacing ∧ (finish before u).cond.testDue = u.cond.testDue
      ∧ (finish before u).cond.testLatch = u.cond.testLatch ∧ (finish before u).cond.overdueRaised = u.cond.overdueRaised
      ∧ (finish before u).accounts = u.accounts := by
  obtain ⟨haccounts, hdue⟩ := finish_of_noTest before htest
  obtain ⟨v, hv, hsettle⟩ := settle_of_unclaimed htest hown
  have hkept : v.hasTest = false ∧ v.claims = u.claims ∧ v.cond.testSecond = u.cond.testSecond ∧ v.cond.testLatch = u.cond.testLatch
      ∧ v.cond.overdueRaised = u.cond.overdueRaised := by
    rcases hv with rfl | rfl
    · exact ⟨htest, by simp⟩
    · exact ⟨(abortEqualize_aborted (refresh u)).noTest htest, by simp⟩
  obtain ⟨hvtest, hvclaims, hvsecond, hvlatch, hvoverdue⟩ := hkept
  have hbusy : claimsIdle (giveOwner v) = false := by
    simp [claimsIdle, hvclaims, hspacing]
  obtain ⟨hclaims, -⟩ := startActivities_of_busy hbusy
  refine ⟨finish_noTest_of_settle before ?_, ?_, ?_, ?_, hdue, ?_, ?_, haccounts⟩
  · have hready : (giveOwner v).hasTest = false := by rw [← dueView_hasTest, giveOwner_view, dueView_hasTest]; exact hvtest
    rw [hsettle]
    exact startActivities_noTest hready
  · simpa [finish_cond, hsettle] using hvsecond
  · simp [finish_claims, hsettle, hclaims, hvclaims, retakeConsent, hown]
  · simp [finish_claims, hsettle, hclaims, hvclaims, retakeConsent]
  · simpa [finish_cond, hsettle] using hvlatch
  · simpa [finish_cond, hsettle] using hvoverdue

end

end Sys2Proof.Machine
end

section
/-! PROOFS. The end of a test: its records, its schedule and the release of its claim (R45, R64 to R66). -/

namespace Sys2Proof.Machine

open Sys2Proof.Safety

section
variable {s t u : State} {f : TestFrame} {i : Nat} {a : Account} {result : TestResult}

/-! ## The test record of an account (R35) -/

/-- What an account holds of a string's last test: the result, the charge, the running hour and the measured capacity. -/
def Account.testRecord (a : Account) : TestResult × Nat × Nat × Nat := (a.lastTest, a.testCharge, a.testEndHour, a.measured)

/-- The test records of the strings. -/
def testRecords (s : State) : List (TestResult × Nat × Nat × Nat) := s.accounts.strings.map Account.testRecord

theorem recompute_testRecords (i : Nat) (s : State) : testRecords (recompute i s) = testRecords s :=
  recompute_map Account.testRecord (fun _ _ _ => rfl) i s

theorem testRecords_congr (h : t.accounts = s.accounts) : testRecords t = testRecords s := by rw [testRecords, h, testRecords]

theorem takeRecord_testRecords {qt : Nat} {measured : Option Nat} (ha : s.accounts.strings[i]? = some a) :
    testRecords (takeRecord i result qt measured s)
      = (testRecords s).set i (result, qt, s.clock.hours, measured.getD a.measured) := by
  unfold takeRecord
  rw [ha]
  dsimp only
  rw [recompute_testRecords]
  simp [testRecords, List.map_set, Account.testRecord]

/-- A record is taken from its own string alone. -/
theorem takeRecord_other {j qt : Nat} {measured : Option Nat} (hj : j ≠ i) :
    (testRecords (takeRecord j result qt measured s))[i]? = (testRecords s)[i]? := by
  cases ha : s.accounts.strings[j]? with
  | none => rw [show takeRecord j result qt measured s = s by simp [takeRecord, ha]]
  | some a => rw [takeRecord_testRecords ha, List.getElem?_set_ne hj]

theorem takeRecord_self {qt : Nat} {measured : Option Nat} {r : TestResult × Nat × Nat × Nat}
    (hr : (testRecords s)[i]? = some r) :
    (testRecords (takeRecord i result qt measured s))[i]? = some (result, qt, s.clock.hours, measured.getD r.2.2.2) := by
  obtain ⟨a, ha, rfl⟩ : ∃ a, s.accounts.strings[i]? = some a ∧ a.testRecord = r := by
    simpa [testRecords, List.getElem?_map, Option.map_eq_some_iff] using hr
  obtain ⟨hlt, -⟩ := List.getElem?_eq_some_iff.mp ha
  rw [takeRecord_testRecords ha, List.getElem?_set_self (by simpa [testRecords] using hlt)]
  rfl

/-- The charge that a TEST frame has counted for a string. -/
def countedCharge (qs : List TestString) (i : Nat) : Nat := (qs[i]?.map TestString.qt).getD 0

/-- The record that a test end takes of string `i`, which had measured `old` before. -/
def recordTaken (result : TestResult) (qs : List TestString) (s : State) (i old : Nat) : TestResult × Nat × Nat × Nat :=
  (result, countedCharge qs i, s.clock.hours, (measuredOf s.cfg i result (countedCharge qs i)).getD old)

/-- Every string's record is handed over once (R65 step 1, R66). -/
theorem handRecords_testRecords {r : TestResult × Nat × Nat × Nat} (hr : (testRecords s)[i]? = some r) :
    (testRecords (handRecords result f s))[i]? = some (recordTaken result f.strings s i r.2.2.2) := by
  have hlt : i < s.accounts.strings.length := by simpa [testRecords] using (List.getElem?_eq_some_iff.mp hr).1
  unfold handRecords
  refine foldl_once (index := id) (e := i) (P := fun t => t.clock = s.clock ∧ (testRecords t)[i]? = some r)
    (Q := fun t => (testRecords t)[i]? = some (recordTaken result f.strings s i r.2.2.2))
    (fun t j hj ⟨hclock, ht⟩ => ⟨by simpa using hclock, (takeRecord_other hj).trans ht⟩)
    (fun t ⟨hclock, ht⟩ => ?_) (fun t j hj ht => (takeRecord_other hj).trans ht) ?_ (List.mem_range.mpr hlt) ⟨rfl, hr⟩
  · rw [takeRecord_self ht, hclock]
    rfl
  · simpa using List.nodup_range

theorem concludeTest_accounts (result : TestResult) (f : TestFrame) (s : State) :
    (concludeTest result f s).accounts = (handRecords result f s).accounts := by
  cases result <;> simp [concludeTest]

/-! ## The end of the test that stands -/

theorem test?_of_frames (hframes : s.stack.frames = [.test f]) : s.test? = some f := by
  simp [State.test?, hframes, Frame.test?]

/-- What a test end leaves before its claim is released and the settle flag set. -/
def testConcluded (result : TestResult) (f : TestFrame) (s : State) : State :=
  concludeTest result f { takeOff Frame.isTest s with cond := { (takeOff Frame.isTest s).cond with testSecond := none } }

theorem endTest_of_frames (hframes : s.stack.frames = [.test f]) :
    endTest result s = setSettle (releaseClaim (testConcluded result f s)) := by
  unfold endTest
  rw [test?_of_frames hframes]
  rfl

theorem endTest_testRecords {r : TestResult × Nat × Nat × Nat} (hframes : s.stack.frames = [.test f])
    (hr : (testRecords s)[i]? = some r) :
    (testRecords (endTest result s))[i]? = some (recordTaken result f.strings s i r.2.2.2) := by
  have haccounts : (endTest result s).accounts = (testConcluded result f s).accounts := by simp [endTest_of_frames hframes]
  rw [testRecords_congr haccounts, testConcluded, testRecords_congr (concludeTest_accounts _ _ _)]
  exact handRecords_testRecords hr

theorem endTest_testSecond (hframes : s.stack.frames = [.test f]) : (endTest result s).cond.testSecond = none := by
  simp [endTest_of_frames hframes, testConcluded]

/-- The claim of a test that ends is released, and its spacing starts (R45, R119, R120). -/
theorem endTest_release (hframes : s.stack.frames = [.test f]) (hholding : s.holding = true) :
    (endTest result s).claims.own = none ∧ (endTest result s).claims.spacing = some 50 := by
  have hclaims : (testConcluded result f s).claims = s.claims := by simp [testConcluded]
  cases hown : s.claims.own with
  | none => simp [State.holding, hown] at hholding
  | some c =>
    have hholds : c.holding = true := by simpa [State.holding, hown] using hholding
    have hreleased : releaseClaim (testConcluded result f s) = endClaim c (testConcluded result f s) := by
      simp [releaseClaim, hclaims, hown, hholds]
    simp [endTest_of_frames hframes, hreleased, endClaim, seconds]

/-- A test that ends PASSED or ENDED moves its schedule on (R65). -/
theorem endTest_schedule (hframes : s.stack.frames = [.test f]) (hresult : result = .passed ∨ result = .ended) :
    (endTest result s).cond.testDue = nextDue s.clock.hours s.cfg.testInterval ∧ (endTest result s).cond.testLatch = false
      ∧ (endTest result s).cond.overdueRaised = false := by
  rcases hresult with rfl | rfl <;> simp [endTest_of_frames hframes, testConcluded, concludeTest, settleSchedule]

/-! ## The end of an event that ends a test -/

theorem exists_testRecord {r : TestResult × Nat × Nat × Nat} (h : (testRecords t)[i]? = some r) :
    ∃ b, t.accounts.strings[i]? = some b ∧ b.testRecord = r := by
  simpa [testRecords, List.getElem?_map, Option.map_eq_some_iff] using h

theorem nextDue_eq (hours interval : Nat) :
    nextDue hours interval = if interval = 0 then 0 else min 1000000 (hours + interval) := rfl

/-- An event has taken the records of a test that ended with a result, and has moved its schedule on and released its claim. -/
def TestConcluded (result : TestResult) (qs : List TestString) (s u : State) : Prop :=
  u.hasTest = false ∧ u.claims.own = none ∧ u.claims.spacing = some 50 ∧ u.cond.testSecond = none
    ∧ u.cond.testDue = nextDue s.clock.hours s.cfg.testInterval ∧ u.cond.testLatch = false ∧ u.cond.overdueRaised = false
    ∧ ∀ (i : Nat) (r : TestResult × Nat × Nat × Nat), (testRecords s)[i]? = some r →
      (testRecords u)[i]? = some (recordTaken result qs s i r.2.2.2)

theorem endTest_concluded (hframes : s.stack.frames = [.test f]) (hholding : s.holding = true)
    (hresult : result = .passed ∨ result = .ended) : TestConcluded result f.strings s (endTest result s) := by
  obtain ⟨hown, hspacing⟩ := endTest_release (result := result) hframes hholding
  obtain ⟨hdue, hlatch, hoverdue⟩ := endTest_schedule hframes hresult
  exact ⟨endTest_noTest _ _, hown, hspacing, endTest_testSecond hframes, hdue, hlatch, hoverdue,
    fun _ _ hr => endTest_testRecords hframes hr⟩

theorem recordTaken_measured {qs : List TestString} {old : Nat} (hresult : result = .passed ∨ result = .ended) :
    (measuredOf s.cfg i result (countedCharge qs i)).getD old = if result = .passed then 100
      else min 100 (countedCharge qs i * 100 / ((stringSettings s i).ratedAh * 36000 * s.cfg.testReference / 1000)) := by
  rcases hresult with rfl | rfl <;> rfl

/-- The end of the event keeps what the end of the test has left. -/
theorem finish_testEnded {qs : List TestString} (before : State) (hresult : result = .passed ∨ result = .ended)
    (h : TestConcluded result qs s u) : TestEnded result qs s (finish before u) := by
  obtain ⟨htest, hown, hspacing, hsecond, hdue, hlatch, hoverdue, hrecords⟩ := h
  obtain ⟨kTest, kSecond, kOwn, kSpacing, kDue, kLatch, kOverdue, kAccounts⟩ :=
    finish_of_released before htest hown (by simp [hspacing])
  refine ⟨kTest, kSecond.trans hsecond, kOwn, kSpacing.trans hspacing, kDue.trans (hdue.trans (nextDue_eq _ _)),
    kLatch.trans hlatch, kOverdue.trans hoverdue, fun i a ha => ?_⟩
  have hr : (testRecords s)[i]? = some a.testRecord := by simp [testRecords, List.getElem?_map, ha]
  obtain ⟨b, hb, hrecord⟩ := exists_testRecord (hrecords i _ hr)
  simp only [Account.testRecord, recordTaken, Prod.mk.injEq] at hrecord
  obtain ⟨hlast, hcharge, hhour, hmeasured⟩ := hrecord
  exact ⟨b, by rw [kAccounts]; exact hb, hlast, hcharge, hhour, hmeasured.trans (recordTaken_measured hresult)⟩

end

end Sys2Proof.Machine
end

section
/-! PROOFS. The run of a test: its second and its samples (R62 to R65). -/

namespace Sys2Proof.Machine

open Sys2Proof.Safety

section
variable {s t u : State} {f : TestFrame} {bs : List BurstString}

/-! ## A TEST frame that stands to the end of an event -/

/-- The own station is out of the set that would carry its load, so its own check does not read its energy (R97). -/
theorem supports_own_congr (k : ClaimKind) (hid : t.id = s.id) (hcfg : t.cfg = s.cfg) (hpeers : t.peers = s.peers)
    (hintake : t.intake = s.intake) (hmode : t.mode = s.mode) : supports k t t.id.station = supports k s s.id.station := by
  have hother : supports k { t with accounts := s.accounts } t.id.station = supports k s t.id.station :=
    supports_of_members (t := { t with accounts := s.accounts }) (s := s) (members_congr hid hcfg hpeers hintake rfl hmode) hcfg k _
  have hremaining : remainingSet t t.id.station = remainingSet { t with accounts := s.accounts } t.id.station := by
    unfold remainingSet onlineSet members
    simp only [List.filter_cons]
    have hown (v : State) : ((ownMember v).station != v.id.station) = false := by simp [ownMember]
    have hmode' : (ownMember { t with accounts := s.accounts }).online = (ownMember t).online := rfl
    rw [hmode']
    split
    · simp [ownMember]
      rfl
    · rfl
  rw [← hid, ← hother]
  unfold supports firstFailure
  dsimp only
  rw [hremaining]
  rfl

theorem claiming_of_holding (h : s.holding = true) : s.claiming = false := by
  unfold State.holding at h
  unfold State.claiming
  split at h
  · next c _ => simp [h]
  · cases h

/-- A TEST frame alone does not show in the mode (R49). -/
theorem mode_of_testing {g : TestFrame} (hs : s.stack.frames = [.test f]) (ht : t.stack.frames = [.test g]) (hpins : t.pins = s.pins)
    (hline : t.line.state = s.line.state) : t.mode = s.mode := by
  have hwithdrawal : t.hasWithdrawal = s.hasWithdrawal := by simp [State.hasWithdrawal, hs, ht, Frame.isWithdrawal]
  have hdischarge : t.hasDischarge = s.hasDischarge := by simp [State.hasDischarge, hs, ht, Frame.isDischarge]
  rw [State.mode, State.mode, hwithdrawal, hdischarge, hpins, hline]

/-- A TEST frame that no condition and no check aborts is there after the event, with its timer and its claim. -/
theorem finish_of_testing (before : State) (hframes : u.stack.frames = [.test f]) (hholding : u.holding = true)
    (hbarred : testBarred (refresh u) = false) (hsupports : supports .test u u.id.station = true) :
    (finish before u).stack.frames = [.test f] ∧ (finish before u).cond.testSecond = u.cond.testSecond
      ∧ (finish before u).claims.own = u.claims.own := by
  have hclaiming : (refresh u).claiming = false := claiming_of_holding hholding
  have hsupports' : supports .test (refresh u) (refresh u).id.station = true := by
    rw [supports_own_congr (t := refresh u) (s := u) .test rfl rfl rfl rfl rfl]
    exact hsupports
  have hstill : Still (refresh u) :=
    ⟨refresh_follows u, settled_of_notClaiming hclaiming fun _ => ⟨hbarred, hsupports'⟩, fun h => by
      simp [State.hasEqualize, hframes, Frame.isEqualize] at h⟩
  have hnoWithdrawal : (refresh u).hasWithdrawal = false := by simp [State.hasWithdrawal, hframes, Frame.isWithdrawal]
  have hbusy : claimsIdle (refresh u) = false := by
    cases hown : u.claims.own with
    | none => simp [State.holding, hown] at hholding
    | some c => simp [claimsIdle, hown]
  have hequalize : equalizeReady (refresh u) = false := by simp [equalizeReady, State.stackEmpty, hframes]
  have hsettle : settle u = retakeConsent (startActivities (refresh u)) := by
    rw [settle_of_still hstill, giveOwner_of_noWithdrawal hnoWithdrawal, handOwedClaim_of_notClaiming hclaiming]
  refine ⟨?_, ?_, ?_⟩
  · simp [finish_stack, hsettle, startActivities_stack hequalize, hframes]
  · simp [finish_cond, hsettle]
  · simp [finish_claims, hsettle, retakeConsent, (startActivities_of_busy hbusy).1]

/-! ## The second of a test (R62, R64) -/

theorem ageTest_frames (hframes : s.stack.frames = [.test f]) :
    (ageTest s).stack.frames = [.test { f with elapsed := f.elapsed + 1 }] := by
  simp [ageTest, hframes]

theorem limitReached_of_frames (hframes : s.stack.frames = [.test f]) :
    limitReached s = decide (s.cfg.testLimit * 60 ≤ f.elapsed) := by
  simp [limitReached, test?_of_frames hframes]

/-- The test's second with its timer started again. -/
def testAged (s : State) : State := ageTest { s with cond := { s.cond with testSecond := some 10 } }

theorem testAged_frames (hframes : s.stack.frames = [.test f]) :
    (testAged s).stack.frames = [.test { f with elapsed := f.elapsed + 1 }] := ageTest_frames hframes

theorem testAged_aftermath (s : State) : Aftermath { s with cond := { s.cond with testSecond := some 10 } } (testAged s) := by
  rw [aftermath_iff]
  simp [testAged]

theorem exec_testSecondTimerExpiry (hframes : s.stack.frames = [.test f]) (htimer : s.cond.testSecond.isSome = true) :
    exec .testSecondTimerExpiry s = .next (finish s (if s.cfg.testLimit * 60 ≤ f.elapsed + 1
      then endTest .ended (testAged s) else testAged s)) := by
  have hlimit : limitReached (testAged s) = decide (s.cfg.testLimit * 60 ≤ f.elapsed + 1) := by
    rw [limitReached_of_frames (testAged_frames hframes)]
    simp [testAged]
  have hsecond : testSecond { s with cond := { s.cond with testSecond := some 10 } }
      = if s.cfg.testLimit * 60 ≤ f.elapsed + 1 then endTest .ended (testAged s) else testAged s := by
    change (if limitReached (testAged s) then endTest .ended (testAged s) else testAged s) = _
    rw [hlimit]
    simp
  change execTestSecondTimerExpiry s = _
  rw [← hsecond]
  simp [execTestSecondTimerExpiry, Option.isSome_iff_ne_none.mp htimer, seconds]

theorem testAged_holding (s : State) : (testAged s).holding = s.holding := by simp [State.holding, testAged]

/-- A second below the limit leaves the test running, one second older. -/
theorem testSecond_runs (before : State) (hframes : s.stack.frames = [.test f]) (hholding : s.holding = true) (hstands : TestStands s) :
    (finish before (testAged s)).stack.frames = [.test { f with elapsed := f.elapsed + 1 }]
      ∧ (finish before (testAged s)).cond.testSecond = some 10 ∧ (finish before (testAged s)).claims.own = s.claims.own := by
  obtain ⟨hfollow, hbarred, hsupports⟩ := hstands
  have hbarred' : testBarred (refresh (testAged s)) = false := by
    rw [testBarred_refresh_congr (s := s) (by simp [testAged]) (by simp [testAged]) (by simp [testAged]) (by simp [testAged]),
      refresh_of_follows hfollow]
    exact hbarred
  have hsupports' : supports .test (testAged s) (testAged s).id.station = true := by
    rw [supports_own_congr (s := s) .test (by simp [testAged]) (by simp [testAged]) (by simp [testAged]) (by simp [testAged])
      (mode_of_testing hframes (testAged_frames hframes) (by simp [testAged]) (by simp [testAged]))]
    exact hsupports
  obtain ⟨kframes, ksecond, kown⟩ := finish_of_testing before (testAged_frames hframes) (by rw [testAged_holding]; exact hholding)
    hbarred' hsupports'
  exact ⟨kframes, by rw [ksecond]; simp [testAged], by rw [kown]; simp [testAged]⟩

/-- The records that a test end takes are those of the state before the event, where its part up to the end has left them alone. -/
theorem TestConcluded.of_before {result : TestResult} {qs : List TestString} (h : TestConcluded result qs t u)
    (hrecords : testRecords t = testRecords s) (hclock : t.clock = s.clock) (hcfg : t.cfg = s.cfg) :
    TestConcluded result qs s u := by
  unfold TestConcluded recordTaken at *
  rw [hrecords, hclock, hcfg] at h
  exact h

theorem testSecond_ends (before : State) (hframes : s.stack.frames = [.test f]) (hholding : s.holding = true) :
    Aftermath s (finish before (endTest .ended (testAged s)))
      ∧ TestEnded .ended f.strings s (finish before (endTest .ended (testAged s))) := by
  have hended := endTest_concluded (result := .ended) (testAged_frames hframes) (by rw [testAged_holding]; exact hholding) (.inr rfl)
  have hs := hended.of_before (s := s) (testRecords_congr (by simp [testAged])) (by simp [testAged]) (by simp [testAged])
  refine ⟨?_, finish_testEnded before (.inr rfl) hs⟩
  have haftermath : Aftermath s (endTest .ended (testAged s)) := by
    rw [aftermath_iff]
    simp [testAged]
  exact Aftermath.trans haftermath (finish_aftermath before _)

end

end Sys2Proof.Machine
end

section
/-! PROOFS. The samples of a test (R9, R63). -/

namespace Sys2Proof.Machine

open Sys2Proof.Safety

section
variable {s t u v : State} {f : TestFrame} {bs : List BurstString} {result : TestResult} {qs : List TestString}

/-! ## The sample at the accounts leaves the test records alone (R20 to R25) -/

theorem sampledAccount_testRecord (threshold : Nat) (current : Int) (a : Account) :
    (sampledAccount threshold current a).testRecord = a.testRecord := by
  unfold sampledAccount
  split
  · split <;> rfl
  · rfl

theorem endedAccount_testRecord (cfg : Settings) (cap q : Nat) (a : Account) :
    (endedAccount cfg cap q a).testRecord = a.testRecord := by
  unfold endedAccount addWear
  dsimp only
  split <;> rfl

theorem setAccount_testRecords {i : Nat} {a b : Account} (ha : s.accounts.strings[i]? = some a)
    (hb : b.testRecord = a.testRecord) : testRecords (setAccount i b s) = testRecords s :=
  map_set_same Account.testRecord ha hb

theorem endEvent_testRecords {i : Nat} {a b : Account} (ha : s.accounts.strings[i]? = some a)
    (hb : b.testRecord = a.testRecord) : testRecords (endEvent i b s) = testRecords s := by
  have hset : testRecords (setAccount i (endedAccount s.cfg (capOf (stringSettings s i)) b.charge b) s) = testRecords s :=
    setAccount_testRecords ha ((endedAccount_testRecord _ _ _ _).trans hb)
  have hasked (w : State) : testRecords (askWrite (.string i) w) = testRecords w := testRecords_congr (by simp)
  have hlatched (l : EqualizeLatch) (w : State) : testRecords (setLatch l w) = testRecords w := rfl
  have hdirty (w : State) : testRecords (markDirty (.string i) w) = testRecords w := rfl
  unfold endEvent
  dsimp only
  rw [hasked]
  (repeat' split) <;> simp only [hlatched, recompute_testRecords, hdirty, hset]

theorem sampleString_testRecords (i : Nat) (current : Int) (s : State) :
    testRecords (sampleString i current s) = testRecords s := by
  unfold sampleString
  split
  · rfl
  · next a ha =>
    dsimp only
    split
    · exact endEvent_testRecords ha (sampledAccount_testRecord _ _ _)
    · exact setAccount_testRecords ha (sampledAccount_testRecord _ _ _)

theorem sampleAccounts_testRecords (bs : List BurstString) (s : State) : testRecords (sampleAccounts bs s) = testRecords s :=
  foldl_inv (P := fun t => testRecords t = testRecords s) _ (fun _ _ ht => (sampleString_testRecords _ _ _).trans ht) _ _ rfl

/-! ## The sample at the TEST frame (R63) -/

theorem endVoltageMet_iff : endVoltageMet s.cfg bs = true
    ↔ ∃ (i : Nat) (b : BurstString), bs[i]? = some b ∧ b.voltage ≤ (stringSettings s i).endVoltage := by
  simp only [endVoltageMet, List.any_eq_true, decide_eq_true_eq, Prod.exists, List.mem_zipIdx_iff_getElem?]
  exact exists_comm

theorem changeTest_frames (hframes : s.stack.frames = [.test f]) (qs : List TestString) :
    (changeTest qs s).stack.frames = [.test { f with strings := qs }] := by
  simp [changeTest, hframes]

/-- What a sample makes of the test that stands: it ends PASSED or ENDED, or goes on (R63). -/
theorem sampleTest_of_frames (hframes : s.stack.frames = [.test f]) (bs : List BurstString) :
    sampleTest bs s = if (afterSample s.cfg bs f.strings).all TestString.reached
        then endTest .passed (changeTest (afterSample s.cfg bs f.strings) s)
      else if endVoltageMet s.cfg bs then endTest .ended (changeTest (afterSample s.cfg bs f.strings) s)
      else changeTest (afterSample s.cfg bs f.strings) s := by
  unfold sampleTest
  rw [test?_of_frames hframes]
  rfl

/-- How the sample leaves the test of `s`: concluded, or going on with what it has counted. -/
def TestSampled (bs : List BurstString) (f : TestFrame) (s u : State) : Prop :=
  let qs := afterSample s.cfg bs f.strings
  (qs.all TestString.reached = true → TestConcluded .passed qs s u)
    ∧ (qs.all TestString.reached = false → endVoltageMet s.cfg bs = true → TestConcluded .ended qs s u)
    ∧ (qs.all TestString.reached = false → endVoltageMet s.cfg bs = false → u.stack.frames = [.test { f with strings := qs }]
      ∧ u.cond.testSecond = s.cond.testSecond ∧ u.claims.own = s.claims.own)

theorem sampleTest_sampled (hframes : s.stack.frames = [.test f]) (hholding : s.holding = true) :
    TestSampled bs f s (sampleTest bs s) := by
  have hchanged := changeTest_frames hframes (afterSample s.cfg bs f.strings)
  have hholds : (changeTest (afterSample s.cfg bs f.strings) s).holding = true := by simpa [State.holding] using hholding
  have hconcluded {result : TestResult} (hresult : result = .passed ∨ result = .ended) :
      TestConcluded result (afterSample s.cfg bs f.strings) s (endTest result (changeTest (afterSample s.cfg bs f.strings) s)) :=
    (endTest_concluded hchanged hholds hresult).of_before (testRecords_congr (by simp)) (by simp) (by simp)
  rw [sampleTest_of_frames hframes]
  refine ⟨fun hall => ?_, fun hsome hmet => ?_, fun hsome hunmet => ?_⟩
  · rw [if_pos hall]
    exact hconcluded (.inl rfl)
  · rw [if_neg (by simp [hsome]), if_pos hmet]
    exact hconcluded (.inr rfl)
  · rw [if_neg (by simp [hsome]), if_neg (by simp [hunmet])]
    exact ⟨hchanged, by simp, by simp⟩

/-! ## What the other receivers of the sample leave alone -/

/-- From `u` to `v` neither a claim nor the tests' schedule nor a test record has changed, and no test has begun. -/
def BesideTest (u v : State) : Prop :=
  v.claims = u.claims ∧ v.cond.testSecond = u.cond.testSecond ∧ v.cond.testDue = u.cond.testDue
    ∧ v.cond.testLatch = u.cond.testLatch ∧ v.cond.overdueRaised = u.cond.overdueRaised ∧ testRecords v = testRecords u
    ∧ (u.hasTest = false → v.hasTest = false)
    ∧ (∀ f, u.stack.frames = [.test f] → v.stack.frames = [.test f])

theorem BesideTest.trans {w : State} (h : BesideTest u v) (k : BesideTest v w) : BesideTest u w := by
  obtain ⟨hclaims, hsecond, hdue, hlatch, hoverdue, hrecords, htest, hframes⟩ := h
  obtain ⟨kclaims, ksecond, kdue, klatch, koverdue, krecords, ktest, kframes⟩ := k
  exact ⟨kclaims.trans hclaims, ksecond.trans hsecond, kdue.trans hdue, klatch.trans hlatch, koverdue.trans hoverdue,
    krecords.trans hrecords, fun h => ktest (htest h), fun f h => kframes f (hframes f h)⟩

theorem sampleHot_beside (bs : List BurstString) (s : State) : BesideTest s (sampleHot bs s) :=
  ⟨rfl, rfl, rfl, rfl, rfl, rfl, id, fun _ => id⟩

theorem sampleAccounts_beside (bs : List BurstString) (s : State) : BesideTest s (sampleAccounts bs s) :=
  ⟨by simp, by simp, by simp, by simp, by simp, sampleAccounts_testRecords bs s, fun h => by simpa [State.hasTest] using h,
    fun f h => by simpa using h⟩

theorem startBeforeAccounts_of_testing (hframes : s.stack.frames = [.test f]) : startBeforeAccounts bs s = s := by
  unfold startBeforeAccounts
  rw [if_neg]
  simp [equalizeReady, State.stackEmpty, hframes]

theorem startBeforeAccounts_beside (bs : List BurstString) (s : State) : BesideTest s (startBeforeAccounts bs s) := by
  refine ⟨by simp, by simp, by simp, by simp, by simp, testRecords_congr (by simp), fun h => ?_, fun f h => ?_⟩
  · have hdrawn : ({ s with free := s.free + 1 } : State).hasTest = false := h
    unfold startBeforeAccounts
    dsimp only
    split
    · split
      · exact hdrawn
      · exact startEqualize_noTest hdrawn
    · exact h
  · rw [startBeforeAccounts_of_testing h]
    exact h

theorem TestConcluded.beside (h : TestConcluded result qs s u) (k : BesideTest u v) : TestConcluded result qs s v := by
  obtain ⟨htest, hown, hspacing, hsecond, hdue, hlatch, hoverdue, hrecords⟩ := h
  obtain ⟨kclaims, ksecond, kdue, klatch, koverdue, krecords, ktest, -⟩ := k
  exact ⟨ktest htest, by rw [kclaims]; exact hown, by rw [kclaims]; exact hspacing, ksecond.trans hsecond, kdue.trans hdue,
    klatch.trans hlatch, koverdue.trans hoverdue, fun i r hr => by rw [krecords]; exact hrecords i r hr⟩

theorem TestSampled.beside (h : TestSampled bs f s u) (k : BesideTest u v) : TestSampled bs f s v := by
  obtain ⟨hpassed, hended, hgoes⟩ := h
  refine ⟨fun hall => (hpassed hall).beside k, fun hsome hmet => (hended hsome hmet).beside k, fun hsome hunmet => ?_⟩
  obtain ⟨hframes, hsecond, hown⟩ := hgoes hsome hunmet
  obtain ⟨kclaims, ksecond, -, -, -, -, -, kframes⟩ := k
  exact ⟨kframes _ hframes, ksecond.trans hsecond, by rw [kclaims]; exact hown⟩

/-- The test that is sampled may be taken from the state before the accounts took the sample. -/
theorem TestSampled.of_before (h : TestSampled bs f t u) (k : BesideTest s t) (hclock : t.clock = s.clock) (hcfg : t.cfg = s.cfg) :
    TestSampled bs f s u := by
  obtain ⟨kclaims, ksecond, -, -, -, krecords, -, -⟩ := k
  unfold TestSampled at *
  rw [hcfg, ksecond, kclaims] at h
  obtain ⟨hpassed, hended, hgoes⟩ := h
  exact ⟨fun hall => (hpassed hall).of_before krecords hclock hcfg,
    fun hsome hmet => (hended hsome hmet).of_before krecords hclock hcfg, hgoes⟩

/-! ## The sample at its receivers (R9) -/

/-- What bars the test of a sample does not read the accounts. -/
theorem barsTest_congr (hid : t.id = s.id) (hcfg : t.cfg = s.cfg) (hpeers : t.peers = s.peers) (hintake : t.intake = s.intake)
    (hmonitor : t.monitor = s.monitor) (hmode : t.mode = s.mode) : barsTest bs t = barsTest bs s := by
  have hhot : becomesHot bs t = becomesHot bs s := by simp only [becomesHot, sampleHot, hmonitor, hcfg]
  rw [barsTest, barsTest, hhot, supports_own_congr .test hid hcfg hpeers hintake hmode]

theorem sampleAccounts_barsTest (bs : List BurstString) (s : State) : barsTest bs (sampleAccounts bs s) = barsTest bs s :=
  barsTest_congr (by simp) (by simp) (by simp) (by simp) (by simp) (State.mode_congr (by simp) (by simp) (by simp))

theorem sampleTestAndHot_sampled (hframes : s.stack.frames = [.test f]) (hholding : s.holding = true)
    (hbars : barsTest bs s = false) : TestSampled bs f s (sampleTestAndHot bs s) := by
  have hnext : sampleTestAndHot bs s = sampleHot bs (sampleTest bs s) := if_neg (by simp [hbars])
  rw [hnext]
  exact (sampleTest_sampled hframes hholding).beside (sampleHot_beside bs _)

/-- The test takes the sample, whichever of the receivers comes first. -/
theorem sampleReceivers_sampled (hframes : s.stack.frames = [.test f]) (hholding : s.holding = true)
    (hbars : barsTest bs s = false) : TestSampled bs f s (sampleReceivers bs s) := by
  have hafter (w : State) (hw : w.stack.frames = [.test f]) (hholds : w.holding = true) (hbarsw : barsTest bs w = false) :
      TestSampled bs f w (sampleTestAndHot bs (sampleAccounts bs w)) := by
    have hbeside := sampleAccounts_beside bs w
    have hkept : (sampleAccounts bs w).holding = true := by simpa [State.holding] using hholds
    have hbarred : barsTest bs (sampleAccounts bs w) = false := (sampleAccounts_barsTest bs w).trans hbarsw
    refine (sampleTestAndHot_sampled ?_ hkept hbarred).of_before hbeside (by simp) (by simp)
    simpa using hw
  have hbarsdrawn : barsTest bs { s with free := s.free + 1 } = false :=
    (barsTest_congr rfl rfl rfl rfl rfl rfl).trans hbars
  unfold sampleReceivers
  dsimp only
  split
  · split
    · exact (sampleTestAndHot_sampled (s := { s with free := s.free + 1 }) hframes hholding hbarsdrawn).beside
        ((startBeforeAccounts_beside bs _).trans (sampleAccounts_beside bs _))
    · exact hafter { s with free := s.free + 1 } hframes hholding hbarsdrawn
  · rw [startBeforeAccounts_of_testing hframes]
    exact hafter s hframes hholding hbars

/-! ## An accepted burst over a test -/

/-- The part as the burst's held values leave it. -/
def burstHeld (load : Nat) (bs : List BurstString) (s : State) : State := { s with intake := takeBurst load bs s.intake }

/-- A TEST frame leaves nothing to start, to commit or to abort before the sample. -/
theorem acceptBurst_of_testing (load : Nat) (hframes : s.stack.frames = [.test f]) :
    acceptBurst load bs s = finish s (sampleReceivers bs (burstHeld load bs s)) := by
  have habort : abortBeforeSample bs (burstHeld load bs s) = burstHeld load bs s :=
    if_neg (by simp [State.hasEqualize, burstHeld, hframes, Frame.isEqualize])
  have hcommit : commitBeforeSample bs (burstHeld load bs s) = burstHeld load bs s :=
    if_neg (by simp [commitsTest, State.stackEmpty, burstHeld, hframes])
  unfold acceptBurst
  dsimp only
  rw [← burstHeld, habort, hcommit]

theorem readings_usable (h : (s.intake.readings.any fun r => r.tempState == .lost) = false) (load : Nat) (bs : List BurstString) :
    ((takeBurst load bs s.intake).readings.any fun r => r.tempState == .lost) = false := by
  rw [List.any_eq_false] at h ⊢
  intro r hr
  obtain ⟨b, r', -, hr', rfl⟩ : ∃ b r', b ∈ bs ∧ r' ∈ s.intake.readings ∧ takeReading b r' = r := by
    have hr : r ∈ List.zipWith takeReading bs s.intake.readings := hr
    rw [← List.map_uncurry_zip_eq_zipWith, List.mem_map] at hr
    obtain ⟨⟨b, r'⟩, hmem, heq⟩ := hr
    exact ⟨b, r', (List.of_mem_zip hmem).1, (List.of_mem_zip hmem).2, heq⟩
  have hold := h r' hr'
  unfold takeReading
  dsimp only
  split
  · decide
  · exact hold

/-- A test that stood and that the sample does not bar stands on after it. -/
theorem testBarred_after_sample (load : Nat) (hrun : s.running = true) (hstands : TestStands s)
    (hcool : becomesHot bs (burstHeld load bs s) = false) : testBarred (refresh (sampleReceivers bs (burstHeld load bs s))) = false := by
  obtain ⟨hfollow, hbarred, -⟩ := hstands
  rw [← refresh_of_follows hfollow] at hbarred
  simp only [testBarred, refresh_active, followed, hrun, Bool.or_eq_false_iff, Bool.true_and] at hbarred
  obtain ⟨⟨⟨hhot, hlost⟩, -⟩, hload⟩ := hbarred
  have hhot' : (sampleReceivers bs (burstHeld load bs s)).monitor.hot.any id = false := by
    rw [sampleReceivers_hot]
    simpa [becomesHot, sampleHot, burstHeld, hhot] using hcool
  have hlost' := readings_usable (s := s) hlost load bs
  have hpins : (sampleReceivers bs (burstHeld load bs s)).pins = s.pins := by simp [burstHeld]
  have hintake : (sampleReceivers bs (burstHeld load bs s)).intake = takeBurst load bs s.intake := by simp [burstHeld]
  simp only [testBarred, refresh_active, followed, hhot', hpins, hintake, hlost', hload, Bool.and_false, Bool.or_false]
  rfl

theorem sampled_runs (before : State) (load : Nat) (hframes : s.stack.frames = [.test f]) (hholding : s.holding = true)
    (hrun : s.running = true) (hstands : TestStands s) (hbars : barsTest bs (burstHeld load bs s) = false)
    (hgoes : (sampleReceivers bs (burstHeld load bs s)).stack.frames = [.test { f with strings := qs }])
    (hown : (sampleReceivers bs (burstHeld load bs s)).claims.own = s.claims.own) :
    (finish before (sampleReceivers bs (burstHeld load bs s))).stack.frames = [.test { f with strings := qs }]
      ∧ (finish before (sampleReceivers bs (burstHeld load bs s))).cond.testSecond
        = (sampleReceivers bs (burstHeld load bs s)).cond.testSecond
      ∧ (finish before (sampleReceivers bs (burstHeld load bs s))).claims.own = s.claims.own := by
  rw [barsTest, Bool.or_eq_false_iff, Bool.not_eq_false'] at hbars
  obtain ⟨hcool, hsupports⟩ := hbars
  have hsupports' : supports .test (sampleReceivers bs (burstHeld load bs s)) (sampleReceivers bs (burstHeld load bs s)).id.station
      = true := by
    rw [supports_own_congr (s := burstHeld load bs s) .test (by simp) (by simp) (by simp) (by simp)
      (mode_of_testing (s := burstHeld load bs s) hframes hgoes (by simp) (by simp))]
    exact hsupports
  have hholds : (sampleReceivers bs (burstHeld load bs s)).holding = true := by
    rw [State.holding, hown]
    exact hholding
  obtain ⟨kframes, ksecond, kown⟩ := finish_of_testing before hgoes hholds (testBarred_after_sample load hrun hstands hcool) hsupports'
  exact ⟨kframes, ksecond, kown.trans hown⟩

end

/-- Settles O29: the second and the sample leave the test concluded, or standing with what it has counted, and the end of the event keeps
both. -/
theorem testRunIsCounted : Obligations.TestRunIsCounted := by
  unfold Obligations.TestRunIsCounted
  intro s f hframes hholding
  refine ⟨fun htimer => ⟨fun hbelow hstands => ?_, fun hlimit => ?_⟩, fun bytes load bs hrun hcheck _ hbars => ?_⟩
  · have hexec := exec_testSecondTimerExpiry hframes htimer
    rw [if_neg (by omega)] at hexec
    obtain ⟨kframes, ksecond, kown⟩ := testSecond_runs s hframes hholding hstands
    exact ⟨_, hexec, Aftermath.trans (testAged_aftermath s) (finish_aftermath s (testAged s)), kframes, ksecond, kown⟩
  · have hexec := exec_testSecondTimerExpiry hframes htimer
    rw [if_pos hlimit] at hexec
    exact ⟨_, hexec, testSecond_ends s hframes hholding⟩
  · have hbars' : barsTest bs (burstHeld load bs s) = false := (sampleAccounts_barsTest bs (burstHeld load bs s)).symm.trans hbars
    have hsampled := (sampleReceivers_sampled (s := burstHeld load bs s) hframes hholding hbars').of_before (s := s)
      ⟨rfl, rfl, rfl, rfl, rfl, rfl, id, fun _ => id⟩ rfl rfl
    have hexec := exec_measurementBurst_of_accepted hrun (by decide) hcheck
    rw [acceptBurst_of_testing load hframes] at hexec
    obtain ⟨hpassed, hended, hgoes⟩ := hsampled
    have hnotAll (hsome : ¬∀ q ∈ afterSample s.cfg bs f.strings, q.reached = true) :
        (afterSample s.cfg bs f.strings).all TestString.reached = false := by
      rw [← Bool.not_eq_true, List.all_eq_true]
      exact hsome
    refine ⟨_, hexec, fun hall => ?_, fun hsome hspent => ?_, fun hsome hunspent hstands => ?_⟩
    · exact finish_testEnded s (.inl rfl) (hpassed (List.all_eq_true.mpr hall))
    · exact finish_testEnded s (.inr rfl) (hended (hnotAll hsome) (endVoltageMet_iff.mpr hspent))
    · have hunmet : endVoltageMet s.cfg bs = false := by
        rw [← Bool.not_eq_true, endVoltageMet_iff]
        exact hunspent
      obtain ⟨hframes', hsecond, hown⟩ := hgoes (hnotAll hsome) hunmet
      obtain ⟨kframes, ksecond, kown⟩ := sampled_runs s load hframes hholding hrun hstands hbars' hframes' hown
      exact ⟨kframes, ksecond.trans hsecond, kown⟩

end Sys2Proof.Machine
end

section
/-! PROOFS. TEST_NOW, EQUALIZE_NOW and STOP (R56, R57, R59, R61, R66, R68). -/

namespace Sys2Proof.Machine

open Sys2Proof.Safety

/-! ## What a served request hands to the end of its event -/

section
variable {s u v w : State}

/-- Beside the queues and the pages nothing differs. -/
theorem BesideQueues.rest (h : BesideQueues u v) :
    v.pins = u.pins ∧ v.id = u.id ∧ v.intake = u.intake ∧ v.peers = u.peers ∧ v.claims = u.claims ∧ v.bypass = u.bypass
      ∧ v.visits = u.visits ∧ v.queue = u.queue ∧ v.monitor = u.monitor ∧ v.line.state = u.line.state := by
  unfold BesideQueues at h
  rw [h]
  exact ⟨rfl, rfl, rfl, rfl, rfl, rfl, rfl, rfl, rfl, rfl⟩

/-- The conditions follow alike beside the queues and the pages. -/
theorem BesideQueues.followed (h : BesideQueues u v) : followed v = followed u := by
  unfold BesideQueues at h
  rw [h]
  rfl

theorem handFrame_mem {f : TxFrame} (hsends : u.sending = true) (hroom : u.line.tx.length < 6) (hclass : f.cls ≠ .status) :
    f ∈ (handFrame f u).line.tx := by
  simp [handFrame, hsends, hroom, hclass]

/-- A RESULT takes no frame's place. -/
theorem handResult_mem_of_mem {f : TxFrame} {term : Nat} {payload : List Byte} {awaited : Bool} (hf : f ∈ u.line.tx) :
    f ∈ (handResult term payload awaited u).line.tx := by
  have hclass : ({ newFrame .result term payload with awaited := awaited } : TxFrame).cls = .result := rfl
  have hplain : ¬(FrameClass.result = .status ∧ u.line.tx.any TxFrame.isWaitingStatus = true) := by
    rintro ⟨⟨⟩, -⟩
  unfold handResult handFrame
  dsimp only
  rw [hclass, if_neg hplain]
  split
  · exact hf
  · split
    · exact List.mem_append_left _ hf
    · exact hf

end

/-! ## TEST_NOW (R61) -/

section
variable {s : State} {term : Nat} {tag : Byte}

/-- TEST_NOW at the station. -/
def testNowAsked (term : Nat) (tag : Byte) (s : State) : State := request term 8#8 tag [] serveTestNow s

theorem exec_testNow : exec (.testNow term tag []) s = .next (testNowAsked term tag s) := rfl

theorem testNowFailure_countReceived (s : State) : testNowFailure (countReceived s) = testNowFailure s := rfl

/-- A failed check is answered with its result. -/
theorem testNow_refused {n : Nat} {r : Byte} (hservable : Servable term 8#8 tag [] s) (hfails : testNowFailure s = n) (hn : n ≠ 0)
    (hcode : BitVec.ofNat 8 (testNowCode n).number = r) : Refused term 8#8 tag [] r s (testNowAsked term tag s) := by
  refine request_refused (c := testNowCode n) hservable rfl (by simp) ?_ hcode
  unfold serveTestNow
  rw [testNowFailure_countReceived, hfails, if_pos hn]

/-- A station that sends and has left JOINING is ACTIVE (R83). -/
theorem active_of_servable {code : Byte} {args : List Byte} (hservable : Servable term code tag args s)
    (hjoined : s.line.state ≠ .joining) : s.line.state = .active := by
  obtain ⟨-, -, hsends, -⟩ := hservable
  unfold State.sending at hsends
  cases hstate : s.line.state <;> simp_all

theorem notMuted_of_servable {code : Byte} {args : List Byte} (hservable : Servable term code tag args s) : s.line.state ≠ .muted := by
  obtain ⟨-, -, hsends, -⟩ := hservable
  intro hmuted
  simp [State.sending, hmuted] at hsends

/-- The checks of TEST_NOW at an ACTIVE station without a visit. -/
theorem testNowFailure_of_active (hactive : s.line.state = .active) (hvisit : s.visits.current = none) :
    testNowFailure s = if s.stack.frames ≠ [] then 4
      else if s.cond.waiting || !claimsIdle s || listForbids s .test then 5
      else if s.monitor.active.inhibitsTest then 6 else 0 := by
  simp [testNowFailure, hactive, State.visitOpen, hvisit, State.stackEmpty]

/-- What check 5 of TEST_NOW finds busy (R61). -/
theorem testNow_busy_iff : (s.cond.waiting || !claimsIdle s || listForbids s .test) = true
    ↔ s.cond.waiting = true ∨ s.claims.own ≠ none ∨ s.claims.spacing ≠ none
      ∨ ∃ e ∈ s.claims.list, e.holding = true ∨ keyOf e.kind e.station < 32 + s.id.station := by
  simp only [claimsIdle, listForbids, Bool.or_eq_true, Bool.not_eq_true', Bool.and_eq_false_iff, Option.isNone_eq_false_iff,
    Option.isSome_iff_ne_none, List.any_eq_true, decide_eq_true_eq, or_assoc]
  exact Iff.rfl

/-- The first check that fails. -/
theorem testNow_passes (hactive : s.line.state = .active) (hvisit : s.visits.current = none) (hempty : s.stack.frames = [])
    (hfree : ¬(s.cond.waiting || !claimsIdle s || listForbids s .test) = true) (hallowed : ¬s.monitor.active.inhibitsTest = true) :
    testNowFailure s = 0 := by
  rw [testNowFailure_of_active hactive hvisit, if_neg (not_not.mpr hempty), if_neg hfree, if_neg hallowed]

theorem still_of_unclaimed (htest : s.hasTest = false) (hequalize : s.hasEqualize = false) (hclaiming : s.claiming = false) :
    Still (refresh s) :=
  ⟨refresh_follows s, settled_of_notClaiming hclaiming (testAbides_of_noTest htest), fun h => by
    have hno : (refresh s).hasEqualize = false := hequalize
    simp [hno] at h⟩

/-- With the settle flag set the test waits (R61). -/
theorem testNow_waits (hservable : Servable term 8#8 tag [] s) (hpass : testNowFailure s = 0) (hempty : s.stack.frames = [])
    (hvisit : s.visits.current = none) (hown : s.claims.own = none) (hsettle : s.stack.settle = true) :
    Aftermath (answered term 8#8 tag [] 1#8 [] s) (testNowAsked term tag s) ∧ (testNowAsked term tag s).cond.waiting = true
      ∧ (testNowAsked term tag s).claims.own = none := by
  have hserve : serveTestNow (countReceived s)
      = answer .started { countReceived s with cond := { s.cond with waiting := true } } := by
    have hflag : (countReceived s).stack.settle = true := hsettle
    unfold serveTestNow
    rw [testNowFailure_countReceived, if_neg (not_not.mpr hpass), if_pos hflag]
    rfl
  obtain ⟨u, hrequest, hbeside⟩ := request_ends (serve := serveTestNow) (r := 1#8) (data := []) hservable (by rfl) (by simp)
    (by rw [hserve]; rfl) (by rw [hserve]; rfl) (congrArg Served.state hserve)
  have heffect : Aftermath (countReceived s) { countReceived s with cond := { s.cond with waiting := true } } := rfl
  obtain ⟨-, -, -, hstack, hcond⟩ := hbeside.keeps
  obtain ⟨-, -, -, -, hclaims, -, hvisits, -, -, -⟩ := hbeside.rest
  have hframes : u.stack.frames = [] := by rw [hstack]; exact hempty
  have huown : u.claims.own = none := by rw [hclaims]; exact hown
  have hclaiming : (refresh u).claiming = false := by simp [State.claiming, huown]
  have hflag : (refresh u).stack.settle = true := by
    change u.stack.settle = true
    rw [hstack]
    exact hsettle
  have hnokey : keyClaimReady (refresh u) = false := by
    have hno : u.visits.current = none := by rw [hvisits]; exact hvisit
    simp [keyClaimReady, State.visitOpen, hno]
  have hends : settle u = retakeConsent (refresh u) := by
    rw [settle_of_still (still_of_unclaimed (s := u) (by simp [State.hasTest, hframes]) (by simp [State.hasEqualize, hframes]) hclaiming),
      giveOwner_of_noWithdrawal (by simp [State.hasWithdrawal, hframes]), handOwedClaim_of_notClaiming hclaiming,
      startActivities_of_settle hflag, tryKey, if_neg (by simp [hnokey])]
  rw [testNowAsked, hrequest]
  refine ⟨?_, ?_, ?_⟩
  · exact Aftermath.trans (Aftermath.trans (storeAnswer_aftermath term _ _ heffect) hbeside.aftermath) (finish_aftermath s u)
  · rw [finish_cond, hends]
    change u.cond.waiting = true
    rw [hcond]
    rfl
  · rw [finish_claims, hends]
    exact huown

/-- The claim that TEST_NOW makes. -/
def testClaimed (s : State) : State := makeClaim .test .terminal none (countReceived s)

theorem testClaimed_aftermath (s : State) : Aftermath (countReceived s) (testClaimed s) := by
  rw [aftermath_iff]
  simp [testClaimed]

theorem testClaimed_followed (s : State) : followed (testClaimed s) = followed s :=
  followed_congr (by simp [testClaimed]) (by simp [testClaimed]) (by simp [testClaimed]) (by simp [testClaimed])
    (by simp [testClaimed]) (by simp [testClaimed]) (by simp [testClaimed]) (by simp [testClaimed]) (by simp [testClaimed])
    (by simp [testClaimed]) (by simp [testClaimed]) (by simp [testClaimed])

/-- Made with room in the transmit queue, the claim owes no CLAIM frame: it stands there. -/
theorem testClaimed_mem (hsends : s.sending = true) (hroom : s.line.tx.length < 6) :
    newFrame .claim 31 [2#8] ∈ (testClaimed s).line.tx := by
  exact handFrame_mem (f := newFrame .claim 31 [2#8]) (u := { countReceived s with claims := { s.claims with
    own := some { kind := .test, origin := .terminal, owner := none, holding := false, announced := false, heard := [], owed := false }
    list := enterOwn (ownEntry s .test) (removeEntry s.id.station s.claims.list)
    window := some 50 } }) hsends hroom (by simp [newFrame])

/-- A CLAIM frame handed anew leaves the claim as it was, but for what it owes. -/
theorem handOwedClaim_own {c : OwnClaim} (hown : s.claims.own = some c) :
    ∃ owed, (handOwedClaim s).claims.own = some { c with owed := owed } := by
  unfold handOwedClaim
  rw [hown]
  dsimp only
  split
  · exact ⟨!takes .claim s.line.tx, by simp [handClaim, hown]⟩
  · exact ⟨c.owed, hown⟩

theorem handOwedClaim_of_notOwed {c : OwnClaim} (hown : s.claims.own = some c) (howed : c.owed = false) : handOwedClaim s = s := by
  simp [handOwedClaim, hown, howed]

/-- The end of an event with a claim just made, over an empty stack, leaves it standing. -/
theorem settle_of_freshClaim {u : State} (hframes : u.stack.frames = []) (hfresh : FreshClaim (refresh u)) :
    (settle u).claims.own = (handOwedClaim (refresh u)).claims.own ∧ (settle u).claims.window = u.claims.window
      ∧ (settle u).line = (handOwedClaim (refresh u)).line := by
  have htest : (refresh u).hasTest = false := by simp [State.hasTest, hframes]
  have hequalize : (refresh u).hasEqualize = false := by simp [State.hasEqualize, hframes]
  obtain ⟨hcommit, -, -, -, -, hyield, habides⟩ := hfresh.nothingDue (testAbides_of_noTest htest)
  have hstill : Still (refresh u) := ⟨refresh_follows u, ⟨hcommit, hyield, habides⟩, fun h => by simp [hequalize] at h⟩
  have hbusy : claimsIdle (handOwedClaim (refresh u)) = false := by
    obtain ⟨c, hown, -⟩ := hfresh
    obtain ⟨owed, hkept⟩ := handOwedClaim_own hown
    simp [claimsIdle, hkept]
  obtain ⟨hclaims, hline⟩ := startActivities_of_busy hbusy
  rw [settle_of_still hstill, giveOwner_of_noWithdrawal (by simp [State.hasWithdrawal, hframes])]
  refine ⟨?_, ?_, ?_⟩
  · simp [retakeConsent, hclaims]
  · simp [retakeConsent, hclaims]
  · simp [retakeConsent, hline]

/-- Without the settle flag the test is claimed at once (R61, R108, R109). -/
theorem testNow_claims (hservable : Servable term 8#8 tag [] s) (hpass : testNowFailure s = 0) (hempty : s.stack.frames = [])
    (hforbids : listForbids s .test = false) (hallowed : s.monitor.active.inhibitsTest = false) (hsettle : s.stack.settle = false)
    (hfollow : ConditionsFollow s) :
    Aftermath (answered term 8#8 tag [] 1#8 [] s) (testNowAsked term tag s) ∧ (testNowAsked term tag s).claims.window = some 50
      ∧ (∃ k, (testNowAsked term tag s).claims.own = some k ∧ k.kind = .test ∧ k.origin = .terminal ∧ k.owner = none
        ∧ k.holding = false)
      ∧ (s.line.tx.length < 6 → newFrame .claim 31 [2#8] ∈ (testNowAsked term tag s).line.tx) := by
  have hserve : serveTestNow (countReceived s) = answer .started (testClaimed s) := by
    have hflag : ¬(countReceived s).stack.settle = true := by
      change ¬s.stack.settle = true
      simp [hsettle]
    unfold serveTestNow
    rw [testNowFailure_countReceived, if_neg (not_not.mpr hpass), if_neg hflag]
    rfl
  have hrequest := request_served (serve := serveTestNow) hservable (by rfl) (by simp)
  rw [hserve] at hrequest
  have hrequest : testNowAsked term tag s = finish s (handResult term [8#8, tag, 1#8] false
      (storeAnswer term [8#8, tag] [8#8, tag, 1#8] (testClaimed s))) := hrequest
  have hbeside := handResult_besideQueues term [8#8, tag, 1#8] false (storeAnswer term [8#8, tag] [8#8, tag, 1#8] (testClaimed s))
  have hmem (hroom : s.line.tx.length < 6) : newFrame .claim 31 [2#8] ∈ (handResult term [8#8, tag, 1#8] false
      (storeAnswer term [8#8, tag] [8#8, tag, 1#8] (testClaimed s))).line.tx := by
    obtain ⟨-, -, hsends, -⟩ := hservable
    exact handResult_mem_of_mem (testClaimed_mem hsends hroom)
  generalize handResult term [8#8, tag, 1#8] false (storeAnswer term [8#8, tag] [8#8, tag, 1#8] (testClaimed s)) = u at *
  obtain ⟨-, -, -, hstack, -⟩ := hbeside.keeps
  obtain ⟨-, hid, -, -, hclaims, -, -, -, -, -⟩ := hbeside.rest
  have hframes : u.stack.frames = [] := by rw [hstack]; simpa [storeAnswer, testClaimed] using hempty
  have hactive : followed u = s.monitor.active := by
    rw [show s.monitor.active = followed s from hfollow, ← testClaimed_followed s]
    exact (BesideQueues.followed hbeside).trans rfl
  have hfreshly : FreshClaim (testClaimed s) := makeClaim_fresh (s := countReceived s) .terminal none hforbids hallowed
  obtain ⟨c, hown, hholding, hannounced, hrank, hfree⟩ := hfreshly
  have howned : c = { kind := .test, origin := .terminal, owner := none, holding := false, announced := false, heard := []
                      owed := !takes .claim s.line.tx } := Option.some.inj (hown.symm.trans rfl)
  have huclaims : u.claims = (testClaimed s).claims := hclaims
  have huown : u.claims.own = some c := by rw [huclaims]; exact hown
  have hfresh : FreshClaim (refresh u) := by
    refine ⟨c, huown, hholding, hannounced, ?_, ?_⟩
    · change (u.claims.list.any fun e => e.station != u.id.station && (e.holding || e.key < keyOf c.kind u.id.station)) = false
      rw [huclaims, hid]
      exact hrank
    · rw [refresh_active, hactive, howned]
      exact hallowed
  obtain ⟨kown, kwindow, kline⟩ := settle_of_freshClaim hframes hfresh
  rw [hrequest]
  refine ⟨?_, ?_, ?_, fun hroom => ?_⟩
  · exact Aftermath.trans (Aftermath.trans (storeAnswer_aftermath term [8#8, tag] [8#8, tag, 1#8] (testClaimed_aftermath s))
      hbeside.aftermath) (finish_aftermath s u)
  · rw [finish_claims, kwindow, huclaims]
    simp [testClaimed, makeClaim, seconds]
  · obtain ⟨owed, hkept⟩ := handOwedClaim_own (s := refresh u) huown
    rw [finish_claims, kown, hkept, howned]
    exact ⟨_, rfl, rfl, rfl, rfl, rfl⟩
  · have howes : c.owed = false := by rw [howned]; simp [takes, hroom]
    refine finish_mem_of_settle s ?_ (by simp [newFrame])
    rw [kline, handOwedClaim_of_notOwed (s := refresh u) huown howes]
    exact hmem hroom

end

end Sys2Proof.Machine
end

section
/-! PROOFS. EQUALIZE_NOW and STOP (R56, R57, R59, R66, R68), and the statement on the conditioning requests. -/

namespace Sys2Proof.Machine

open Sys2Proof.Safety

section
variable {s t u : State} {term : Nat} {tag : Byte}

/-! ## The settle flag through the end of an event (R50) -/

theorem setSettle_settle (h : s.line.state ≠ .muted ∨ s.stack.settle = true) : (setSettle s).stack.settle = true := by
  unfold setSettle
  split
  · next hmuted => exact h.resolve_left (not_not.mpr hmuted)
  · rfl

theorem endTest_settle (result : TestResult) (h : s.stack.settle = true) : (endTest result s).stack.settle = true := by
  unfold endTest
  split
  · exact h
  · exact setSettle_settle (.inr (by simpa using h))

theorem hasEqualize_of_framesLeft (h : FramesLeft s t) (hs : s.hasEqualize = false) : t.hasEqualize = false := by
  rw [State.hasEqualize, List.any_eq_false] at hs ⊢
  exact fun f hf => hs f (h.subset hf)

/-- With the settle flag set and no equalize, the end of an event leaves the equalize latch alone (R50, R57). -/
theorem settle_latch (hflag : u.stack.settle = true) (hequalize : u.hasEqualize = false) : (settle u).cond.latch = u.cond.latch := by
  have hended (r : TestResult) (v : State) (hv : v.cond.latch = u.cond.latch ∧ v.stack.settle = true) :
      (endTest r v).cond.latch = u.cond.latch ∧ (endTest r v).stack.settle = true :=
    ⟨by simpa using hv.1, endTest_settle r hv.2⟩
  have hyielded : (yieldIfMust (refresh u)).cond.latch = u.cond.latch ∧ (yieldIfMust (refresh u)).stack.settle = true := by
    simpa using hflag
  have hstill : (yieldIfMust (refresh u)).hasEqualize = false := by
    rw [State.hasEqualize_congr (s := u) (by simp)]
    exact hequalize
  have haborted : (conditionAborts (yieldIfMust (refresh u))).cond.latch = u.cond.latch
      ∧ (conditionAborts (yieldIfMust (refresh u))).stack.settle = true := by
    generalize yieldIfMust (refresh u) = v at hyielded hstill
    have hno (r : TestResult) : (endTest r v).hasEqualize = false := hasEqualize_of_framesLeft (endTest_framesLeft r v) hstill
    unfold conditionAborts
    dsimp only
    split
    · rw [hno, Bool.false_and, if_neg Bool.false_ne_true]
      exact hended .aborted v hyielded
    · rw [hstill, Bool.false_and, if_neg Bool.false_ne_true]
      exact hyielded
  have hsupported : (supportAbort (refresh (conditionAborts (yieldIfMust (refresh u))))).cond.latch = u.cond.latch
      ∧ (supportAbort (refresh (conditionAborts (yieldIfMust (refresh u))))).stack.settle = true := by
    have hrefreshed : (refresh (conditionAborts (yieldIfMust (refresh u)))).cond.latch = u.cond.latch
        ∧ (refresh (conditionAborts (yieldIfMust (refresh u)))).stack.settle = true := haborted
    unfold supportAbort
    split
    · exact hended .aborted _ hrefreshed
    · exact hrefreshed
  obtain ⟨hlatch, hset⟩ := hsupported
  unfold settle
  dsimp only
  rw [retakeConsent, startActivities_of_settle (by simpa using hset)]
  simpa using hlatch

/-! ## EQUALIZE_NOW (R56, R57) -/

/-- EQUALIZE_NOW at the station. -/
def equalizeNowAsked (term : Nat) (tag : Byte) (s : State) : State := request term 9#8 tag [] serveEqualizeNow s

theorem exec_equalizeNow : exec (.equalizeNow term tag []) s = .next (equalizeNowAsked term tag s) := rfl

/-- The latch that EQUALIZE_NOW leaves. -/
def equalizeLatched (s : State) : State := setLatch { origin := .terminal, minutes := fullMinutes s.cfg } (countReceived s)

theorem equalizeLatched_latch (s : State) : (equalizeLatched s).cond.latch = some (match s.cond.latch with
    | none => { origin := .terminal, minutes := s.cfg.equalizeDuration * 60 }
    | some l => { origin := l.origin, minutes := max l.minutes (s.cfg.equalizeDuration * 60) }) := by
  cases hlatch : s.cond.latch with
  | none => simp [equalizeLatched, setLatch, countReceived, hlatch, fullMinutes]
  | some l =>
    have horigin : (if l.origin = .terminal then EqualizeOrigin.terminal else l.origin) = l.origin := by
      split
      · next h => exact h.symm
      · rfl
    simp [equalizeLatched, setLatch, countReceived, hlatch, mergeLatch, horigin, fullMinutes]

theorem equalizeNow_ends (hservable : Servable term 9#8 tag [] s) : ∃ u, equalizeNowAsked term tag s = finish s u
    ∧ BesideQueues (storeAnswer term [9#8, tag] [9#8, tag, 0#8] (equalizeLatched s)) u :=
  request_ends (serve := serveEqualizeNow) (r := 0#8) (data := []) hservable (by rfl) (by simp) rfl rfl rfl

/-- With the settle flag set the latch waits (R56, R57). -/
theorem equalizeNow_waits (hflag : s.stack.settle = true) (hequalize : s.hasEqualize = false)
    (hbeside : BesideQueues (storeAnswer term [9#8, tag] [9#8, tag, 0#8] (equalizeLatched s)) u) :
    (settle u).cond.latch = (equalizeLatched s).cond.latch := by
  obtain ⟨-, -, -, hstack, hcond⟩ := hbeside.keeps
  have hstack' : u.stack = s.stack := hstack
  rw [settle_latch (by rw [hstack']; exact hflag) (by rw [State.hasEqualize_congr (s := s) (by rw [hstack'])]; exact hequalize), hcond]
  rfl

/-- An equalize that may start, where no test is pending, starts and takes its latch with it (R57, R47). -/
theorem startActivities_equalizes {l : EqualizeLatch} (hready : equalizeReady s = true) (hlatch : s.cond.latch = some l)
    (htestLatch : s.cond.testLatch = false) (hwaiting : s.cond.waiting = false) :
    (startActivities s).cond.latch = none ∧ (startActivities s).cond.remainingField = l.minutes
      ∧ (startActivities s).stack.frames
        = .equalize { pushed := s.now, remaining := l.minutes, minute := 0, origin := l.origin } :: s.stack.frames := by
  have hstart : startActivities s = tryKey (tryTest (startEqualize s)) := by
    unfold startActivities
    dsimp only
    rw [if_neg (by simp [testClaimReady, waitingReady, htestLatch, hwaiting]), tryEqualize, if_pos hready]
  rw [hstart]
  simp [startEqualize, hlatch, setRemaining, State.now]

/-- Where nothing holds it back the equalize starts at once (R57). -/
theorem equalizeNow_starts (hflag : s.stack.settle = false) (hempty : s.stack.frames = []) (hactive : s.line.state = .active)
    (hvisit : s.visits.current = none) (hmains : s.bypass.mains = .present) (hhot : s.monitor.active.stringHot = false)
    (hlost : s.monitor.active.tempLost = false) (hgap : s.monitor.active.sampleGap = false) (hfollow : ConditionsFollow s)
    (hquiet : Quiet s) (hbeside : BesideQueues (storeAnswer term [9#8, tag] [9#8, tag, 0#8] (equalizeLatched s)) u) :
    (settle u).cond.latch = none ∧ (settle u).cond.remainingField = s.cfg.equalizeDuration * 60
      ∧ (settle u).stack.frames
        = [.equalize { pushed := s.now, remaining := s.cfg.equalizeDuration * 60, minute := 0, origin := .terminal }] := by
  obtain ⟨hown, -, hlatch, htestLatch, hwaiting, -, -⟩ := hquiet
  obtain ⟨-, hclock, -, hstack, hcond⟩ := hbeside.keeps
  obtain ⟨-, -, -, -, hclaims, hbypass, hvisits, -, -, hline⟩ := hbeside.rest
  have hstack' : u.stack = s.stack := hstack
  have hclaims' : u.claims = s.claims := hclaims
  have hbypass' : u.bypass = s.bypass := hbypass
  have hvisits' : u.visits = s.visits := hvisits
  have hline' : u.line.state = s.line.state := hline
  have hcond' : u.cond = (equalizeLatched s).cond := hcond
  have hclock' : u.now = s.now := congrArg (fun c => (State.now { s with clock := c })) hclock
  have hlatched : u.cond.latch = some { origin := .terminal, minutes := s.cfg.equalizeDuration * 60 } := by
    rw [hcond', equalizeLatched_latch, hlatch]
  have hfollowed : followed u = s.monitor.active := by
    rw [show s.monitor.active = followed s from hfollow]
    exact (BesideQueues.followed hbeside).trans rfl
  have hmainsLost : s.monitor.active.mainsLost = false := by
    rw [show s.monitor.active = followed s from hfollow]
    simp [followed, hmains]
  have hclaiming : u.claiming = false := by simp [State.claiming, hclaims', hown]
  have hready : equalizeReady (refresh u) = true := by
    have hallowed : (refresh u).monitor.active.inhibitsEqualize = false := by
      rw [refresh_active, hfollowed]
      simp [Conditions.inhibitsEqualize, hmainsLost, hhot, hlost, hgap]
    have hjoined : (refresh u).joined = true := by
      rw [State.joined_congr (t := refresh u) (s := s) hline']
      simp [State.joined, hactive]
    have hclaiming' : (refresh u).claiming = false := hclaiming
    rw [equalizeReady, hallowed, hjoined, hclaiming']
    simp [hlatched, State.stackEmpty, State.visitOpen, hstack', hvisits', hbypass', hempty, hvisit, hmains, hflag]
  have hstill : Still (refresh u) := still_of_unclaimed (by simp [State.hasTest, hstack', hempty])
    (by simp [State.hasEqualize, hstack', hempty]) hclaiming
  have hsettle : settle u = retakeConsent (startActivities (refresh u)) := by
    rw [settle_of_still hstill, giveOwner_of_noWithdrawal (by simp [State.hasWithdrawal, hstack', hempty]),
      handOwedClaim_of_notClaiming (s := refresh u) hclaiming]
  obtain ⟨klatch, kremaining, kframes⟩ := startActivities_equalizes (s := refresh u) hready hlatched
    (by change u.cond.testLatch = false; rw [hcond']; exact htestLatch) (by change u.cond.waiting = false; rw [hcond']; exact hwaiting)
  rw [hsettle]
  refine ⟨klatch, kremaining, kframes.trans ?_⟩
  simp only [refresh_keeps, hstack', hempty]
  rw [← hclock']
  rfl

theorem equalizeLatched_aftermath (s : State) : Aftermath (countReceived s) (equalizeLatched s) := rfl

/-! ## STOP (R68) -/

/-- STOP at the station. -/
def stopAsked (term : Nat) (tag : Byte) (s : State) : State := request term 10#8 tag [] serveStop s

theorem exec_stop : exec (.stop term tag []) s = .next (stopAsked term tag s) := rfl

/-- Everything that STOP stops has been stopped. -/
def stopped (s : State) : State := dropWaiting (endTest .aborted (abortEqualize (countReceived s)))

theorem stop_refused (hservable : Servable term 10#8 tag [] s) (hequalize : s.hasEqualize = false) (htest : s.hasTest = false)
    (hwaiting : s.cond.waiting = false) : Refused term 10#8 tag [] 5#8 s (stopAsked term tag s) := by
  refine request_refused (c := .state) hservable rfl (by simp) (if_neg ?_) rfl
  change ¬(s.hasEqualize || s.hasTest || s.cond.waiting) = true
  simp [hequalize, htest, hwaiting]

theorem stop_ends (hservable : Servable term 10#8 tag [] s)
    (hstands : s.hasEqualize = true ∨ s.hasTest = true ∨ s.cond.waiting = true) : ∃ u, stopAsked term tag s = finish s u
    ∧ BesideQueues (storeAnswer term [10#8, tag] [10#8, tag, 0#8] (stopped s)) u := by
  have hserve : serveStop (countReceived s) = answer .done (stopped s) := by
    refine if_pos ?_
    change (s.hasEqualize || s.hasTest || s.cond.waiting) = true
    simpa [or_assoc] using hstands
  exact request_ends (serve := serveStop) (r := 0#8) (data := []) hservable (by rfl) (by simp) (by rw [hserve]; rfl)
    (by rw [hserve]; rfl) (congrArg Served.state hserve)

theorem stopped_aftermath (s : State) : Aftermath (countReceived s) (stopped s) := by
  rw [aftermath_iff]
  simp [stopped, dropWaiting]

theorem stopped_noTest (s : State) : (stopped s).hasTest = false := endTest_noTest _ _

theorem stopped_noEqualize (s : State) : (stopped s).hasEqualize = false := by
  have haborted : (abortEqualize (countReceived s)).hasEqualize = false := by simp [State.hasEqualize, abortEqualize_frames]
  exact hasEqualize_of_framesLeft (s := abortEqualize (countReceived s)) (endTest_framesLeft .aborted _) haborted

/-- A claim that is not CLAIMING before STOP is not CLAIMING after it. -/
theorem stopped_claiming (h : s.claiming = false) : (stopped s).claiming = false := by
  have haborted := (abortEqualize_aborted (countReceived s)).trans (endTest_aborted .aborted (abortEqualize (countReceived s)))
  obtain ⟨-, -, -, -, -, -, -, -, -, -, -, hown, -⟩ := haborted
  have hown' : (stopped s).claims.own = none ∨ (stopped s).claims.own = s.claims.own := hown
  rcases hown' with hnone | hsame
  · simp [State.claiming, hnone]
  · rw [State.claiming, hsame]
    exact h

/-- The abort of an equalize sets the settle flag at a station that is not MUTED (R50). -/
theorem abortEqualize_settle (hline : s.line.state ≠ .muted) (h : s.hasEqualize = true) : (abortEqualize s).stack.settle = true := by
  unfold abortEqualize
  split
  · next hnone => simp [equalize?_eq_none_iff.mp hnone] at h
  · next f _ =>
    refine setSettle_settle (.inl ?_)
    split <;> simpa using hline

theorem stopped_settle (hline : s.line.state ≠ .muted) (h : s.hasEqualize = true) : (stopped s).stack.settle = true :=
  endTest_settle .aborted (abortEqualize_settle (s := countReceived s) hline h)

/-- What the abort of an equalize leaves of its minutes (R47, R59). -/
theorem abortEqualize_minutes {f : EqualizeFrame} (hframes : s.stack.frames = [.equalize f]) :
    (f.origin = .terminal → (abortEqualize s).cond.remainingField = 0 ∧ (abortEqualize s).cond.latch = s.cond.latch)
      ∧ (f.origin ≠ .terminal → s.cond.latch = none →
        (abortEqualize s).cond.latch = some { origin := f.origin, minutes := f.remaining }) := by
  have hfound : s.equalize? = some f := by simp [State.equalize?, hframes, Frame.equalize?]
  unfold abortEqualize
  rw [hfound]
  constructor
  · intro horigin
    simp [horigin, relatch, setRemaining]
  · intro horigin hlatch
    simp [horigin, relatch, setLatch, hlatch]

theorem stopped_equalize {f : EqualizeFrame} (hframes : s.stack.frames = [.equalize f]) :
    (f.origin = .terminal → (stopped s).cond.remainingField = 0 ∧ (stopped s).cond.latch = s.cond.latch)
      ∧ (f.origin ≠ .terminal → s.cond.latch = none →
        (stopped s).cond.latch = some { origin := f.origin, minutes := f.remaining }) := by
  have hremaining : (stopped s).cond.remainingField = (abortEqualize (countReceived s)).cond.remainingField := by
    simp [stopped, dropWaiting]
  have hlatch : (stopped s).cond.latch = (abortEqualize (countReceived s)).cond.latch := by simp [stopped, dropWaiting]
  rw [hremaining, hlatch]
  exact abortEqualize_minutes (s := countReceived s) hframes

theorem abortEqualize_of_noEqualize (h : s.hasEqualize = false) : abortEqualize s = s := by
  unfold abortEqualize
  rw [equalize?_eq_none_iff.mpr h]

/-- The test that STOP aborts hands its records over, and measures nothing (R66). -/
theorem stopped_test {f : TestFrame} (hframes : s.stack.frames = [.test f]) : (stopped s).cond.testSecond = none
    ∧ ∀ (i : Nat) (r : TestResult × Nat × Nat × Nat), (testRecords s)[i]? = some r →
      (testRecords (stopped s))[i]? = some (recordTaken .aborted f.strings s i r.2.2.2) := by
  have hno : abortEqualize (countReceived s) = countReceived s :=
    abortEqualize_of_noEqualize (s := countReceived s) (by simp [State.hasEqualize, countReceived, hframes, Frame.isEqualize])
  have hcounted : (countReceived s).stack.frames = [.test f] := hframes
  constructor
  · change (endTest .aborted (abortEqualize (countReceived s))).cond.testSecond = none
    rw [hno]
    exact endTest_testSecond hcounted
  · intro i r hr
    change (testRecords (endTest .aborted (abortEqualize (countReceived s))))[i]? = _
    rw [hno]
    exact endTest_testRecords (s := countReceived s) hcounted hr

theorem giveOwner_hasEqualize (s : State) : (giveOwner s).hasEqualize = s.hasEqualize := by
  have hview (v : State) : (dueView v).hasEqualize = v.hasEqualize := any_map_bare _ fun f => by cases f <;> rfl
  rw [← hview, giveOwner_view, hview]

/-- The end of STOP's event leaves nothing running, and what it has latched where the settle flag holds the starts back. -/
theorem settle_of_stopped (htest : u.hasTest = false) (hequalize : u.hasEqualize = false) (hwaiting : u.cond.waiting = false)
    (hclaiming : u.claiming = false) :
    (settle u).hasTest = false ∧ (settle u).cond.waiting = false ∧ (settle u).cond.testSecond = u.cond.testSecond
      ∧ (u.stack.settle = true → (settle u).hasEqualize = false ∧ (settle u).stack.settle = true ∧ (settle u).cond = u.cond) := by
  have hclaiming' : (giveOwner (refresh u)).claiming = false := by
    rw [State.claiming_congr (s := u) (by simp)]
    exact hclaiming
  rw [settle_of_still (still_of_unclaimed htest hequalize hclaiming), handOwedClaim_of_notClaiming hclaiming']
  have hready : (giveOwner (refresh u)).hasTest = false := by rw [← dueView_hasTest, giveOwner_view, dueView_hasTest]; exact htest
  refine ⟨startActivities_noTest hready, startActivities_waiting (by simpa using hwaiting), by simp [retakeConsent], fun hflag => ?_⟩
  have hflag' : (giveOwner (refresh u)).stack.settle = true := by simpa using hflag
  have hnone : (giveOwner (refresh u)).hasEqualize = false := (giveOwner_hasEqualize _).trans hequalize
  rw [startActivities_of_settle hflag']
  refine ⟨?_, by simpa [retakeConsent] using hflag, by simp [retakeConsent]⟩
  rw [State.hasEqualize_congr (s := giveOwner (refresh u)) (by simp [retakeConsent])]
  exact hnone

/-- STOP leaves nothing to stop (R68): the equalize latched as R59 has it, the test's records taken as R66 has them. -/
theorem stop_stops (hservable : Servable term 10#8 tag [] s) (hstands : s.hasEqualize = true ∨ s.hasTest = true ∨ s.cond.waiting = true)
    (hclaiming : s.claiming = false) :
    let t := stopAsked term tag s
    Aftermath (answered term 10#8 tag [] 0#8 [] s) t ∧ t.hasTest = false ∧ t.cond.waiting = false
      ∧ (s.hasEqualize = true → t.hasEqualize = false ∧ t.stack.settle = true)
      ∧ (∀ f, s.stack.frames = [.equalize f] →
          (f.origin = .terminal → t.cond.remainingField = 0 ∧ t.cond.latch = s.cond.latch)
          ∧ (f.origin ≠ .terminal → s.cond.latch = none → t.cond.latch = some { origin := f.origin, minutes := f.remaining }))
      ∧ (∀ f, s.stack.frames = [.test f] → t.cond.testSecond = none
          ∧ ∀ (i : Nat) (x : Account), s.accounts.strings[i]? = some x →
            ∃ y, t.accounts.strings[i]? = some y ∧ y.lastTest = .aborted ∧ y.measured = x.measured) := by
  obtain ⟨u, hrequest, hbeside⟩ := stop_ends hservable hstands
  have hmuted := notMuted_of_servable hservable
  obtain ⟨-, -, haccounts, hstack, hcond⟩ := hbeside.keeps
  obtain ⟨-, -, -, -, hclaims, -, -, -, -, -⟩ := hbeside.rest
  have hstack' : u.stack = (stopped s).stack := hstack
  have hcond' : u.cond = (stopped s).cond := hcond
  have haccounts' : u.accounts = (stopped s).accounts := haccounts
  have huclaiming : u.claiming = false := by
    rw [State.claiming_congr (s := stopped s) (congrArg Claims.own hclaims)]
    exact stopped_claiming hclaiming
  have hutest : u.hasTest = false := by
    rw [State.hasTest_congr (s := stopped s) (by rw [hstack'])]
    exact stopped_noTest s
  have huequalize : u.hasEqualize = false := by
    rw [State.hasEqualize_congr (s := stopped s) (by rw [hstack'])]
    exact stopped_noEqualize s
  obtain ⟨ktest, kwaiting, ksecond, kheld⟩ := settle_of_stopped hutest huequalize (by rw [hcond']; rfl) huclaiming
  have kset (h : s.hasEqualize = true) : (settle u).hasEqualize = false ∧ (settle u).stack.settle = true
      ∧ (settle u).cond = u.cond := kheld (by rw [hstack']; exact stopped_settle hmuted h)
  intro t
  have ht : t = finish s u := hrequest
  rw [ht, finish_stack, finish_cond]
  refine ⟨?_, finish_noTest_of_settle s ktest, kwaiting, fun h => ?_, fun f hframes => ?_, fun f hframes => ⟨?_, fun i x hx => ?_⟩⟩
  · exact Aftermath.trans (Aftermath.trans (storeAnswer_aftermath term _ _ (stopped_aftermath s)) hbeside.aftermath)
      (finish_aftermath s u)
  · obtain ⟨hno, hflag, -⟩ := kset h
    exact ⟨(State.hasEqualize_congr (by rw [finish_stack])).trans hno, hflag⟩
  · obtain ⟨-, -, hkept⟩ := kset (by simp [State.hasEqualize, hframes, Frame.isEqualize])
    rw [hkept, hcond']
    exact stopped_equalize hframes
  · rw [ksecond, hcond']
    exact (stopped_test hframes).1
  · obtain ⟨-, hrecords⟩ := stopped_test hframes
    obtain ⟨y, hy, hrecord⟩ := exists_testRecord (hrecords i _ (by simp [testRecords, List.getElem?_map, hx]; rfl))
    simp only [Account.testRecord, recordTaken, Prod.mk.injEq] at hrecord
    obtain ⟨hlast, -, -, hmeasured⟩ := hrecord
    obtain ⟨hsame, -⟩ := finish_of_noTest s hutest
    exact ⟨y, by rw [hsame, haccounts']; exact hy, hlast, hmeasured⟩

/-! ## The statement -/

/-- EQUALIZE_NOW latches an equalize or starts it (R56, R57). -/
theorem equalizeNow_answers (hservable : Servable term 9#8 tag [] s) :
    let t := equalizeNowAsked term tag s
    Aftermath (answered term 9#8 tag [] 0#8 [] s) t
      ∧ (s.stack.settle = true → s.hasEqualize = false → t.cond.latch = (equalizeLatched s).cond.latch)
      ∧ (s.stack.settle = false → s.stack.frames = [] → s.line.state = .active → s.visits.current = none →
          s.bypass.mains = .present → s.monitor.active.stringHot = false → s.monitor.active.tempLost = false →
          s.monitor.active.sampleGap = false → ConditionsFollow s → Quiet s →
          t.cond.latch = none ∧ t.cond.remainingField = s.cfg.equalizeDuration * 60 ∧ t.stack.frames
            = [.equalize { pushed := s.now, remaining := s.cfg.equalizeDuration * 60, minute := 0, origin := .terminal }]) := by
  obtain ⟨u, hrequest, hbeside⟩ := equalizeNow_ends hservable
  intro t
  have ht : t = finish s u := hrequest
  rw [ht, finish_stack, finish_cond]
  refine ⟨?_, fun hflag hequalize => equalizeNow_waits hflag hequalize hbeside,
    fun hflag hempty hactive hvisit hmains hhot hlost hgap hfollow hquiet =>
      equalizeNow_starts hflag hempty hactive hvisit hmains hhot hlost hgap hfollow hquiet hbeside⟩
  exact Aftermath.trans (Aftermath.trans (storeAnswer_aftermath term [9#8, tag] [9#8, tag, 0#8] (equalizeLatched_aftermath s))
    hbeside.aftermath) (finish_aftermath s u)

end

/-- Settles O55: each request is served, and the end of its event starts no more than the settle flag, the checks and the conditions
let it. -/
theorem conditioningRequests : Obligations.ConditioningRequests := by
  unfold Obligations.ConditioningRequests
  refine ⟨fun s term tag hservable => ⟨testNowAsked term tag s, exec_testNow, fun hjoining => ?_, fun hjoined => ⟨fun hvisit => ?_,
    fun hvisit => ⟨fun hframes => ?_, fun hempty hbusy => ?_, fun hempty hfree hinhibited => ?_,
      fun hempty hfree hallowed hsettle => ?_, fun hempty hfree hallowed hsettle hfollow => ?_⟩⟩⟩,
    fun s term tag hservable => ⟨equalizeNowAsked term tag s, exec_equalizeNow, ?_⟩,
    fun s term tag hservable => ⟨stopAsked term tag s, exec_stop, fun hequalize htest hwaiting => ?_, fun hstands hclaiming => ?_⟩⟩
  · exact testNow_refused (n := 1) hservable (by simp [testNowFailure, hjoining]) (by decide) rfl
  · have hactive := active_of_servable hservable hjoined
    exact testNow_refused (n := 3) hservable (by simp [testNowFailure, hactive, State.visitOpen, hvisit]) (by decide) rfl
  · have hfails := testNowFailure_of_active (active_of_servable hservable hjoined) hvisit
    rw [if_pos hframes] at hfails
    exact testNow_refused hservable hfails (by decide) rfl
  · have hfails := testNowFailure_of_active (active_of_servable hservable hjoined) hvisit
    rw [if_neg (not_not.mpr hempty), if_pos (testNow_busy_iff.mpr hbusy)] at hfails
    exact testNow_refused hservable hfails (by decide) rfl
  · have hfails := testNowFailure_of_active (active_of_servable hservable hjoined) hvisit
    have hheld : s.monitor.active.inhibitsTest = true := hinhibited
    rw [if_neg (not_not.mpr hempty), if_neg (fun h => hfree (testNow_busy_iff.mp h)), if_pos hheld] at hfails
    exact testNow_refused hservable hfails (by decide) rfl
  · have hpass := testNow_passes (active_of_servable hservable hjoined) hvisit hempty (fun h => hfree (testNow_busy_iff.mp h)) hallowed
    exact testNow_waits hservable hpass hempty hvisit (by_contra fun h => hfree (.inr (.inl h))) hsettle
  · have hnotBusy : ¬(s.cond.waiting || !claimsIdle s || listForbids s .test) = true := fun h => hfree (testNow_busy_iff.mp h)
    have hpass := testNow_passes (active_of_servable hservable hjoined) hvisit hempty hnotBusy hallowed
    simp only [Bool.or_eq_true, not_or, Bool.not_eq_true] at hnotBusy
    obtain ⟨-, hlist⟩ := hnotBusy
    exact testNow_claims hservable hpass hempty hlist (Bool.not_eq_true _ ▸ hallowed) hsettle hfollow
  · obtain ⟨haftermath, hwaits, hstarts⟩ := equalizeNow_answers hservable
    exact ⟨haftermath, fun hflag hequalize => (hwaits hflag hequalize).trans (equalizeLatched_latch s), hstarts⟩
  · exact stop_refused hservable hequalize htest hwaiting
  · exact stop_stops hservable hstands hclaiming

end Sys2Proof.Machine
end

section
/-! PROOFS. The transmit queue (R79, R80): what keeps its bounds, and what keeps it empty at a station that does not send (R83,
R84). -/

namespace Sys2Proof.Machine

open Sys2Proof.Safety

/-! ## Queues within the bounds -/

/-- A transmit queue within its bounds (R79, R80). -/
def TxBounded (tx : List TxFrame) : Prop :=
  tx.length ≤ 6 ∧ tx.countP TxFrame.isWaitingStatus ≤ 1 ∧ tx.countP TxFrame.inFlight ≤ 1

section
variable {tx : List TxFrame} {f : TxFrame} {place : Nat}

theorem TxBounded.nil : TxBounded [] := by simp [TxBounded]

/-- A change of the frames that leaves which of them waits as a STATUS and which is in flight. -/
theorem TxBounded.map (h : TxBounded tx) {g : TxFrame → TxFrame} (hwaits : ∀ f, (g f).isWaitingStatus = f.isWaitingStatus)
    (hflies : ∀ f, (g f).inFlight = f.inFlight) : TxBounded (tx.map g) := by
  obtain ⟨hlength, hstatus, hflight⟩ := h
  refine ⟨by rwa [List.length_map], ?_, ?_⟩
  · rwa [List.countP_map, show TxFrame.isWaitingStatus ∘ g = TxFrame.isWaitingStatus from funext hwaits]
  · rwa [List.countP_map, show TxFrame.inFlight ∘ g = TxFrame.inFlight from funext hflies]

theorem TxBounded.sublist {less : List TxFrame} (h : TxBounded tx) (hless : less.Sublist tx) : TxBounded less := by
  obtain ⟨hlength, hstatus, hflight⟩ := h
  exact ⟨hless.length_le.trans hlength, hless.countP_le.trans hstatus, hless.countP_le.trans hflight⟩

theorem TxBounded.eraseIdx (h : TxBounded tx) (place : Nat) : TxBounded (tx.eraseIdx place) :=
  h.sublist (List.eraseIdx_sublist tx place)

theorem TxBounded.outdateClaims (h : TxBounded tx) : TxBounded (outdateClaims tx) := by
  refine h.map ?_ ?_ <;> intro f <;> split <;> rfl

theorem TxBounded.outdateNotices (h : TxBounded tx) : TxBounded (outdateNotices tx) := by
  refine h.map ?_ ?_ <;> intro f <;> split <;> rfl

/-- A frame that waits joins a queue with room, unless it would be a second STATUS that waits. -/
theorem TxBounded.append (h : TxBounded tx) (hroom : tx.length < 6) (hf : f.inFlight = false)
    (hwaits : f.isWaitingStatus = true → tx.any TxFrame.isWaitingStatus = false) : TxBounded (tx ++ [f]) := by
  obtain ⟨-, hstatus, hflight⟩ := h
  refine ⟨by simpa using hroom, ?_, by simpa [List.countP_append, hf] using hflight⟩
  cases hw : f.isWaitingStatus with
  | false => simpa [List.countP_append, hw] using hstatus
  | true =>
    have hnone : tx.countP TxFrame.isWaitingStatus = 0 := by
      have hwaiting := hwaits hw
      rw [List.any_eq_false] at hwaiting
      exact List.countP_eq_zero.mpr hwaiting
    simp [List.countP_append, hw, hnone]

/-- A STATUS takes the place of the one that waits. -/
theorem TxBounded.replaceStatus (h : TxBounded tx) (hcls : f.cls = .status) (hf : f.inFlight = false) :
    TxBounded (tx.map fun g => if g.isWaitingStatus then f else g) := by
  have hwaits : f.isWaitingStatus = true := by simp [TxFrame.isWaitingStatus, hcls, hf]
  refine h.map (fun g => ?_) fun g => ?_
  · split
    · next hg => rw [hwaits, hg]
    · rfl
  · split
    · next hg =>
      have hgf : g.inFlight = false := by
        simp only [TxFrame.isWaitingStatus, Bool.and_eq_true, Bool.not_eq_true'] at hg
        exact hg.2
      rw [hf, hgf]
    · rfl

theorem youngestDisplaceable_lt (h : youngestDisplaceable tx = some place) : place < tx.length := by
  unfold youngestDisplaceable at h
  cases hfound : tx.reverse.findIdx? TxFrame.displaceable with
  | none => simp [hfound] at h
  | some i =>
    obtain ⟨hi, -, -⟩ := List.findIdx?_eq_some_iff_getElem.mp hfound
    rw [hfound, Option.map_some, Option.some.injEq] at h
    rw [List.length_reverse] at hi
    omega

/-- A frame of a displacing class joins in the place of another. -/
theorem TxBounded.displace (h : TxBounded tx) (hcls : f.cls.displaces = true) (hf : f.inFlight = false)
    (hplace : youngestDisplaceable tx = some place) : TxBounded (tx.eraseIdx place ++ [f]) := by
  have hlt := youngestDisplaceable_lt hplace
  refine (h.eraseIdx place).append ?_ hf ?_
  · rw [List.length_eraseIdx, if_pos hlt]
    have hlength := h.1
    omega
  · intro hwaits
    have hstatus : f.cls = .status := by
      simp only [TxFrame.isWaitingStatus, Bool.and_eq_true, beq_iff_eq] at hwaits
      exact hwaits.1
    simp [hstatus, FrameClass.displaces] at hcls

/-! ## The frame in flight -/

theorem countP_flight_of_none (h : flightPlace tx = none) : tx.countP TxFrame.inFlight = 0 :=
  List.countP_eq_zero.mpr fun f hf => by simpa using List.findIdx?_eq_none_iff.mp h f hf

section
variable {p : TxFrame → Bool} {g : TxFrame → TxFrame} {n : Nat}

theorem countP_modify_le (hg : ∀ f, tx[n]? = some f → p (g f) = true → p f = true) :
    (tx.modify n g).countP p ≤ tx.countP p := by
  induction tx generalizing n with
  | nil => simp
  | cons f rest ih =>
    cases n with
    | zero =>
      have hf := hg f rfl
      simp only [List.modify_zero_cons, List.countP_cons]
      cases hp : p (g f) <;> simp [hp, hf]
    | succ n =>
      simp only [List.modify_succ_cons, List.countP_cons]
      exact Nat.add_le_add_right (ih hg) _

theorem countP_modify_le_succ (p : TxFrame → Bool) (g : TxFrame → TxFrame) (n : Nat) :
    (tx.modify n g).countP p ≤ tx.countP p + 1 := by
  induction tx generalizing n with
  | nil => simp
  | cons f rest ih =>
    cases n with
    | zero =>
      simp only [List.modify_zero_cons, List.countP_cons]
      split <;> split <;> omega
    | succ n =>
      have hrest := ih n
      simp only [List.modify_succ_cons, List.countP_cons]
      omega

end

/-- With none in flight, a frame goes in flight (R74). -/
theorem TxBounded.start (h : TxBounded tx) (hnone : flightPlace tx = none) (place : Nat) :
    TxBounded (tx.modify place fun f => { f with inFlight := true }) := by
  obtain ⟨hlength, hstatus, -⟩ := h
  refine ⟨by simpa using hlength, le_trans (countP_modify_le fun f _ => ?_) hstatus, ?_⟩
  · simp [TxFrame.isWaitingStatus]
  · have hflight := countP_modify_le_succ (tx := tx) TxFrame.inFlight (fun f => { f with inFlight := true }) place
    rwa [countP_flight_of_none hnone] at hflight

/-- A frame that loses arbitration waits again, but for a STATUS while a newer one waits (R74, R80). -/
theorem TxBounded.afterLoss (h : TxBounded tx) (place : Nat) : TxBounded (txAfterLoss place tx) := by
  unfold txAfterLoss
  split
  · exact h.eraseIdx place
  · next hstays =>
    obtain ⟨hlength, hstatus, hflight⟩ := h
    refine ⟨by simpa using hlength, ?_, le_trans (countP_modify_le fun f _ => by simp) hflight⟩
    cases hany : tx.any TxFrame.isWaitingStatus with
    | false =>
      have hwaits := countP_modify_le_succ (tx := tx) TxFrame.isWaitingStatus (fun f => { f with inFlight := false }) place
      rwa [List.countP_eq_zero.mpr (List.any_eq_false.mp hany)] at hwaits
    | true =>
      refine le_trans (countP_modify_le fun f hf hwaits => ?_) hstatus
      have hcls : f.cls ≠ .status := by simpa [hf, hany] using hstays
      simp [TxFrame.isWaitingStatus, hcls] at hwaits

theorem txAfterLoss_nil (place : Nat) : txAfterLoss place [] = [] := by simp [txAfterLoss]

end

/-! ## States whose transmit queue is sound -/

/-- The transmit queue keeps its bounds, and is empty at a station that does not send. -/
def LineSound (s : State) : Prop := QueueBounded s ∧ SilentEmpty s

/-- Line state and transmit queue are as they were. -/
def LineKept (s t : State) : Prop := t.line.state = s.line.state ∧ t.line.tx = s.line.tx

section
variable {s t : State}

/-- Soundness rests on the line state and the queue alone. -/
theorem LineSound.changed (h : LineSound s) (hstate : t.line.state = s.line.state)
    (hbounded : TxBounded s.line.tx → TxBounded t.line.tx) (hempty : s.line.tx = [] → t.line.tx = []) : LineSound t := by
  obtain ⟨hqueue, hsilent⟩ := h
  refine ⟨hbounded hqueue, fun hsending => hempty (hsilent ?_)⟩
  rwa [State.sending_congr hstate] at hsending

theorem LineSound.kept (h : LineSound s) (k : LineKept s t) : LineSound t := by
  obtain ⟨hstate, htx⟩ := k
  exact h.changed hstate (htx ▸ id) (htx ▸ id)

theorem lineSound_of_empty (htx : t.line.tx = []) : LineSound t := by
  refine ⟨?_, fun _ => htx⟩
  change TxBounded t.line.tx
  rw [htx]
  exact .nil

theorem LineSound.handFrame (h : LineSound s) {f : TxFrame} (hf : f.inFlight = false) : LineSound (handFrame f s) := by
  cases hsending : s.sending with
  | false =>
    have hkept : Machine.handFrame f s = s := by simp [Machine.handFrame, hsending]
    rwa [hkept]
  | true =>
    obtain ⟨hqueue, -⟩ := h
    have hbounded : TxBounded s.line.tx := hqueue
    refine ⟨?_, fun hno => ?_⟩
    · change TxBounded (Machine.handFrame f s).line.tx
      unfold Machine.handFrame
      simp only [hsending, Bool.not_true, Bool.false_eq_true, if_false]
      split
      · next hreplaces => exact hbounded.replaceStatus hreplaces.1 hf
      · next hjoins =>
        split
        · next hroom =>
          refine hbounded.append hroom hf fun hwaits => ?_
          simp only [TxFrame.isWaitingStatus, Bool.and_eq_true, beq_iff_eq] at hwaits
          simpa [hwaits.1] using hjoins
        · split
          · next place hplace =>
            split at hplace
            · next hcls => exact hbounded.displace hcls hf hplace
            · cases hplace
          · exact hbounded
    · have hkept : (Machine.handFrame f s).sending = s.sending := State.sending_congr (by simp)
      simp [hkept, hsending] at hno

theorem LineSound.outdateClaims (h : LineSound s) :
    LineSound { s with line := { s.line with tx := outdateClaims s.line.tx } } :=
  h.changed rfl TxBounded.outdateClaims fun hnil => by simp [Machine.outdateClaims, hnil]

theorem LineSound.setSettle (h : LineSound s) : LineSound (setSettle s) := by
  unfold Machine.setSettle
  split
  · exact h
  · exact h.changed rfl TxBounded.outdateNotices fun hnil => by simp [outdateNotices, hnil]

end

end Sys2Proof.Machine
end

section
/-! PROOFS. What every step keeps of the transmit queue (R79, R80, R83, R84): the operations that hand frames over. -/

namespace Sys2Proof.Machine

open Sys2Proof.Safety

section
variable {s t : State}

/-- A step taken only in some states, and otherwise nothing. -/
theorem LineSound.ite {c : Prop} [Decidable c] (hs : LineSound s) (ht : LineSound t) : LineSound (if c then s else t) := by
  split
  · exact hs
  · exact ht

theorem LineSound.handMains (h : LineSound s) (k : MainsKind) : LineSound (handMains k s) := .ite (h.handFrame rfl) h

theorem LineSound.queueStatus (h : LineSound s) : LineSound (queueStatus s) := h.handFrame rfl

theorem LineSound.announceChange (h : LineSound s) (before : State) : LineSound (announceChange before s) := .ite h h.queueStatus

theorem LineSound.handResult (h : LineSound s) (term : Nat) (payload : List Byte) (awaited : Bool) :
    LineSound (handResult term payload awaited s) := h.handFrame rfl

/-! ## Claims (chapter 7) -/

theorem LineSound.endClaim (h : LineSound s) (c : OwnClaim) : LineSound (endClaim c s) :=
  (LineSound.handFrame h (f := newFrame .release 31 (kindPayload c.kind)) rfl).outdateClaims

theorem LineSound.yieldClaim (h : LineSound s) (r : ClaimResult) : LineSound (yieldClaim r s) := by
  unfold Machine.yieldClaim
  split
  · exact .ite h (h.endClaim _)
  · exact h

theorem LineSound.releaseClaim (h : LineSound s) : LineSound (releaseClaim s) := by
  unfold Machine.releaseClaim
  split
  · exact .ite (h.endClaim _) h
  · exact h

theorem LineSound.enterEntry (h : LineSound s) (e : ClaimEntry) : LineSound (enterEntry e s) := by
  have hyielded (n : Nat) : LineSound (if n = s.id.station then Machine.yieldClaim .yielded s else s) := .ite (h.yieldClaim _) h
  unfold Machine.enterEntry
  split
  · exact h
  · split
    · exact h
    · split
      · exact hyielded _
      · exact h

theorem LineSound.listClaimFrame (h : LineSound s) (station : Nat) (k : ClaimKind) : LineSound (listClaimFrame station k s) := by
  unfold Machine.listClaimFrame
  split
  · exact .ite h h
  · exact h.enterEntry _

theorem LineSound.listNotice (h : LineSound s) (station : Nat) (claim : Option AnnouncedClaim) :
    LineSound (listNotice station claim s) := by
  unfold Machine.listNotice
  split
  · exact h
  · dsimp only
    split
    · exact h
    · exact h.enterEntry _

theorem LineSound.handClaim (h : LineSound s) : LineSound (handClaim s) := by
  unfold Machine.handClaim
  split
  · exact h
  · next c _ => exact LineSound.handFrame h (f := newFrame .claim 31 (kindPayload c.kind)) rfl

theorem LineSound.makeClaim (h : LineSound s) (k : ClaimKind) (o : ClaimOrigin) (n : Option Nat) : LineSound (makeClaim k o n s) :=
  LineSound.handClaim h

theorem LineSound.handOwedClaim (h : LineSound s) : LineSound (handOwedClaim s) := by
  unfold Machine.handOwedClaim
  split
  · exact h
  · exact .ite h.handClaim h

theorem LineSound.yieldIfMust (h : LineSound s) : LineSound (yieldIfMust s) := by
  unfold Machine.yieldIfMust
  split
  · exact h
  · exact .ite h (.ite (h.yieldClaim _) (.ite (h.yieldClaim _) h))

theorem LineSound.abandonKind (h : LineSound s) (k : ClaimKind) : LineSound (abandonKind k s) := by
  unfold Machine.abandonKind
  split
  · exact .ite (h.yieldClaim _) h
  · exact h

theorem LineSound.abandonOwned (h : LineSound s) (number : Nat) : LineSound (abandonOwned number s) := by
  unfold Machine.abandonOwned
  split
  · exact .ite (h.yieldClaim _) h
  · exact h

theorem LineSound.abandonKey (h : LineSound s) : LineSound (abandonKey s) := by
  unfold Machine.abandonKey
  split
  · exact .ite (h.yieldClaim _) h
  · exact h

/-! ## The activity stack and the visits (chapters 3 and 9) -/

theorem LineSound.popEqualize (h : LineSound s) : LineSound (popEqualize s) :=
  LineSound.setSettle (h.kept (by simp [LineKept]))

theorem LineSound.abortEqualize (h : LineSound s) : LineSound (abortEqualize s) := by
  unfold Machine.abortEqualize
  split
  · exact h
  · dsimp only
    split <;> exact LineSound.setSettle (h.kept (by simp [LineKept]))

theorem LineSound.endTest (h : LineSound s) (r : TestResult) : LineSound (endTest r s) := by
  unfold Machine.endTest
  split
  · exact h
  · exact (LineSound.releaseClaim (h.kept (by simp [LineKept]))).setSettle

theorem LineSound.forceDischarge (h : LineSound s) : LineSound (forceDischarge s) :=
  .ite h (.ite h (h.endTest .aborted))

theorem LineSound.forceWithdrawal (h : LineSound s) (o : WithdrawalOrigin) : LineSound (forceWithdrawal o s) :=
  .ite h (.ite h (h.endTest .aborted))

theorem LineSound.popDischarge (h : LineSound s) : LineSound (popDischarge s) := by
  unfold Machine.popDischarge
  dsimp only
  split
  · split <;> exact LineSound.setSettle h
  · exact LineSound.setSettle h

theorem LineSound.openVisit (h : LineSound s) (origin : VisitOrigin) (technician planned : Nat) :
    LineSound (openVisit origin technician planned s) := by
  have hended (u : State) (hu : LineSound u) :
      LineSound (Machine.abandonKind .test { u with cond := { u.cond with waiting := false } }) := by
    have hwaits : LineSound { u with cond := { u.cond with waiting := false } } := hu
    exact hwaits.abandonKind _
  exact hended _ (LineSound.endTest (h.kept (by simp [LineKept])) _)

theorem LineSound.reopenForKey (h : LineSound s) : LineSound (reopenForKey s) := by
  have hopened : LineSound (openKeyVisit s) := h.openVisit .key 0 _
  unfold Machine.reopenForKey
  split
  · exact h
  · exact hopened
  · exact hopened

theorem LineSound.endVisit (h : LineSound s) (reason : CloseReason) : LineSound (endVisit reason s) := by
  unfold Machine.endVisit
  split
  · exact h
  · next v _ =>
    have hreturned : LineSound (returnItems v.number s) := h.kept (by simp [LineKept])
    refine LineSound.abandonOwned (LineSound.handFrame ?_ rfl) _
    exact hreturned.kept ⟨rfl, rfl⟩

theorem LineSound.closeVisit (h : LineSound s) (reason : CloseReason) : LineSound (closeVisit reason s) := by
  unfold Machine.closeVisit
  split
  · exact h
  · exact (h.endVisit reason).reopenForKey

theorem LineSound.ownedRemoved (h : LineSound s) (owner : Nat) : LineSound (ownedRemoved owner s) := by
  unfold Machine.ownedRemoved
  split
  · exact h
  · exact .ite (h.closeVisit .key) h

theorem LineSound.withdrawalHandedBack (h : LineSound s) (w : WithdrawalFrame) : LineSound (withdrawalHandedBack w s) := by
  have hreleased : LineSound (if w.origin = .claimed then Machine.releaseClaim (takeOff Frame.isWithdrawal s)
      else takeOff Frame.isWithdrawal s) := .ite (LineSound.releaseClaim h) h
  unfold Machine.withdrawalHandedBack
  dsimp only
  split
  · exact hreleased.ownedRemoved _
  · exact hreleased

theorem LineSound.popWithdrawal (h : LineSound s) : LineSound (popWithdrawal s) := by
  cases hw : s.withdrawal? with
  | none => simpa [Machine.popWithdrawal, hw] using h
  | some w =>
    rw [popWithdrawal_of_some hw]
    exact LineSound.setSettle (.ite (h.withdrawalHandedBack w) (h.withdrawalHandedBack w))

/-! ## The breaker and the mains (chapter 8) -/

theorem LineSound.uncommandedClosure (h : LineSound s) : LineSound (uncommandedClosure s) :=
  LineSound.forceWithdrawal (h.kept (by simp [LineKept])) .manual

theorem LineSound.timeOutTransfer (h : LineSound s) : LineSound (timeOutTransfer s) := by
  have hpopped : LineSound (Machine.popWithdrawal (askPulse .mbpo s)) := LineSound.popWithdrawal (h.kept (by simp [LineKept]))
  exact hpopped.kept (by simp [LineKept, Machine.timeOutTransfer])

theorem LineSound.becomeClosed (h : LineSound s) (last : Confirmed) : LineSound (becomeClosed last s) := by
  unfold Machine.becomeClosed
  split
  · split
    · exact h.kept (by simp [LineKept])
    · exact h
    · exact h
    · exact h
  · exact .ite h (.ite h.uncommandedClosure h)

theorem LineSound.becomeOpen (h : LineSound s) : LineSound (becomeOpen s) := by
  have hended : LineSound { s with bypass := { s.bypass with recovery := none } } := h
  have huncommanded : LineSound (uncommanded { s with bypass := { s.bypass with recovery := none } }) :=
    hended.kept (by simp [LineKept])
  unfold Machine.becomeOpen
  dsimp only
  split
  · split
    · exact hended
    · exact .ite huncommanded.popWithdrawal hended
    · exact hended.popWithdrawal
    · exact hended.popWithdrawal
  · exact hended

theorem LineSound.moveBreaker (h : LineSound s) (cl op : Bool) : LineSound (moveBreaker cl op s) := by
  have htaken : LineSound (takeContacts cl op s) := h
  unfold Machine.moveBreaker
  dsimp only
  split
  · exact htaken
  · split
    · exact LineSound.becomeClosed (htaken.kept (by simp [LineKept])) _
    · exact LineSound.becomeOpen (htaken.kept (by simp [LineKept]))
    · exact htaken
    · exact htaken
    · exact htaken

theorem LineSound.adopt (h : LineSound s) : LineSound (adopt s) := .ite (h.forceWithdrawal _) h

theorem LineSound.endRecovery (h : LineSound s) : LineSound (endRecovery s) :=
  .ite (LineSound.uncommandedClosure (s := { s with bypass := { s.bypass with recovery := none } }) h) h

theorem LineSound.loseMains (h : LineSound s) : LineSound (loseMains s) :=
  LineSound.forceDischarge (LineSound.handMains (s := { s with bypass := { s.bypass with mains := .lost, lossTimer := none } }) h _)

theorem LineSound.restoreMains (h : LineSound s) : LineSound (restoreMains s) := by
  have htold := LineSound.handMains (s := { s with bypass := { s.bypass with mains := .present, qualTimer := none } }) h .restored
  exact .ite htold.popDischarge htold

/-! ## The key (R144 to R147) -/

theorem LineSound.openForKey (h : LineSound s) : LineSound (openForKey s) := by
  unfold Machine.openForKey
  split
  · exact h.openVisit _ _ _
  · exact .ite h h

theorem LineSound.dropRequest (h : LineSound s) : LineSound (dropRequest s) :=
  LineSound.abandonKey (s := { s with visits := { s.visits with requestHeld := false } }) h

theorem LineSound.askReturn (h : LineSound s) : LineSound (askReturn s) := h.kept (by simp [LineKept])

theorem LineSound.pendClose (h : LineSound s) : LineSound (pendClose s) := by
  unfold Machine.pendClose
  split
  · exact h
  · exact .ite (.ite h (LineSound.closeVisit (s := changeVisit (fun u => { u with closePending := true }) s) h _)) h

theorem LineSound.keyEffects (h : LineSound s) (old new : KeyPosition) : LineSound (keyEffects old new s) := by
  unfold Machine.keyEffects
  split
  · exact h.openForKey
  · exact h.openForKey
  · exact h
  · exact h.dropRequest.askReturn
  · exact h.dropRequest.askReturn.pendClose
  · exact h.askReturn.pendClose
  · exact h
  · exact h
  · exact h

theorem LineSound.settleKey (h : LineSound s) : LineSound (settleKey s) := by
  unfold Machine.settleKey
  split
  · exact h
  · next new _ => exact .ite h (LineSound.keyEffects (s := { s with visits := { s.visits with stable := new } }) h _ _)

/-! ## The end of an event -/

theorem LineSound.holdClaim (h : LineSound s) (c : OwnClaim) : LineSound (holdClaim c s) := h.kept (by simp [LineKept])

theorem LineSound.commit (h : LineSound s) : LineSound (commit s) := by
  unfold Machine.commit
  split
  · exact h
  · refine .ite (h.yieldClaim _) ?_
    split <;> exact LineSound.holdClaim (h.kept (by simp [LineKept])) _

theorem LineSound.takeWaiting (h : LineSound s) : LineSound (takeWaiting s) := by
  have hdropped : LineSound (dropWaiting s) := h
  exact .ite (.ite (hdropped.makeClaim _ _ _) hdropped) h

theorem LineSound.tryEqualize (h : LineSound s) : LineSound (tryEqualize s) := h.kept (by simp [LineKept])

theorem LineSound.tryTest (h : LineSound s) : LineSound (tryTest s) := .ite (h.takeWaiting.makeClaim _ _ _) h.takeWaiting

theorem LineSound.tryKey (h : LineSound s) : LineSound (tryKey s) := .ite (h.makeClaim _ _ _) h

theorem LineSound.startActivities (h : LineSound s) : LineSound (startActivities s) := by
  have hdrawn : LineSound { s with free := s.free + 1 } := h
  exact .ite (.ite hdrawn.tryEqualize.tryTest hdrawn.tryTest.tryEqualize) h.tryEqualize.tryTest.tryKey

theorem LineSound.conditionAborts (h : LineSound s) : LineSound (conditionAborts s) := by
  have htest : LineSound (if s.hasTest && testBarred s then Machine.endTest .aborted s else s) := .ite (h.endTest _) h
  exact .ite htest.abortEqualize htest

theorem LineSound.supportAbort (h : LineSound s) : LineSound (supportAbort s) := .ite (h.endTest _) h

theorem LineSound.tryCommit (h : LineSound s) : LineSound (tryCommit s) := .ite h.commit h

theorem LineSound.refresh (h : LineSound s) : LineSound (refresh s) := h

theorem LineSound.settle (h : LineSound s) : LineSound (settle s) := by
  have hyielded : LineSound (Machine.yieldIfMust (Machine.refresh s)) := h.refresh.yieldIfMust
  have haborted := hyielded.conditionAborts.refresh.supportAbort
  have hcommitted := haborted.refresh.tryCommit.refresh
  have howned : LineSound (giveOwner (Machine.refresh (Machine.tryCommit (Machine.refresh (Machine.supportAbort (Machine.refresh
      (Machine.conditionAborts (Machine.yieldIfMust (Machine.refresh s)))))))))  := hcommitted.kept (by simp [LineKept])
  exact howned.handOwedClaim.startActivities

theorem LineSound.finish (h : LineSound s) (before : State) : LineSound (finish before s) :=
  (h.settle.announceChange before).kept (by simp [LineKept, Machine.finish])

end

end Sys2Proof.Machine
end

section
/-! PROOFS. What every step keeps of the transmit queue (R79, R80, R83, R84): the commands one by one. -/

namespace Sys2Proof.Machine

open Sys2Proof.Safety

section
variable {s t : State}

theorem LineSound.keptFinish {before : State} (h : LineSound s) (k : LineKept s t) : LineSound (Machine.finish before t) :=
  LineSound.finish (h.kept k) before

/-! ## Measurement and conditioning -/

theorem LineSound.sampleTest (h : LineSound s) (bs : List BurstString) : LineSound (sampleTest bs s) := by
  unfold Machine.sampleTest
  split
  · exact h
  · next f _ =>
    have hcounted : LineSound (changeTest (countedStrings s.cfg bs f.strings) s) := h
    exact .ite (hcounted.endTest _) (.ite (hcounted.endTest _) hcounted)

theorem LineSound.abortBeforeSample (h : LineSound s) (bs : List BurstString) : LineSound (abortBeforeSample bs s) := by
  have hdrawn : LineSound { s with free := s.free + 1 } := h
  exact .ite (.ite hdrawn hdrawn.abortEqualize) h

theorem LineSound.commitBeforeSample (h : LineSound s) (bs : List BurstString) : LineSound (commitBeforeSample bs s) := by
  have hdrawn : LineSound { s with free := s.free + 1 } := h
  exact .ite (.ite hdrawn hdrawn.commit) h

theorem LineSound.sampleTestAndHot (h : LineSound s) (bs : List BurstString) : LineSound (sampleTestAndHot bs s) := by
  have hdrawn : LineSound { s with free := s.free + 1 } := h
  exact .ite (LineSound.endTest (.ite (hdrawn.sampleTest bs) hdrawn) .aborted) (h.sampleTest bs)

theorem LineSound.sampleReceivers (h : LineSound s) (bs : List BurstString) : LineSound (sampleReceivers bs s) := by
  have haccounts (u : State) (hu : LineSound u) : LineSound (sampleAccounts bs u) := hu.kept (by simp [LineKept])
  have hstarted (u : State) (hu : LineSound u) : LineSound (startBeforeAccounts bs u) := hu.kept (by simp [LineKept])
  have hdrawn : LineSound { s with free := s.free + 1 } := h
  exact .ite (.ite (haccounts _ (hstarted _ (hdrawn.sampleTestAndHot bs))) ((haccounts _ hdrawn).sampleTestAndHot bs))
    ((haccounts _ (hstarted _ h)).sampleTestAndHot bs)

theorem LineSound.acceptBurst (h : LineSound s) (load : Nat) (bs : List BurstString) : LineSound (acceptBurst load bs s) := by
  have htaken : LineSound { s with intake := takeBurst load bs s.intake } := h
  exact (((htaken.abortBeforeSample bs).commitBeforeSample bs).sampleReceivers bs).finish s

theorem LineSound.equalizeMinute (h : LineSound s) (f : EqualizeFrame) (rest : List Frame) : LineSound (equalizeMinute f rest s) :=
  .ite h.popEqualize (h.kept (by simp [LineKept]))

theorem LineSound.testSecond (h : LineSound s) : LineSound (testSecond s) := by
  have haged : LineSound (ageTest s) := h
  exact .ite (haged.endTest _) haged

/-! ## The line controller (chapter 5) -/

theorem LineSound.startFrame (h : LineSound s) : LineSound (startFrame s) := by
  unfold Machine.startFrame
  split
  · exact h
  · next hidle =>
    have hnone : flightPlace s.line.tx = none := by
      simp only [Bool.not_eq_true, Bool.or_eq_false_iff, Option.isSome_eq_false_iff, Option.isNone_iff_eq_none] at hidle
      exact hidle.2
    split
    · exact h
    · exact h.changed rfl (fun htx => htx.start hnone _) fun hnil => by simp [setTx, hnil]

theorem LineSound.abandonFrame (h : LineSound s) (place : Nat) (f : TxFrame) : LineSound (abandonFrame place f s) := by
  have hgone : LineSound { s with line := { s.line with
      tx := s.line.tx.eraseIdx place, abandoned := inc16 s.line.abandoned } } :=
    h.changed rfl (fun htx => htx.eraseIdx place) fun hnil => by simp [hnil]
  exact LineSound.handOwedClaim (hgone.kept (by simp [LineKept]))

theorem LineSound.sendFrame (h : LineSound s) (place : Nat) (f : TxFrame) : LineSound (sendFrame place f s) := by
  have hgone : LineSound { s with line := { s.line with tx := s.line.tx.eraseIdx place, sent := inc16 s.line.sent } } :=
    h.changed rfl (fun htx => htx.eraseIdx place) fun hnil => by simp [hnil]
  exact hgone.kept (by simp [LineKept, Machine.sendFrame])

/-- A part whose queue is empty hands over nothing while it does not send. -/
theorem lineSound_mute (s : State) : LineSound (mute s) := by
  have hempty : LineSound (setCondition .duplicateId true
      { s with line := { s.line with state := .muted, tx := [], statusTimer := none } }) := lineSound_of_empty rfl
  exact (hempty.yieldClaim .abandoned).kept ⟨rfl, rfl⟩

theorem LineSound.joined (h : LineSound s) (htx : t.line.tx = s.line.tx)
    (hstate : t.line.state = s.line.state.joinedState) : LineSound t := by
  obtain ⟨hqueue, hsilent⟩ := h
  have hsending : t.sending = s.sending := by
    unfold State.sending
    rw [hstate]
    cases s.line.state <;> rfl
  refine ⟨?_, fun hno => htx ▸ hsilent (hsending ▸ hno)⟩
  rwa [QueueBounded, htx]

/-! ## Peers and claims (chapters 6 and 7) -/

theorem LineSound.takeNotice (h : LineSound s) (station : Nat) (n : Notice) : LineSound (takeNotice station n s) := by
  have hheard : LineSound (hear station (setPeer station (refreshedPeer n) (countReceived s))) := h.kept (by simp [LineKept])
  have hlisted := hheard.listNotice station n.claim
  have hpeer : LineSound (setPeer station (refreshedPeer n) (countReceived s)) := h.kept (by simp [LineKept])
  exact .ite (hlisted.kept (by simp [LineKept])) hpeer

/-! ## Requests (R85, R86) -/

theorem LineSound.request (h : LineSound s) (term : Nat) (code tag : Byte) (args : List Byte) {serve : State → Served}
    (hserve : ∀ u, LineSound u → LineSound (serve u).state) : LineSound (request term code tag args serve s) := by
  have hcounted : LineSound (countReceived s) := h
  unfold Machine.request
  dsimp only
  split
  · exact h
  · split
    · exact hcounted
    · split
      · exact hcounted.handResult _ _ _
      · exact hcounted.handResult _ _ _
      · have hstored : LineSound (storeAnswer term (requestPayload code tag args)
            (resultPayload code tag (serve (countReceived s)).code (serve (countReceived s)).data)
            (serve (countReceived s)).state) := hserve _ hcounted
        exact (hstored.handResult _ _ _).finish s

theorem LineSound.withItem (h : LineSound s) (number : Nat) {f : Visit → Nat → Item → Served}
    (hf : ∀ v place it, LineSound (f v place it).state) : LineSound (withItem number s f).state := by
  unfold Machine.withItem
  split
  · exact h
  · split
    · exact h
    · split
      · exact h
      · split
        · exact h
        · exact hf _ _ _

theorem LineSound.serveVisitOpen (h : LineSound s) (term technician planned : Nat) :
    LineSound (serveVisitOpen term technician planned s).state := by
  unfold Machine.serveVisitOpen
  dsimp only
  split
  · exact h
  · split
    · exact h
    · exact h.openVisit _ _ _

theorem LineSound.serveVisitClose (h : LineSound s) (number : Nat) : LineSound (serveVisitClose number s).state := by
  have hclosed : LineSound (closeByTerminal s) := (h.endVisit .terminal).startActivities.reopenForKey
  unfold Machine.serveVisitClose
  split
  · exact h
  · split
    · exact h
    · split
      · exact h
      · split
        · exact h
        · split
          · exact h
          · exact hclosed

theorem LineSound.serveItemTake (h : LineSound s) (number : Nat) : LineSound (serveItemTake number s).state := by
  refine h.withItem number fun v place it => ?_
  split
  · exact h
  · split
    · exact h
    · exact h.kept (by simp [LineKept, answer])

theorem LineSound.serveItemReturn (h : LineSound s) (number : Nat) : LineSound (serveItemReturn number s).state := by
  refine h.withItem number fun v place it => ?_
  split
  · exact h
  · exact h.kept (by simp [LineKept, answer])

theorem LineSound.serveItemDone (h : LineSound s) (number : Nat) : LineSound (serveItemDone number s).state := by
  refine h.withItem number fun v place it => ?_
  split
  · exact h
  · split
    · exact h
    · exact h.kept (by simp [LineKept, answer])

theorem LineSound.serveWithdraw (h : LineSound s) (n : Nat) : LineSound (serveWithdraw n s).state := by
  unfold Machine.serveWithdraw
  split
  · exact h
  · split
    · exact h
    · split
      · split
        · exact h.kept (by simp [LineKept, answer])
        · exact h
      · split
        · exact h
        · split
          · exact h
          · split
            · exact h
            · exact h.makeClaim _ _ _

theorem LineSound.serveReturn (h : LineSound s) : LineSound (serveReturn s).state := by
  unfold Machine.serveReturn
  split
  · exact h
  · exact h.askReturn

theorem LineSound.serveTestNow (h : LineSound s) : LineSound (serveTestNow s).state := by
  unfold Machine.serveTestNow
  split
  · exact h
  · split
    · exact h
    · exact h.makeClaim _ _ _

theorem LineSound.serveStop (h : LineSound s) : LineSound (serveStop s).state := by
  unfold Machine.serveStop
  split
  · exact h.abortEqualize.endTest .aborted
  · exact h

theorem LineSound.serveClear (h : LineSound s) (named : Nat) : LineSound (serveClear named s).state := by
  have hcleared : LineSound ((clearedBy named s.monitor.active).foldl (fun t k => setCondition k false t) s) :=
    foldl_inv (P := LineSound) _ (fun u k hu => hu.kept (by simp [LineKept])) _ _ h
  unfold Machine.serveClear
  dsimp only
  (repeat' split) <;> exact hcleared

theorem LineSound.serveForget (h : LineSound s) (n : Nat) : LineSound (serveForget n s).state := by
  unfold Machine.serveForget
  split
  · exact h
  · split
    · exact h
    · exact h
    · exact h.kept (by simp [LineKept, answer])

theorem LineSound.serveRestart (h : LineSound s) : LineSound (serveRestart s).state := by
  unfold Machine.serveRestart
  split
  · exact h
  · split
    · exact h
    · exact h.kept (by simp [LineKept, answer])

theorem LineSound.serveRead (h : LineSound s) (term : Nat) (tag : Byte) (kind index : Nat) :
    LineSound (serveRead term tag kind index s) := by
  unfold Machine.serveRead
  split
  · exact h.handResult _ _ _
  · exact h.handResult _ _ _
  · exact h.handResult _ _ _
  · rw [recordFrames, List.foldl_map]
    exact foldl_inv (P := LineSound) _ (fun u p hu => hu.handFrame rfl) _ _ (h.handResult _ _ _)

theorem LineSound.requestRead (h : LineSound s) (term : Nat) (tag : Byte) (args : List Byte) :
    LineSound (requestRead term tag args s) := by
  have hcounted : LineSound (countReceived s) := h
  exact .ite h (.ite hcounted (.ite (hcounted.handResult _ _ _) (hcounted.serveRead _ _ _ _)))

/-! ## Holding and starting the part -/

theorem lineSound_startPart (st : Straps) (image : Option Image) (lost : List PageId) (s : State) :
    LineSound (startPart st image lost s) := by
  have hrefused : LineSound (configFault (readStraps st (clearBlocks s))) := lineSound_of_empty rfl
  cases hstation : isStation st.id.toNat with
  | false => rwa [startPart_refused (.inl hstation)]
  | true =>
    cases image with
    | none => rwa [startPart_refused (.inr (by simp))]
    | some im =>
      cases hgood : imageGood im with
      | false => rwa [startPart_refused (.inr (by simpa using hgood))]
      | true =>
        have hmains : (configured st im s).bypass.mains = .present := rfl
        have hconfirmed : (configured st im s).bypass.confirmed = .unknown := rfl
        rw [startPart_good hstation hgood]
        refine lineSound_of_empty ?_
        rw [bringUp_line hmains hconfirmed]
        rfl

/-! ## The commands -/

/-- The state that a command answers has a sound transmit queue. -/
def NextLineSound (o : Host.Outcome State Fault Refusal) : Prop := ∀ t, o = .next t → LineSound t

theorem nextLineSound_next (h : LineSound t) : NextLineSound (.next t) := by
  rintro _ ⟨⟩
  exact h

theorem exec_nextLineSound (c : Instr) (h : LineSound s) : NextLineSound (exec c s) := by
  cases c with
  | resetNAsserted => exact nextLineSound_next (lineSound_of_empty rfl)
  | powerLoss => exact nextLineSound_next (lineSound_of_empty rfl)
  | start st image lost => exact nextLineSound_next (lineSound_startPart st image lost s)
  | restartStart st image lost => exact nextLineSound_next (.ite (lineSound_startPart st image lost s) h)
  | measurementBurst bytes extra early =>
    refine nextLineSound_next (.ite h ?_)
    split
    · exact h
    · exact h
    · exact h.acceptBurst _ _
  | intakeSecondTimerExpiry => exact nextLineSound_next (.ite h (h.keptFinish (by simp [LineKept])))
  | wearSecondTimerExpiry => exact nextLineSound_next (.ite h (h.keptFinish (by simp [LineKept])))
  | equalizeMinuteTimerExpiry =>
    refine nextLineSound_next ?_
    split
    · exact (h.equalizeMinute _ _).finish s
    · exact h
  | testSecondTimerExpiry =>
    have hagain : LineSound { s with cond := { s.cond with testSecond := seconds 1 } } := h
    exact nextLineSound_next (.ite h (hagain.testSecond.finish s))
  | frameStart => exact nextLineSound_next h.startFrame
  | arbitrationLoss =>
    refine nextLineSound_next ?_
    split
    · exact h
    · next place _ =>
      have hlost : LineSound { s with line := { s.line with
          tx := txAfterLoss place s.line.tx, losses := inc16 s.line.losses } } :=
        h.changed rfl (fun htx => htx.afterLoss place) fun hnil => by simp [hnil, txAfterLoss_nil]
      exact hlost.handOwedClaim
  | frameAbandoned =>
    refine nextLineSound_next ?_
    split
    · exact h
    · split
      · exact h
      · exact h.abandonFrame _ _
  | frameSent =>
    refine nextLineSound_next ?_
    split
    · exact h
    · split
      · exact h
      · exact (h.sendFrame _ _).finish s
  | lineSynchronised => exact nextLineSound_next (.ite (h.kept ⟨rfl, rfl⟩) h)
  | frameRejected frame =>
    refine nextLineSound_next (.ite h ?_)
    split
    · exact h
    · exact .ite (h.kept (by simp [LineKept])) (h.kept (by simp [LineKept]))
  | statusReceived source payload =>
    refine nextLineSound_next (.ite h ?_)
    split
    · exact h
    · exact (h.takeNotice _ _).finish s
  | duplicateNumberHeard => exact nextLineSound_next (.ite h (.ite ((lineSound_mute _).finish s) h))
  | claimReceived source kind =>
    have hcounted : LineSound (countReceived s) := h
    exact nextLineSound_next (.ite h (.ite hcounted ((hcounted.listClaimFrame _ _).finish s)))
  | releaseReceived source kind => exact nextLineSound_next (.ite h (.ite h (h.keptFinish (by simp [LineKept]))))
  | mainsReceived source kind => exact nextLineSound_next (.ite h (.ite h h))
  | resultRecordReceived => exact nextLineSound_next (.ite h h)
  | statusTimerExpiry =>
    have hagain : LineSound { s with line := { s.line with statusTimer := seconds 1 } } := h.kept ⟨rfl, rfl⟩
    exact nextLineSound_next (.ite h hagain.queueStatus)
  | joiningTimerExpiry =>
    have hjoined : LineSound { s with line := { s.line with joiningTimer := none, state := s.line.state.joinedState } } :=
      h.joined rfl rfl
    exact nextLineSound_next (.ite h (hjoined.adopt.finish s))
  | staleTimerExpiry station => exact nextLineSound_next (.ite (h.keptFinish (by simp [LineKept])) h)
  | claimWindowTimerExpiry => exact nextLineSound_next (.ite h ((h.yieldClaim _).finish s))
  | spacingTimerExpiry => exact nextLineSound_next (.ite h (h.keptFinish ⟨rfl, rfl⟩))
  | confirmationTimerExpiry station => exact nextLineSound_next (.ite (h.keptFinish (by simp [LineKept])) h)
  | mainsOkChange level => exact nextLineSound_next (.ite h (.ite (h.kept (by simp [LineKept])) h))
  | mainsLossTimerExpiry => exact nextLineSound_next (.ite h (h.loseMains.finish s))
  | mainsQualificationTimerExpiry => exact nextLineSound_next (.ite h (h.restoreMains.finish s))
  | breakerContactChange cl op =>
    have hmoved : LineSound { s with pins := { s.pins with mbpCl := cl, mbpOp := op } } := h
    exact nextLineSound_next (.ite h (.ite ((hmoved.moveBreaker cl op).finish s) h))
  | disagreeTimerExpiry => exact nextLineSound_next (.ite h h)
  | pulseEnd => exact nextLineSound_next (h.kept (by simp [LineKept]))
  | transferTimeout => exact nextLineSound_next (.ite (h.timeOutTransfer.finish s) h)
  | returnTimeout => exact nextLineSound_next (.ite (h.keptFinish (by simp [LineKept])) h)
  | recoveryWaitExpiry => exact nextLineSound_next (.ite h (h.endRecovery.finish s))
  | bypLoadChange level =>
    have hchanged : LineSound { s with pins := { s.pins with bypLoad := level } } := h
    exact nextLineSound_next (.ite h (.ite (LineSound.finish (.ite (hchanged.kept (by simp [LineKept])) hchanged) s) h))
  | keyInputChange keyS keyW => exact nextLineSound_next (.ite h (.ite h h))
  | keySettleTimerExpiry =>
    have hended : LineSound { s with visits := { s.visits with settleTimer := none } } := h
    exact nextLineSound_next (.ite h (hended.settleKey.finish s))
  | overdueTimerExpiry => exact nextLineSound_next (.ite h (h.keptFinish (by simp [LineKept])))
  | hourTimerExpiry => exact nextLineSound_next (.ite h (h.keptFinish (by simp [LineKept])))
  | memoryWriteDone => exact nextLineSound_next (.ite h (h.kept (by simp [LineKept])))
  | memoryWriteFail => exact nextLineSound_next (.ite h (h.keptFinish (by simp [LineKept])))
  | visitOpen term tag args => exact nextLineSound_next (h.request _ _ _ _ fun _ hu => hu.serveVisitOpen _ _ _)
  | visitClose term tag args => exact nextLineSound_next (h.request _ _ _ _ fun _ hu => hu.serveVisitClose _)
  | itemTake term tag args => exact nextLineSound_next (h.request _ _ _ _ fun _ hu => hu.serveItemTake _)
  | itemDone term tag args => exact nextLineSound_next (h.request _ _ _ _ fun _ hu => hu.serveItemDone _)
  | itemReturn term tag args => exact nextLineSound_next (h.request _ _ _ _ fun _ hu => hu.serveItemReturn _)
  | withdraw term tag args => exact nextLineSound_next (h.request _ _ _ _ fun _ hu => hu.serveWithdraw _)
  | returnRequest term tag args => exact nextLineSound_next (h.request _ _ _ _ fun _ hu => hu.serveReturn)
  | testNow term tag args => exact nextLineSound_next (h.request _ _ _ _ fun _ hu => hu.serveTestNow)
  | equalizeNow term tag args =>
    exact nextLineSound_next (h.request _ _ _ _ fun _ hu => hu.kept (by simp [LineKept, serveEqualizeNow, answer]))
  | stop term tag args => exact nextLineSound_next (h.request _ _ _ _ fun _ hu => hu.serveStop)
  | clear term tag args => exact nextLineSound_next (h.request _ _ _ _ fun _ hu => hu.serveClear _)
  | forget term tag args => exact nextLineSound_next (h.request _ _ _ _ fun _ hu => hu.serveForget _)
  | read term tag args => exact nextLineSound_next (h.requestRead _ _ _)
  | restart term tag args => exact nextLineSound_next (h.request _ _ _ _ fun _ hu => hu.serveRestart)
  | unknownRequestCode term code tag args => exact nextLineSound_next (.ite h (h.request _ _ _ _ fun _ hu => hu))

theorem LineSound.tick (h : LineSound s) : LineSound (tick s) := by
  unfold Machine.tick
  split
  · exact h
  · exact h.kept ⟨rfl, rfl⟩

/-- Settles O5: a step is a tick or a command, and each keeps the transmit queue sound. -/
theorem stepKeepsLineSound : Obligations.StepKeepsLineSound := by
  intro s t hqueue hsilent hstep
  have h : LineSound s := ⟨hqueue, hsilent⟩
  unfold step at hstep
  split at hstep
  · cases hstep
    exact h.tick
  · next c rest _ =>
    have hpopped : LineSound { s with pending := rest } := h
    exact exec_nextLineSound c hpopped t hstep

end

end Sys2Proof.Machine
end

section
/-! PROOFS. The line controller's own events: what a frame handed over does to the queue (R80), the frame that starts, is not sent or
is rejected (R73 to R78), and the notices (R81, R82). -/

namespace Sys2Proof.Machine

open Sys2Proof.Safety

/-! ## A frame handed over (R80) -/

section
variable {s : State} {f : TxFrame}

theorem handFrame_of_silent (hsilent : s.sending = false) : handFrame f s = s := by simp [handFrame, hsilent]

theorem handFrame_of_waiting (hsends : s.sending = true) (hcls : f.cls = .status)
    (hwaits : s.line.tx.any TxFrame.isWaitingStatus = true) :
    handFrame f s = { s with line := { s.line with tx := s.line.tx.map fun g => if g.isWaitingStatus then f else g } } := by
  unfold handFrame
  simp only [hsends, hcls, hwaits, Bool.not_true, Bool.false_eq_true, if_false, and_self, if_true]

theorem handFrame_of_room (hsends : s.sending = true) (hroom : s.line.tx.length < 6)
    (hjoins : f.cls = .status → s.line.tx.any TxFrame.isWaitingStatus = false) :
    handFrame f s = { s with line := { s.line with tx := s.line.tx ++ [f] } } := by
  have hplain : ¬(f.cls = .status ∧ s.line.tx.any TxFrame.isWaitingStatus = true) := by
    rintro ⟨hcls, hwaits⟩
    simp [hjoins hcls] at hwaits
  unfold handFrame
  dsimp only
  rw [if_neg (by simp [hsends]), if_neg hplain, if_pos hroom]

/-- A STATUS displaces nothing. -/
theorem handFrame_of_full (hsends : s.sending = true) (hcls : f.cls = .status)
    (hnone : s.line.tx.any TxFrame.isWaitingStatus = false) (hfull : 6 ≤ s.line.tx.length) :
    handFrame f s = { s with line := { s.line with drops := inc16 s.line.drops } } := by
  have hplain : ¬(f.cls = .status ∧ s.line.tx.any TxFrame.isWaitingStatus = true) := by simp [hnone]
  unfold handFrame
  dsimp only
  rw [if_neg (by simp [hsends]), if_neg hplain, if_neg (by omega)]
  simp [hcls, FrameClass.displaces]

end

/-! ## The frame that starts (R74, R79) -/

section
variable {tx : List TxFrame} {place : Nat} {f : TxFrame}

/-- Each class has a code of its own (5.9.1). -/
theorem FrameClass.code_injective : Function.Injective FrameClass.code := by
  intro c d h
  cases c <;> cases d <;> first | rfl | cases h

theorem modifyFrame_eq_set (g : TxFrame → TxFrame) (hf : tx[place]? = some f) : tx.modify place g = tx.set place (g f) := by
  rw [List.modify_eq_set_getElem?, hf]
  rfl

theorem flightPlace_of_first (hf : tx[place]? = some f) (hflies : f.inFlight = true)
    (hfirst : ∀ (j : Nat) (g : TxFrame), j < place → tx[j]? = some g → g.inFlight = false) : flightPlace tx = some place := by
  obtain ⟨hlt, rfl⟩ := List.getElem?_eq_some_iff.mp hf
  refine List.findIdx?_eq_some_iff_getElem.mpr ⟨hlt, hflies, fun j hj => ?_⟩
  simp [hfirst j tx[j] hj (List.getElem?_eq_getElem (hj.trans hlt))]

theorem flightPlace_of_none (hnone : ∀ g ∈ tx, g.inFlight = false) : flightPlace tx = none := List.findIdx?_eq_none_iff.mpr hnone

theorem flightPlace_isSome (hany : tx.any TxFrame.inFlight = true) : (flightPlace tx).isSome = true := by
  rwa [flightPlace, List.findIdx?_isSome]

/-- The first frame of the lowest class is the head of the queue. -/
theorem headPlace_of_first (hf : tx[place]? = some f) (hlowest : ∀ g ∈ tx, f.cls.code ≤ g.cls.code)
    (hfirst : ∀ (j : Nat) (g : TxFrame), j < place → tx[j]? = some g → g.cls ≠ f.cls) : headPlace tx = some place := by
  have hmin : (tx.map fun g => g.cls.code).min? = some f.cls.code := by
    refine List.min?_eq_some_iff.mpr ⟨List.mem_map_of_mem (List.mem_of_getElem? hf), fun code hcode => ?_⟩
    obtain ⟨g, hg, rfl⟩ := List.mem_map.mp hcode
    exact hlowest g hg
  obtain ⟨hlt, rfl⟩ := List.getElem?_eq_some_iff.mp hf
  unfold headPlace
  rw [hmin]
  refine List.findIdx?_eq_some_iff_getElem.mpr ⟨hlt, by simp, fun j hj hsame => ?_⟩
  exact hfirst j tx[j] hj (List.getElem?_eq_getElem (hj.trans hlt)) (FrameClass.code_injective (by simpa using hsame))

end

/-- Settles O30: the head of the queue is the frame named, and without a station that may start one nothing does. -/
theorem lowestClassOldestStarts : Obligations.LowestClassOldestStarts := by
  unfold Obligations.LowestClassOldestStarts
  refine ⟨fun s place f hsends hsync hidle hf hlowest hfirst => ?_, fun s hblocked => ?_⟩
  · change Host.Outcome.next (startFrame s) = _
    unfold startFrame
    rw [flightPlace_of_none hidle, headPlace_of_first hf hlowest hfirst]
    simp [hsends, hsync, setTx, modifyFrame_eq_set _ hf]
  · change Host.Outcome.next (startFrame s) = _
    unfold startFrame
    rcases hblocked with hsilent | hlost | hempty | hflies
    · simp [hsilent]
    · simp [hlost]
    · simp [hempty, headPlace]
    · simp [flightPlace_isSome hflies]

/-! ## The frame that is not sent (R74, R75) -/

section
variable {s : State} {f : TxFrame} {place : Nat}

/-- An abandoned frame that is no CLAIM of a claim now standing owes nothing. -/
theorem oweClaim_of_other (h : f.cls ≠ .claim ∨ f.fresh = false ∨ s.claims.own = none) : oweClaim f s = s := by
  unfold oweClaim
  split
  · next hclaim =>
    rcases h with hcls | hfresh | hown
    · exact absurd hclaim.1 hcls
    · simp [hfresh] at hclaim
    · rw [hown, Option.map_none, ← hown]
  · rfl

theorem handOwedClaim_of_owesNothing (h : ∀ c, s.claims.own = some c → c.owed = false) : handOwedClaim s = s := by
  cases hown : s.claims.own with
  | none => simp [handOwedClaim, hown]
  | some c => exact handOwedClaim_of_notOwed hown (h c hown)

/-- A CLAIM that is owed is handed over to a queue with room. -/
theorem handOwedClaim_of_room {c : OwnClaim} (hown : s.claims.own = some c) (howed : c.owed = true) (hclaiming : c.holding = false)
    (hwindow : s.claims.window.isSome = true) (hsends : s.sending = true) (hroom : s.line.tx.length < 6) :
    handOwedClaim s = { s with
      line := { s.line with tx := s.line.tx ++ [newFrame .claim 31 (kindPayload c.kind)] }
      claims := { s.claims with own := some { c with owed := false } } } := by
  have htakes : takes .claim s.line.tx = true := by simp [takes, hroom]
  have hhanded := handFrame_of_room (f := newFrame .claim 31 (kindPayload c.kind)) hsends hroom fun hcls => by cases hcls
  unfold handOwedClaim handClaim
  simp [hown, howed, hclaiming, hwindow, hsends, htakes, hhanded]

end

/-- The frame in flight has left the queue, abandoned. -/
def flightAbandoned (place : Nat) (s : State) : State :=
  { s with line := { s.line with tx := s.line.tx.eraseIdx place, abandoned := inc16 s.line.abandoned } }

theorem abandonFrame_eq (place : Nat) (f : TxFrame) (s : State) :
    abandonFrame place f s = handOwedClaim (oweClaim f (flightAbandoned place s)) := rfl

/-- Settles O31: the frame in flight loses its place in flight or its place in the queue, and an own claim owes a CLAIM where the
frame was its own. -/
theorem frameNotSent : Obligations.FrameNotSent := by
  unfold Obligations.FrameNotSent
  intro s place f hf hflies hfirst howes
  have hplace := flightPlace_of_first hf hflies hfirst
  have habandoned : exec .frameAbandoned s = .next (abandonFrame place f s) := by
    change Host.Outcome.next _ = _
    rw [hplace]
    dsimp only
    rw [hf]
  refine ⟨?_, fun hother => ?_, fun c hcls hfresh hown hclaiming hwindow hsends hlength => ?_⟩
  · change Host.Outcome.next _ = _
    rw [hplace]
    dsimp only
    rw [handOwedClaim_of_owesNothing (s := { s with line := { s.line with
      tx := txAfterLoss place s.line.tx, losses := inc16 s.line.losses } }) howes]
    simp [txAfterLoss, hf, modifyFrame_eq_set _ hf, inc16, satAdd]
  · rw [habandoned, abandonFrame_eq, oweClaim_of_other (s := flightAbandoned place s) hother,
      handOwedClaim_of_owesNothing (s := flightAbandoned place s) howes]
    rfl
  · have hlt : place < s.line.tx.length := (List.getElem?_eq_some_iff.mp hf).1
    have hroom : (s.line.tx.eraseIdx place).length < 6 := by
      rw [List.length_eraseIdx, if_pos hlt]
      omega
    have howed : oweClaim f (flightAbandoned place s) = { flightAbandoned place s with
        claims := { s.claims with own := some { c with owed := true } } } := by
      rw [oweClaim, if_pos ⟨hcls, hfresh⟩]
      simp [flightAbandoned, hown]
    rw [habandoned, abandonFrame_eq, howed, handOwedClaim_of_room (c := { c with owed := true })
      (s := { flightAbandoned place s with claims := { s.claims with own := some { c with owed := true } } })
      rfl rfl hclaiming hwindow hsends hroom]
    have hsettled : some { c with owed := false } = s.claims.own := by rw [hown, ← howes c hown]
    dsimp only
    rw [hsettled]
    cases hkind : c.kind <;> rfl

/-! ## The receiver (R73, R76 to R78) -/

theorem exec_frameRejected_eq {s : State} {f : RxFrame} {failure : RxFailure} (hreceives : s.receiving = true)
    (hform : f.wellFormed = true) (hfails : checkFrame s.id.station f = some failure) :
    exec (.frameRejected f) s = .next (if f.ends = 7#3 then countFailure failure s
      else { countFailure failure s with line := { (countFailure failure s).line with synchronised := false } }) := by
  change Host.Outcome.next _ = _
  rw [if_neg (by simp [hreceives, hform]), hfails]

/-- A frame whose end bits are all recessive leaves the receiver synchronised (R73). -/
theorem exec_frameRejected_framed {s : State} {f : RxFrame} {failure : RxFailure} (hreceives : s.receiving = true)
    (hform : f.wellFormed = true) (hends : f.ends = 7#3) (hfails : checkFrame s.id.station f = some failure) :
    exec (.frameRejected f) s = .next (countFailure failure s) := by
  rw [exec_frameRejected_eq hreceives hform hfails, if_pos hends]

/-- Settles O33: the checks of R76 in their order, each up to the first that fails. -/
theorem rejectedFrameIsCounted : Obligations.RejectedFrameIsCounted := by
  unfold Obligations.RejectedFrameIsCounted
  intro s f hreceives hform cls n monitor unframed badCrc noClass badLength badAddress badContent lengthFailure contentDiscard
  have hrejected (failure : RxFailure) (hframed : ¬unframed) (hfails : checkFrame s.id.station f = some failure) :
      exec (.frameRejected f) s = .next (countFailure failure s) := by
    have hends : f.ends = 7#3 := by simpa using (not_or.mp hframed).2
    exact exec_frameRejected_framed hreceives hform hends hfails
  have hchecks (hframed : ¬unframed) (hcrc : ¬badCrc) : checkFrame s.id.station f =
      if 6 < cls then some .content else if !lengthSuits cls f.len.toNat then some .length
      else if !addressSuits s.id.station cls f.src.toNat f.dst.toNat then some .address
      else if !contentSuits cls f.payload then some .content else none := by
    obtain ⟨hlength, hends⟩ := not_or.mp hframed
    unfold checkFrame
    rw [if_neg hlength, if_neg hends, if_neg hcrc]
  refine ⟨fun hunframed => ?_, fun hframed hcrc => ?_, fun hframed hcrc hclass => ?_, fun hframed hcrc hclass hlength => ?_,
    fun hframed hcrc hclass hlength haddress => ?_, fun hframed hcrc hclass hlength haddress hcontent => ?_⟩
  · have hfails : checkFrame s.id.station f = some .length := by
      unfold checkFrame
      split
      · rfl
      · next hlength => rw [if_pos (hunframed.resolve_left hlength)]
    rw [exec_frameRejected_eq hreceives hform hfails]
    by_cases hends : f.ends = 7#3
    · rw [if_pos hends, hends]
      simp only [lengthFailure, BEq.rfl, Bool.and_true]
      rfl
    · rw [if_neg hends, beq_false_of_ne hends]
      simp only [lengthFailure, Bool.and_false]
      rfl
  · obtain ⟨hlength, hends⟩ := not_or.mp hframed
    exact hrejected .crc hframed (by rw [checkFrame, if_neg hlength, if_neg hends, if_pos hcrc])
  · exact hrejected .content hframed (by rw [hchecks hframed hcrc, if_pos hclass])
  · exact hrejected .length hframed (by rw [hchecks hframed hcrc, if_neg hclass, hlength]; rfl)
  · have hsuits : lengthSuits cls f.len.toNat = true := by simpa [badLength] using hlength
    exact hrejected .address hframed (by rw [hchecks hframed hcrc, if_neg hclass, hsuits, haddress]; rfl)
  · have hsuits : lengthSuits cls f.len.toNat = true := by simpa [badLength] using hlength
    have haddressed : addressSuits s.id.station cls f.src.toNat f.dst.toNat = true := by simpa [badAddress] using haddress
    exact hrejected .content hframed (by rw [hchecks hframed hcrc, if_neg hclass, hsuits, haddressed, hcontent]; rfl)

/-- Settles O34: each event is one change at a part that takes it. -/
theorem receiverCounts : Obligations.ReceiverCounts := by
  unfold Obligations.ReceiverCounts
  refine ⟨fun s hruns => ?_, fun s hreceives => ?_⟩
  · change Host.Outcome.next _ = _
    rw [if_pos hruns]
  · change Host.Outcome.next _ = _
    rw [if_pos hreceives]
    rfl

/-! ## The notices (R80 to R82) -/

theorem exec_statusTimerExpiry_eq {s : State} (hruns : s.line.statusTimer.isSome = true) :
    exec .statusTimerExpiry s = .next (handFrame (newFrame .status 31 (encodeNotice (buildNotice s)))
      { s with line := { s.line with statusTimer := some 10 } }) := by
  change Host.Outcome.next _ = _
  rw [if_neg (by simpa [Option.isNone_iff_eq_none, Option.isSome_iff_ne_none] using hruns)]
  rfl

/-- A station whose queue can take a STATUS has it waiting there. -/
theorem queueStatus_waits {s : State} (hsends : s.sending = true)
    (htakes : s.line.tx.any TxFrame.isWaitingStatus = true ∨ s.line.tx.length < 6) :
    newFrame .status 31 (encodeNotice (buildNotice s)) ∈ (queueStatus s).line.tx := by
  unfold queueStatus
  cases hwaits : s.line.tx.any TxFrame.isWaitingStatus with
  | true =>
    rw [handFrame_of_waiting hsends rfl hwaits]
    obtain ⟨g, hg, hgwaits⟩ := List.any_eq_true.mp hwaits
    exact List.mem_map.mpr ⟨g, hg, if_pos hgwaits⟩
  | false =>
    rw [handFrame_of_room hsends (htakes.resolve_left (by simp [hwaits])) fun _ => hwaits]
    simp

/-- Settles O35: the STATUS of the timer and the STATUS of a change, as the queue takes them. -/
theorem statusNoticesAreQueued : Obligations.StatusNoticesAreQueued := by
  unfold Obligations.StatusNoticesAreQueued
  refine ⟨fun s hruns hsends => ?_, fun before s hsends hchanged htakes => ?_⟩
  · dsimp only
    rw [exec_statusTimerExpiry_eq hruns]
    refine ⟨fun hwaits => ?_, fun hnone hroom => ?_, fun hnone hfull => ?_⟩
    · exact congrArg Host.Outcome.next (handFrame_of_waiting hsends rfl hwaits)
    · exact congrArg Host.Outcome.next (handFrame_of_room hsends hroom fun _ => hnone)
    · exact congrArg Host.Outcome.next (handFrame_of_full hsends rfl hnone hfull)
  · refine ⟨newFrame .status 31 (encodeNotice (buildNotice s)), ?_, rfl, rfl⟩
    have hannounces : announceChange before s = queueStatus s := by
      unfold announceChange
      rw [if_neg]
      rintro ⟨hmode, hclaim, hconsent, -⟩
      simp [hmode, hclaim, hconsent] at hchanged
    rw [hannounces]
    exact queueStatus_waits hsends htakes

end Sys2Proof.Machine
end

section
/-! PROOFS. The end of JOINING (R83, R135) and a second station with the own number (R84, R122). -/

namespace Sys2Proof.Machine

open Sys2Proof.Safety

/-! ## The end of JOINING -/

section
variable {s : State}

/-- Where at most an EQUALIZE stands, there is no TEST, no WITHDRAWAL and no DISCHARGE. -/
theorem equalizeAtMost_kinds (h : equalizeAtMost s.stack.frames = true) :
    s.hasTest = false ∧ s.hasWithdrawal = false ∧ s.hasDischarge = false := by
  unfold State.hasTest State.hasWithdrawal State.hasDischarge
  generalize s.stack.frames = fs at h
  unfold equalizeAtMost at h
  split at h
  · exact ⟨rfl, rfl, rfl⟩
  · exact ⟨rfl, rfl, rfl⟩
  · cases h

theorem endTest_of_noTest (h : s.hasTest = false) (r : TestResult) : endTest r s = s := by
  simp [endTest, test?_eq_none_iff.mpr h]

/-- Over nothing or an EQUALIZE a forced WITHDRAWAL is pushed (R43). -/
theorem forceWithdrawal_of_room (h : equalizeAtMost s.stack.frames = true) (o : WithdrawalOrigin) :
    forceWithdrawal o s = pushWithdrawn o s := by
  obtain ⟨htest, hwithdrawal, hdischarge⟩ := equalizeAtMost_kinds h
  simp [forceWithdrawal, hdischarge, hwithdrawal, endTest_of_noTest htest]

theorem forceWithdrawal_of_discharge (h : s.hasDischarge = true) (o : WithdrawalOrigin) :
    forceWithdrawal o s =
      { s with stack := { s.stack with withdrawalDeferred := some (s.stack.withdrawalDeferred.getD o) } } := if_pos h

/-- The station at the end of JOINING, before it looks at its breaker. -/
def endedJoining (s : State) : State :=
  { s with line := { s.line with joiningTimer := none, state := s.line.state.joinedState } }

theorem exec_joiningTimerExpiry_eq (hruns : s.line.joiningTimer.isSome = true) :
    exec .joiningTimerExpiry s = .next (finish s (adopt (endedJoining s))) := by
  change Host.Outcome.next _ = _
  rw [if_neg (by simpa [Option.isNone_iff_eq_none, Option.isSome_iff_ne_none] using hruns)]
  rfl

theorem adopt_of_closed (h : s.bypass.position = .closed) : adopt s = forceWithdrawal .adopted s := if_pos h

theorem adopt_of_notClosed (h : s.bypass.position ≠ .closed) : adopt s = s := if_neg h

end

/-- Settles O36: the event ends what the adoption check of the breaker has left. -/
theorem joiningEnds : Obligations.JoiningEnds := by
  unfold Obligations.JoiningEnds
  intro s hruns hstate u adopted
  have hended : endedJoining s = u := by
    rcases hstate with hjoining | hmuted
    · simp [u, endedJoining, hjoining, LineState.joinedState]
    · simp [u, endedJoining, hmuted, LineState.joinedState]
  refine ⟨_, exec_joiningTimerExpiry_eq hruns, fun hopen => ?_, fun hclosed hroom => ?_, fun hclosed hdischarge => ?_⟩
  · rw [hended, adopt_of_notClosed (s := u) hopen]
    exact finish_after s u
  · rw [hended, adopt_of_closed (s := u) hclosed, forceWithdrawal_of_room (s := u) hroom]
    exact finish_after s _
  · rw [hended, adopt_of_closed (s := u) hclosed, forceWithdrawal_of_discharge (s := u) hdischarge]
    exact finish_after s _

/-! ## A second station with the own number -/

/-- A MUTED part without a claim under way or a settle flag, its DUPLICATE_ID raised (R84, R122). -/
structure Hushed (s : State) : Prop where
  muted : s.line.state = .muted
  flagClear : s.stack.settle = false
  claiming : s.claiming = false
  duplicate : s.monitor.active.duplicateId = true

section
variable {s t : State}

theorem Hushed.kept (h : Hushed s) (hline : t.line.state = s.line.state) (hsettle : t.stack.settle = s.stack.settle)
    (hown : t.claims.own = s.claims.own) (hduplicate : t.monitor.active.duplicateId = s.monitor.active.duplicateId) : Hushed t :=
  ⟨hline ▸ h.muted, hsettle ▸ h.flagClear, (State.claiming_congr hown).trans h.claiming, hduplicate ▸ h.duplicate⟩

/-- In MUTED no removal sets the settle flag (R50). -/
theorem setSettle_of_muted (h : s.line.state = .muted) : setSettle s = s := if_pos h

theorem Hushed.refresh (h : Hushed s) : Hushed (refresh s) := h.kept rfl rfl rfl rfl

theorem Hushed.releaseClaim (h : Hushed s) : Hushed (releaseClaim s) := by
  refine ⟨by simp [h.muted], by simp [h.flagClear], ?_, by simp [h.duplicate]⟩
  rcases releaseClaim_own s with hnone | hsame
  · simp [State.claiming, hnone]
  · exact (State.claiming_congr hsame).trans h.claiming

theorem Hushed.endTest (h : Hushed s) (r : TestResult) : Hushed (endTest r s) := by
  unfold Machine.endTest
  split
  · exact h
  · next f _ =>
    have hconcluded : Hushed (concludeTest r f { takeOff Frame.isTest s with
        cond := { (takeOff Frame.isTest s).cond with testSecond := none } }) :=
      h.kept (by simp) (by simp) (by simp) (by simp)
    dsimp only
    rw [setSettle_of_muted hconcluded.releaseClaim.muted]
    exact hconcluded.releaseClaim

theorem Hushed.abortEqualize (h : Hushed s) : Hushed (abortEqualize s) := by
  unfold Machine.abortEqualize
  split
  · exact h
  · next f _ =>
    have hlatched (u : State) (hu : Hushed u) : Hushed (setSettle (relatch f u)) := by
      have hrelatched : Hushed (relatch f u) := hu.kept (by simp) (by simp) (by simp) (by simp)
      rwa [setSettle_of_muted hrelatched.muted]
    dsimp only
    split
    · exact hlatched _ (h.kept (by simp) (by simp) (by simp) (by simp))
    · exact hlatched _ (h.kept (by simp) (by simp) (by simp) (by simp))

theorem Hushed.conditionAborts (h : Hushed s) : Hushed (conditionAborts s) := by
  have htest : Hushed (if s.hasTest && testBarred s then Machine.endTest .aborted s else s) := by
    split
    · exact h.endTest _
    · exact h
  unfold Machine.conditionAborts
  dsimp only
  generalize (if s.hasTest && testBarred s then Machine.endTest .aborted s else s) = t at htest ⊢
  split
  · exact htest.abortEqualize
  · exact htest

theorem Hushed.supportAbort (h : Hushed s) : Hushed (supportAbort s) := by
  unfold Machine.supportAbort
  split
  · exact h.endTest _
  · exact h

/-- A MUTED station makes no claim (R107). -/
theorem Hushed.mayClaim (h : Hushed s) (k : ClaimKind) : mayClaim s k = false := by simp [Machine.mayClaim, h.muted]

theorem Hushed.tryTest (h : Hushed s) : Hushed (tryTest s) := by
  have htaken : Hushed (takeWaiting s) := by
    have hdropped : Hushed (dropWaiting s) := h.kept rfl rfl rfl rfl
    have hfails : testNowFailure (dropWaiting s) ≠ 0 := by
      unfold testNowFailure
      rw [hdropped.muted]
      simp
    unfold takeWaiting
    rw [if_neg hfails]
    split
    · exact hdropped
    · exact h
  unfold Machine.tryTest
  dsimp only
  rw [if_neg (by simp [testClaimReady, htaken.mayClaim])]
  exact htaken

theorem Hushed.tryEqualize (h : Hushed s) : Hushed (tryEqualize s) := h.kept (by simp) (by simp) (by simp) (by simp)

theorem Hushed.tryKey (h : Hushed s) : Hushed (tryKey s) := by
  unfold Machine.tryKey
  rw [if_neg (by simp [keyClaimReady, h.mayClaim])]
  exact h

theorem Hushed.startActivities (h : Hushed s) : Hushed (startActivities s) := by
  have hdrawn : Hushed { s with free := s.free + 1 } := h.kept rfl rfl rfl rfl
  unfold Machine.startActivities
  dsimp only
  split
  · split
    · exact hdrawn.tryEqualize.tryTest
    · exact hdrawn.tryTest.tryEqualize
  · exact h.tryEqualize.tryTest.tryKey

theorem Hushed.giveOwner (h : Hushed s) : Hushed (giveOwner s) := h.kept (by simp) (by simp) (by simp) (by simp)

theorem Hushed.settled (h : Hushed s) : Hushed (settle s) := by
  unfold Machine.settle
  dsimp only
  rw [yieldIfMust_of_not (mustYield_of_notClaiming h.refresh.claiming)]
  have haborted := h.refresh.conditionAborts.refresh.supportAbort.refresh
  rw [tryCommit_of_not (commitReady_of_notClaiming haborted.claiming)]
  rw [handOwedClaim_of_notClaiming haborted.refresh.giveOwner.claiming]
  exact haborted.refresh.giveOwner.startActivities.kept rfl rfl rfl rfl

theorem Hushed.finish (h : Hushed s) (before : State) : Hushed (finish before s) :=
  h.settled.kept (by simp [Machine.finish]) (by simp [Machine.finish]) (by simp [Machine.finish]) (by simp [Machine.finish])

/-- The end of an event takes the consent anew, and a MUTED station gives none (R114). -/
theorem Hushed.noConsent (h : Hushed s) (before : State) : (Machine.finish before s).claims.consent = none := by
  rw [finish_claims]
  have hmuted (u : State) (hu : u.line.state = .muted) : consentOf u = none := by simp [consentOf, givesConsent, hu]
  have hline := h.settled.muted
  unfold Machine.settle at hline ⊢
  rw [retakeConsent_consent]
  exact hmuted _ (by simpa using hline)

/-- A station that has just become MUTED, its claim and its settle flag still as they were. -/
def mutedPart (s : State) : State :=
  setCondition .duplicateId true { s with line := { s.line with state := .muted, tx := [], statusTimer := none } }

theorem mute_eq (s : State) : mute s = clearSettle (yieldClaim .abandoned (mutedPart s)) := rfl

theorem yieldClaim_of_notClaiming (h : s.claiming = false) (r : ClaimResult) : yieldClaim r s = s := by
  unfold yieldClaim
  split
  · next c hown =>
    have hholding : c.holding = true := by simpa [State.claiming, hown] using h
    rw [if_pos hholding]
  · rfl

/-- At a station that does not send, a claim yields without RELEASE (R119, R122). -/
theorem yieldClaim_of_silent {c : OwnClaim} (hown : s.claims.own = some c) (hclaiming : c.holding = false)
    (hsilent : s.sending = false) (hempty : s.line.tx = []) (r : ClaimResult) :
    yieldClaim r s = { s with claims := { s.claims with
      own := none
      window := none
      list := removeEntry s.id.station s.claims.list
      spacing := seconds 5
      last := r
      lastKind := some c.kind } } := by
  have hqueue : outdateClaims s.line.tx = s.line.tx := by simp [hempty, outdateClaims]
  unfold yieldClaim endClaim
  simp [hown, hclaiming, handFrame_of_silent hsilent, hqueue]

theorem mute_hushed (s : State) : Hushed (mute s) :=
  ⟨by simp [mute, clearSettle], rfl, yieldClaim_claiming .abandoned _, by simp [mute, clearSettle, setCondition, Conditions.put]⟩

end

/-- Settles O37: a station that sends becomes MUTED, and the end of the event leaves it so. -/
theorem duplicateMutes : Obligations.DuplicateMutes := by
  unfold Obligations.DuplicateMutes
  intro s hreceives counted
  refine ⟨fun hsilent => ?_, fun hsends => ⟨finish s (mute (countReceived s)), ?_, ?_, ?_, ?_, ?_, ?_, ?_⟩⟩
  · change Host.Outcome.next _ = _
    rw [if_neg (by simp [hreceives]), if_neg (by simp [hsilent])]
    rfl
  · change Host.Outcome.next _ = _
    rw [if_neg (by simp [hreceives]), if_pos hsends]
  · convert finish_after s (mute (countReceived s)) using 1
    rw [mute_eq]
    cases hown : s.claims.own with
    | none =>
      have hyields : yieldClaim .abandoned (mutedPart (countReceived s)) = mutedPart (countReceived s) :=
        yieldClaim_of_notClaiming (by rw [State.claiming, show (mutedPart (countReceived s)).claims.own = none from hown]) _
      rw [hyields]
      rfl
    | some c =>
      cases hholding : c.holding with
      | true =>
        have hyields : yieldClaim .abandoned (mutedPart (countReceived s)) = mutedPart (countReceived s) :=
          yieldClaim_of_notClaiming (by simp [State.claiming, mutedPart, setCondition, countReceived, hown, hholding]) _
        rw [hyields]
        simp only [hholding]
        rfl
      | false =>
        rw [yieldClaim_of_silent (s := mutedPart (countReceived s)) hown hholding rfl rfl]
        simp only [hholding]
        rfl
  · have hline := (mute_hushed (countReceived s)).finish s
    have hsound := (lineSound_mute (countReceived s)).finish s
    exact hsound.2 (by rw [State.sending, hline.muted])
  · exact ((mute_hushed _).finish s).flagClear
  · exact (mute_hushed _).noConsent s
  · exact ((mute_hushed _).finish s).duplicate
  · intro c hown
    have hclaiming := ((mute_hushed (countReceived s)).finish s).claiming
    simpa [State.claiming, hown] using hclaiming

end Sys2Proof.Machine
end

section
/-! PROOFS. The layouts: the status notice (5.9.3), and the frames that a station sends against the checks of one that receives
(R72, R76, R77). -/

namespace Sys2Proof.Machine

open Sys2Proof.Safety

/-! ## The notice -/

theorem bytesOf_two (v : Nat) : bytesOf 2 v = [BitVec.ofNat 8 (v / 256), BitVec.ofNat 8 v] := by
  simp [bytesOf, List.range_succ]

theorem toNat_byte {v : Nat} (h : v < 256) : (BitVec.ofNat 8 v).toNat = v := by
  rw [BitVec.toNat_ofNat]
  exact Nat.mod_eq_of_lt h

theorem natOf_two {v : Nat} (h : v < 65536) : natOf [BitVec.ofNat 8 (v / 256), BitVec.ofNat 8 v] = v := by
  simp only [natOf, List.foldl_cons, List.foldl_nil, BitVec.toNat_ofNat]
  omega

theorem modeOf_code (m : Mode) : modeOf m.code = some m := by cases m <;> rfl

theorem Mode.code_lt (m : Mode) : m.code < 8 := by cases m <;> decide

/-- Group and mode share the first byte. -/
theorem groupByte_toNat {g : Nat} (hg : g < 4) (m : Mode) : (BitVec.ofNat 8 (64 * g + m.code)).toNat = 64 * g + m.code :=
  toNat_byte (by have := m.code_lt; omega)

theorem flagByte_bits (a b c d : Bool) :
    (BitVec.ofNat 8 (flags [a, b, c, d])).getLsbD 0 = a ∧ (BitVec.ofNat 8 (flags [a, b, c, d])).getLsbD 1 = b
      ∧ (BitVec.ofNat 8 (flags [a, b, c, d])).getLsbD 2 = c ∧ (BitVec.ofNat 8 (flags [a, b, c, d])).getLsbD 3 = d := by
  revert a b c d
  decide

/-- The claim byte of a notice. -/
def claimCode : Option AnnouncedClaim → Nat
  | none => 0
  | some c => kindCode c.kind + 4 * flag c.holding

theorem claimOf_claimCode (claim : Option AnnouncedClaim) : claimOf (BitVec.ofNat 8 (claimCode claim)) = some claim := by
  rcases claim with _ | ⟨_ | _, _ | _⟩ <;> rfl

theorem encodeNotice_eq (n : Notice) : encodeNotice n =
    [BitVec.ofNat 8 (64 * n.group + n.mode.code),
     BitVec.ofNat 8 (flags [n.testing, n.equalizing, n.visitOpen, n.visitRequest]), BitVec.ofNat 8 (claimCode n.claim),
     BitVec.ofNat 8 n.consent, BitVec.ofNat 8 n.minHealth, BitVec.ofNat 8 n.level,
     BitVec.ofNat 8 (n.load / 256), BitVec.ofNat 8 n.load, BitVec.ofNat 8 (n.rating / 256), BitVec.ofNat 8 n.rating,
     BitVec.ofNat 8 (n.energy / 256), BitVec.ofNat 8 n.energy] := by
  unfold encodeNotice
  rw [bytesOf_two, bytesOf_two, bytesOf_two]
  cases n.claim <;> rfl

/-- Settles O16: byte by byte, each figure within its range is read back. -/
theorem noticeReadsBack : Obligations.NoticeReadsBack := by
  unfold Obligations.NoticeReadsBack
  intro n hgroup hconsent hhealth hlevel hload hrating henergy
  have hmode : modeOf ((64 * n.group + n.mode.code) % 8) = some n.mode := by
    rw [show (64 * n.group + n.mode.code) % 8 = n.mode.code by have := n.mode.code_lt; omega, modeOf_code]
  have hquotient : (64 * n.group + n.mode.code) / 64 = n.group := by have := n.mode.code_lt; omega
  obtain ⟨htesting, hequalizing, hvisit, hrequest⟩ := flagByte_bits n.testing n.equalizing n.visitOpen n.visitRequest
  rw [encodeNotice_eq]
  refine ⟨rfl, ?_⟩
  simp only [decodeNotice, groupByte_toNat hgroup, toNat_byte (show n.consent < 256 by omega),
    toNat_byte (show n.minHealth < 256 by omega), toNat_byte (show n.level < 256 by omega), natOf_two hload, natOf_two hrating,
    natOf_two henergy, hmode, claimOf_claimCode, hquotient, htesting, hequalizing, hvisit, hrequest, hconsent, hhealth, hlevel,
    decide_true, Bool.and_true, if_true]

/-! ## The frames on the line -/

section
variable {own other : Nat} {f : TxFrame}

theorem wire_cls (own : Nat) (f : TxFrame) : (f.wire own).cls.toNat = f.cls.code := by
  cases hcls : f.cls <;> simp [TxFrame.wire, hcls, FrameClass.code]

/-- A frame is framed and carries its own CRC, so that its class decides on the rest of the checks (R72, R76). -/
theorem checkFrame_wire (hown : own < 32) (hdest : f.dest < 32) (hlength : f.payload.length ≤ 12) :
    checkFrame other (f.wire own) =
      if !lengthSuits f.cls.code f.payload.length then some .length
      else if !addressSuits other f.cls.code own f.dest then some .address
      else if !contentSuits f.cls.code f.payload then some .content else none := by
  have hsrc : (f.wire own).src.toNat = own := by simpa [TxFrame.wire] using hown
  have hdst : (f.wire own).dst.toNat = f.dest := by simpa [TxFrame.wire] using hdest
  have hlen : (f.wire own).len.toNat = f.payload.length := by
    simp only [TxFrame.wire, BitVec.toNat_ofNat]
    omega
  have hcode : ¬6 < f.cls.code := by cases f.cls <;> decide
  unfold checkFrame
  rw [wire_cls, hsrc, hdst, hlen, if_neg (by omega), if_neg (by simp [TxFrame.wire]), if_neg (by simp [TxFrame.wire, coveredBits]),
    if_neg hcode]
  rfl

theorem isStation_lt (h : isStation own = true) : own < 32 := by
  simp only [isStation, Bool.and_eq_true, decide_eq_true_eq] at h
  omega

/-- Every check of a frame that its class suits passes. -/
theorem checkFrame_wire_of_suits (hown : isStation own = true) (hdest : f.dest < 32) (hpayload : f.payload.length ≤ 12)
    (hlength : lengthSuits f.cls.code f.payload.length = true) (haddress : addressSuits other f.cls.code own f.dest = true)
    (hcontent : contentSuits f.cls.code f.payload = true) : checkFrame other (f.wire own) = none := by
  rw [checkFrame_wire (isStation_lt hown) hdest hpayload, hlength, haddress, hcontent]
  rfl

end

/-- Settles O17: length, addressing and content suit the class of every frame that a station sends. -/
theorem sentFramesAreValid : Obligations.SentFramesAreValid := by
  unfold Obligations.SentFramesAreValid
  rintro own other f hown
    (⟨hcls, hdest, hkind⟩ | ⟨hcls, hdest, hlength, hreads⟩ | ⟨hcls, hdest, hmin, hmax⟩ | ⟨hcls, hmin, hmax, hlength⟩)
  · have hlength : f.payload.length = 1 := by rcases hkind with hkind | hkind <;> rw [hkind] <;> rfl
    refine checkFrame_wire_of_suits hown (by omega) (by omega) ?_ ?_ ?_
    · rcases hcls with hcls | hcls | hcls <;> rw [hcls, hlength] <;> rfl
    · rcases hcls with hcls | hcls | hcls <;> simp [hcls, FrameClass.code, addressSuits, hown, hdest]
    · rcases hcls with hcls | hcls | hcls <;> rcases hkind with hkind | hkind <;> rw [hcls, hkind] <;> rfl
  · refine checkFrame_wire_of_suits hown (by omega) (by omega) ?_ ?_ ?_
    · rw [hcls, hlength]
      rfl
    · simp [hcls, FrameClass.code, addressSuits, hown, hdest]
    · simpa [hcls, FrameClass.code, contentSuits] using hreads
  · simp only [isTerminal, Bool.and_eq_true, decide_eq_true_eq] at hdest
    refine checkFrame_wire_of_suits hown (by omega) hmax ?_ ?_ ?_
    · simp [hcls, FrameClass.code, lengthSuits, hmin, hmax]
    · simp only [hcls, FrameClass.code, addressSuits, hown, Bool.true_and, Bool.and_eq_true, decide_eq_true_eq]
      omega
    · rw [hcls]
      rfl
  · refine checkFrame_wire_of_suits hown (by omega) (by omega) ?_ ?_ ?_
    · rw [hcls, hlength]
      rfl
    · simp only [hcls, FrameClass.code, addressSuits, hown, Bool.true_and, Bool.and_eq_true, decide_eq_true_eq]
      omega
    · rw [hcls]
      rfl

end Sys2Proof.Machine
end

section
/-! PROOFS. READ (R169), and the requests that a station does not serve (R85, R86, assumptions 1 and 19). -/

namespace Sys2Proof.Machine

open Sys2Proof.Safety

/-! ## What a READ finds (R169) -/

section
variable {s : State} {data : List Byte}

theorem section36_length (i : Nat) (bs : List Byte) : (section36 i bs).length = 36 := by
  simp only [section36, padTo, List.length_append, List.length_replicate, List.length_take, List.length_drop]
  omega

theorem foundOr_eq_found {o : Option (List Byte)} (h : foundOr o = .found data) : o = some data := by
  cases o with
  | none => cases h
  | some d =>
    cases h
    rfl

theorem summarySection_length {i : Nat} (h : summarySection i s = some data) : data.length = 36 := by
  unfold summarySection at h
  repeat' split at h
  all_goals first | (obtain rfl := Option.some.inj h; exact section36_length _ _) | cases h

/-- Where a READ finds a record of a list, it has the 36 bytes of one section. -/
theorem foundOr_map_length {α : Type} {o : Option α} {bytes : α → List Byte}
    (h : foundOr (o.map fun a => section36 0 (bytes a)) = .found data) : data.length = 36 := by
  obtain ⟨a, -, rfl⟩ := Option.map_eq_some_iff.mp (foundOr_eq_found h)
  exact section36_length _ _

theorem found_section36_length {i : Nat} {bs : List Byte} (h : ReadOutcome.found (section36 i bs) = .found data) :
    data.length = 36 := by
  cases h
  exact section36_length i bs

theorem readString_length {i : Nat} (h : readString i s = .found data) : data.length = 36 := by
  unfold readString at h
  split at h
  · exact found_section36_length h
  · split at h
    · exact found_section36_length h
    · cases h

theorem readVisit_length {i : Nat} (h : readVisit i s = .found data) : data.length = 36 := by
  unfold readVisit at h
  split at h
  · cases h
  · split at h
    · cases h
    · exact found_section36_length h

theorem readPeer_length {i : Nat} (h : readPeer i s = .found data) : data.length = 36 := by
  unfold readPeer at h
  split at h
  · exact found_section36_length h
  · cases h

/-- Every record is read in sections of 36 bytes (11.2). -/
theorem readRecord_length {kind index : Nat} (h : readRecord kind index s = .found data) : data.length = 36 := by
  unfold readRecord at h
  split at h
  · exact summarySection_length (foundOr_eq_found h)
  · exact readString_length h
  · exact foundOr_map_length h
  · exact readVisit_length h
  · exact foundOr_map_length h
  · exact readPeer_length h
  · split at h
    · exact found_section36_length h
    · cases h
  · split at h
    · exact found_section36_length h
    · cases h
  · cases h

theorem readRecord_of_unknownKind {kind : Nat} (index : Nat) (h : 7 < kind) : readRecord kind index s = .bad := by
  unfold readRecord
  split
  case h_9 => rfl
  all_goals omega

theorem summarySection_of_beyond {i : Nat} (h : 15 < i) : summarySection i s = none := by
  unfold summarySection
  rw [if_neg (by omega), if_neg (by omega), if_neg (by omega), if_neg (by omega), if_neg (by omega), if_neg (by omega),
    if_neg (by omega), if_neg (by omega)]

end

/-! ## What a READ hands over (R85, R169) -/

section
variable {s : State} {term : Nat} {tag : Byte}

/-- Frames other than a STATUS join a queue with room for all of them, in their order. -/
theorem handFrames_of_room {fs : List TxFrame} (hsends : s.sending = true) (hroom : s.line.tx.length + fs.length ≤ 6)
    (hcls : ∀ f ∈ fs, f.cls ≠ .status) :
    fs.foldl (fun t f => handFrame f t) s = { s with line := { s.line with tx := s.line.tx ++ fs } } := by
  induction fs generalizing s with
  | nil => simp
  | cons f fs ih =>
    obtain ⟨hf, hfs⟩ := List.forall_mem_cons.mp hcls
    rw [List.length_cons] at hroom
    rw [List.foldl_cons, handFrame_of_room hsends (by omega) fun h => absurd h hf]
    refine (ih (s := { s with line := { s.line with tx := s.line.tx ++ [f] } }) hsends ?_ hfs).trans ?_
    · simp only [List.length_append, List.length_singleton]
      omega
    · simp

theorem handResult_of_room {payload : List Byte} (hsends : s.sending = true) (hroom : s.line.tx.length < 6) :
    handResult term payload false s = { s with line := { s.line with tx := s.line.tx ++ [newFrame .result term payload] } } :=
  handFrame_of_room hsends hroom fun h => by cases h

theorem bytesOf_one (b : Byte) : bytesOf 1 b.toNat = [b] := by simp [bytesOf]

theorem exec_read_eq {args : List Byte} : exec (.read term tag args) s = .next (requestRead term tag args s) := rfl

theorem requestRead_of_two {k i : Byte} (hterm : isTerminal term = true) (hreceives : s.receiving = true)
    (hsends : s.sending = true) : requestRead term tag [k, i] s = serveRead term tag k.toNat i.toNat (countReceived s) := by
  have hsends' : (countReceived s).sending = true := hsends
  unfold requestRead
  dsimp only
  rw [if_neg (by simp [requestWellFormed, hterm, hreceives]), if_neg (by simp [hsends']), if_neg (by simp)]
  rfl

/-- Of a record found, the RESULT and the four RECORD frames join a queue with room for them (R169). -/
theorem serveRead_of_found {k i : Byte} {data : List Byte} (hfound : readRecord k.toNat i.toNat s = .found data)
    (hsends : s.sending = true) (hroom : s.line.tx.length ≤ 1) :
    serveRead term tag k.toNat i.toNat s = { s with line := { s.line with
      tx := s.line.tx ++ [resultFrame term 13#8 tag 0#8 [k, i]] ++ recordFrames term k.toNat i.toNat data } } := by
  unfold serveRead
  rw [hfound]
  dsimp only
  rw [handResult_of_room hsends (by omega)]
  refine (handFrames_of_room (s := { s with line := { s.line with tx := s.line.tx ++ [newFrame .result term _] } })
    hsends ?_ ?_).trans ?_
  · simp only [List.length_append, recordFrames, List.length_map, List.length_range, List.length_singleton]
    omega
  · intro f hf
    obtain ⟨p, -, rfl⟩ := List.mem_map.mp hf
    simp [newFrame]
  · simp only [byte, bytesOf_one]
    rfl

theorem recordFrames_eq (term : Nat) (k i : Byte) (data : List Byte) :
    recordFrames term k.toNat i.toNat data = (List.range 4).map fun p =>
      newFrame .record term (k :: i :: BitVec.ofNat 8 p :: (data.drop (9 * p)).take 9) := by
  unfold recordFrames recordPayload
  refine List.map_congr_left fun p _ => ?_
  rw [bytesOf_one, bytesOf_one]
  simp [bytesOf]

end

/-! ## The requests that are not served (R85, R86) -/

section
variable {s : State} {term : Nat} {code tag : Byte} {args : List Byte} {serve : State → Served}

theorem request_of_unreceived (h : isTerminal term = false ∨ s.receiving = false) : request term code tag args serve s = s := by
  unfold request
  dsimp only
  rw [if_pos]
  rcases h with hterm | hdeaf
  · simp [requestWellFormed, hterm]
  · simp [hdeaf]

theorem requestRead_of_unreceived (h : isTerminal term = false ∨ s.receiving = false) : requestRead term tag args s = s := by
  unfold requestRead
  dsimp only
  rw [if_pos]
  rcases h with hterm | hdeaf
  · simp [requestWellFormed, hterm]
  · simp [hdeaf]

/-- A REQUEST has arrived: it has a terminal's number and an extent that a frame can carry, at a station that receives. -/
def Arrives (term : Nat) (args : List Byte) (s : State) : Prop :=
  isTerminal term = true ∧ args.length ≤ 10 ∧ s.receiving = true

theorem Arrives.taken (h : Arrives term args s) : (!requestWellFormed term args || !s.receiving) = false := by
  obtain ⟨hterm, hargs, hreceives⟩ := h
  simp [requestWellFormed, hterm, hargs, hreceives]

theorem request_of_silent (h : Arrives term args s) (hsilent : s.sending = false) :
    request term code tag args serve s = countReceived s := by
  have hsilent' : (countReceived s).sending = false := hsilent
  unfold request
  dsimp only
  rw [if_neg (by simp [h.taken]), if_pos (by simp [hsilent'])]

theorem requestRead_of_silent (h : Arrives term args s) (hsilent : s.sending = false) :
    requestRead term tag args s = countReceived s := by
  have hsilent' : (countReceived s).sending = false := hsilent
  unfold requestRead
  dsimp only
  rw [if_neg (by simp [h.taken]), if_pos (by simp [hsilent'])]

theorem request_of_bad (h : Arrives term args s) (hsends : s.sending = true)
    (hcheck : checkRequest term code tag args (countReceived s) = .bad) :
    request term code tag args serve s = handResult term (resultPayload code tag .bad []) false (countReceived s) := by
  have hsends' : (countReceived s).sending = true := hsends
  unfold request
  dsimp only
  rw [if_neg (by simp [h.taken]), if_neg (by simp [hsends']), hcheck]

theorem request_of_repeated (h : Arrives term args s) (hsends : s.sending = true) {r : List Byte}
    (hcheck : checkRequest term code tag args (countReceived s) = .repeated r) :
    request term code tag args serve s = handResult term r false (countReceived s) := by
  have hsends' : (countReceived s).sending = true := hsends
  unfold request
  dsimp only
  rw [if_neg (by simp [h.taken]), if_neg (by simp [hsends']), hcheck]

/-- A request with another number of arguments than its code has is answered BAD (R85). -/
theorem request_of_otherCount (h : Arrives term args s) (hsends : s.sending = true) (hroom : s.line.tx.length < 6)
    (hcount : argCount code.toNat ≠ some args.length) : request term code tag args serve s = { s with line := { s.line with
      received := inc16 s.line.received, tx := s.line.tx ++ [resultFrame term code tag 9#8 []] } } := by
  rw [request_of_bad h hsends (if_pos hcount)]
  exact handResult_of_room hsends hroom

/-- A request that repeats the terminal's last is answered again (R86). -/
theorem request_of_repeat (h : Arrives term args s) (hsends : s.sending = true) (hroom : s.line.tx.length < 6)
    (hcount : argCount code.toNat = some args.length) {r : List Byte}
    (hstored : storedResult term (requestPayload code tag args) s = some r) :
    request term code tag args serve s = { s with line := { s.line with
      received := inc16 s.line.received, tx := s.line.tx ++ [newFrame .result term r] } } := by
  have hstored' : storedResult term (requestPayload code tag args) (countReceived s) = some r := hstored
  have hcheck : checkRequest term code tag args (countReceived s) = .repeated r := by
    rw [checkRequest, if_neg (by simp [hcount]), hstored']
  rw [request_of_repeated h hsends hcheck]
  exact handResult_of_room hsends hroom

theorem requestRead_of_otherCount (h : Arrives term args s) (hsends : s.sending = true) (hroom : s.line.tx.length < 6)
    (hcount : args.length ≠ 2) : requestRead term tag args s = { s with line := { s.line with
      received := inc16 s.line.received, tx := s.line.tx ++ [resultFrame term 13#8 tag 9#8 []] } } := by
  have hsends' : (countReceived s).sending = true := hsends
  unfold requestRead
  dsimp only
  rw [if_neg (by simp [h.taken]), if_neg (by simp [hsends']), if_pos hcount]
  exact handResult_of_room hsends hroom

/-- Thirteen of the fourteen requests are served at their owners, and READ is read (R85). -/
theorem requestForms_cases {c : Instr} {n : Nat} (h : (c, code, n) ∈ requestForms term tag args) :
    argCount code.toNat = some n ∧ ((∃ serve, ∀ s, exec c s = .next (request term code tag args serve s))
      ∨ code = 13#8 ∧ n = 2 ∧ ∀ s, exec c s = .next (requestRead term tag args s)) := by
  simp only [requestForms, List.mem_cons, Prod.mk.injEq, List.not_mem_nil, or_false] at h
  iterate 12
    rcases h with ⟨rfl, rfl, rfl⟩ | h
    · exact ⟨rfl, .inl ⟨_, fun s => rfl⟩⟩
  rcases h with ⟨rfl, rfl, rfl⟩ | ⟨rfl, rfl, rfl⟩
  · exact ⟨rfl, .inr ⟨rfl, rfl, fun s => rfl⟩⟩
  · exact ⟨rfl, .inl ⟨_, fun s => rfl⟩⟩

theorem argCount_of_unknown (h : code = 0#8 ∨ 14 < code.toNat) : argCount code.toNat = none := by
  rcases h with rfl | hbeyond
  · rfl
  · unfold argCount
    split
    case h_15 => rfl
    all_goals omega

theorem exec_unknownRequestCode_eq (h : argCount code.toNat = none) :
    exec (.unknownRequestCode term code tag args) s = .next (request term code tag args (answer .bad) s) := by
  change Host.Outcome.next _ = _
  rw [if_neg (by simp [h])]

end

/-- Settles O57: a READ by what it finds, and the other requests by the first check that ends them. -/
theorem readAndUnserved : Obligations.ReadAndUnserved := by
  unfold Obligations.ReadAndUnserved
  refine ⟨fun s term tag k i hterm hreceives hsends => ?_, fun s term tag args c code n hform => ?_⟩
  · dsimp only
    have hread : exec (.read term tag [k, i]) s = .next (serveRead term tag k.toNat i.toNat (countReceived s)) := by
      rw [exec_read_eq, requestRead_of_two hterm hreceives hsends]
    refine ⟨fun data hfound => ⟨readRecord_length hfound, fun hroom => ?_⟩, fun r hrefused hroom => ?_, fun hkind => ?_,
      fun hk hi hnone => ?_, fun hk hi => ?_, fun hk hi => ?_, fun it hk hit => ?_⟩
    · rw [hread, serveRead_of_found (s := countReceived s) hfound hsends hroom, recordFrames_eq, List.append_assoc]
      rfl
    · rw [hread]
      simp only [List.mem_cons, Prod.mk.injEq, List.not_mem_nil, or_false] at hrefused
      rcases hrefused with ⟨hfinds, rfl⟩ | ⟨hfinds, rfl⟩ | ⟨hfinds, rfl⟩
      all_goals
        rw [serveRead, show readRecord k.toNat i.toNat (countReceived s) = _ from hfinds]
        exact congrArg Host.Outcome.next (handResult_of_room hsends hroom)
    · exact readRecord_of_unknownKind _ hkind
    · subst hk
      change readVisit i.toNat _ = .noVisit
      unfold readVisit
      rw [if_neg (by omega)]
      simp [hnone]
    · subst hk
      change foundOr (summarySection i.toNat _) = .notFound
      rw [summarySection_of_beyond hi]
      rfl
    · subst hk
      change readPeer i.toNat _ = .notFound
      simp [readPeer, hi]
    · subst hk
      refine ⟨section36 0 (itemBytes it), ?_⟩
      change foundOr (s.queue.items[i.toNat]?.map _) = _
      rw [hit]
      rfl
  · obtain ⟨hcount, hserves⟩ := requestForms_cases hform
    refine ⟨fun hunreceived => ?_, fun hterm hreceives hargs => ?_⟩
    · rcases hserves with ⟨serve, hexec⟩ | ⟨-, -, hexec⟩
      · rw [hexec, request_of_unreceived hunreceived]
      · rw [hexec, requestRead_of_unreceived hunreceived]
    · have harrives : Arrives term args s := ⟨hterm, hargs, hreceives⟩
      refine ⟨fun hsilent => ?_, fun hsends hroom =>
        ⟨fun hother => ?_, fun r hnotRead hsame hstored => ?_, fun other hunknown => ?_⟩⟩
      · rcases hserves with ⟨serve, hexec⟩ | ⟨-, -, hexec⟩
        · rw [hexec, request_of_silent harrives hsilent]
          rfl
        · rw [hexec, requestRead_of_silent harrives hsilent]
          rfl
      · rcases hserves with ⟨serve, hexec⟩ | ⟨rfl, rfl, hexec⟩
        · rw [hexec, request_of_otherCount harrives hsends hroom (by simpa [hcount] using Ne.symm hother)]
          rfl
        · rw [hexec, requestRead_of_otherCount harrives hsends hroom hother]
          rfl
      · rcases hserves with ⟨serve, hexec⟩ | ⟨hread, -, -⟩
        · rw [hexec, request_of_repeat harrives hsends hroom (by rw [hcount, hsame]) hstored]
          rfl
        · exact absurd hread hnotRead
      · have hnone := argCount_of_unknown hunknown
        rw [exec_unknownRequestCode_eq hnone, request_of_otherCount harrives hsends hroom (by simp [hnone])]
        rfl

end Sys2Proof.Machine
end

section
/-! PROOFS. The claim list (R106, R110, R112): an entry put in, taken out and looked for. -/

namespace Sys2Proof.Machine

open Sys2Proof.Safety

section
variable {m n : Nat} {e w : ClaimEntry} {list : List ClaimEntry}

theorem insertEntry_length (e : ClaimEntry) (list : List ClaimEntry) : (insertEntry e list).length = list.length + 1 := by
  induction list with
  | nil => rfl
  | cons f rest ih =>
    unfold insertEntry
    split
    · rfl
    · rw [List.length_cons, ih, List.length_cons]

theorem findEntry_cons (m : Nat) (f : ClaimEntry) (rest : List ClaimEntry) :
    findEntry m (f :: rest) = if f.station = m then some f else findEntry m rest := by
  simp only [findEntry, List.find?_cons]
  split <;> simp_all

theorem findEntry_insertEntry_other (h : e.station ≠ m) : findEntry m (insertEntry e list) = findEntry m list := by
  induction list with
  | nil => rw [insertEntry, findEntry_cons, if_neg h]
  | cons f rest ih =>
    unfold insertEntry
    split
    · rw [findEntry_cons, if_neg h]
    · rw [findEntry_cons, findEntry_cons, ih]

/-- The entry of a claimant who had none is found where it was put in. -/
theorem findEntry_insertEntry_self (h : findEntry e.station list = none) : findEntry e.station (insertEntry e list) = some e := by
  induction list with
  | nil => rw [insertEntry, findEntry_cons, if_pos rfl]
  | cons f rest ih =>
    rw [findEntry_cons] at h
    split at h
    · cases h
    · next hother =>
      unfold insertEntry
      split
      · rw [findEntry_cons, if_pos rfl]
      · rw [findEntry_cons, if_neg hother, ih h]

theorem findEntry_removeEntry_self (n : Nat) (list : List ClaimEntry) : findEntry n (removeEntry n list) = none := by
  simp [findEntry, removeEntry]

theorem findEntry_removeEntry_other (h : m ≠ n) : findEntry m (removeEntry n list) = findEntry m list := by
  induction list with
  | nil => rfl
  | cons f rest ih =>
    unfold removeEntry at ih ⊢
    rw [List.filter_cons, findEntry_cons]
    split
    · rw [findEntry_cons, ih]
    · next hgone =>
      have hstation : f.station = n := by simpa using hgone
      rw [ih, if_neg (by rw [hstation]; exact h.symm)]

theorem findEntry_removeEntry_of_none (n : Nat) (h : findEntry m list = none) : findEntry m (removeEntry n list) = none := by
  by_cases hsame : m = n
  · subst hsame
    exact findEntry_removeEntry_self m list
  · rw [findEntry_removeEntry_other hsame, h]

/-- Where a claimant has no entry, nothing leaves with it. -/
theorem removeEntry_of_none (h : findEntry n list = none) : removeEntry n list = list := by
  refine List.filter_eq_self.mpr fun e he => ?_
  simpa using List.find?_eq_none.mp h e he

theorem removeEntry_length_le (n : Nat) (list : List ClaimEntry) : (removeEntry n list).length ≤ list.length :=
  List.length_filter_le _ list

/-- The own entry of a claim that becomes HOLDING is no other claimant's (R117). -/
theorem findEntry_held (h : m ≠ n) :
    findEntry m (list.map fun e => if e.station = n then { e with holding := true } else e) = findEntry m list := by
  induction list with
  | nil => rfl
  | cons f rest ih =>
    rw [List.map_cons, findEntry_cons, findEntry_cons, ih]
    by_cases hown : f.station = n
    · have hother : f.station ≠ m := fun hm => h (hm.symm.trans hown)
      simp [hown, h.symm]
    · rw [if_neg hown]

/-- The worst CLAIMING entry is the last that does not hold (R112). -/
theorem worstClaiming_of_last {pre post : List ClaimEntry} (hw : w.holding = false) (hpost : ∀ x ∈ post, x.holding = true) :
    worstClaiming (pre ++ w :: post) = some w := by
  have hnone : post.reverse.find? (fun e => !e.holding) = none :=
    List.find?_eq_none.mpr fun x hx => by simp [hpost x (List.mem_reverse.mp hx)]
  simp [worstClaiming, List.find?_append, hnone, hw]

/-- A new own entry leaves the others where there is room for it. -/
theorem findEntry_enterOwn_of_room (h : e.station ≠ m) (hroom : list.length < 4) :
    findEntry m (enterOwn e list) = findEntry m list := by
  unfold enterOwn
  rw [if_pos hroom, findEntry_insertEntry_other h]

theorem findEntry_enterOwn_of_none (h : e.station ≠ m) (hnone : findEntry m list = none) :
    findEntry m (enterOwn e list) = none := by
  unfold enterOwn
  split
  · rw [findEntry_insertEntry_other h, hnone]
  · split
    · rw [findEntry_insertEntry_other h, findEntry_removeEntry_of_none _ hnone]
    · exact hnone

end

end Sys2Proof.Machine
end

section
/-! PROOFS. Another claimant's entry through the end of an event (R107, R108, R117 to R119): only a claim that the station makes then
can take its place. -/

namespace Sys2Proof.Machine

open Sys2Proof.Safety

/-- What is found of another claimant, where no own claim made now can take its place: there is nothing to take, or it holds, or no
claim can be made, or the list has room. -/
structure Listed (m : Nat) (o : Option ClaimEntry) (s : State) : Prop where
  other : m ≠ s.id.station
  found : findEntry m s.claims.list = o
  safe : o = none ∨ o.any ClaimEntry.holding = true ∨ claimsIdle s = false ∨ s.claims.list.length < 4

section
variable {m : Nat} {o : Option ClaimEntry} {s t : State}

theorem Listed.kept (h : Listed m o s) (hid : t.id = s.id) (hclaims : t.claims = s.claims) : Listed m o t := by
  obtain ⟨hother, hfound, hsafe⟩ := h
  refine ⟨hid ▸ hother, hclaims ▸ hfound, ?_⟩
  rwa [claimsIdle, hclaims]

/-- Once a claim stands, or its spacing runs, none is made. -/
theorem Listed.busy (h : Listed m o s) (hid : t.id = s.id) (hfound : findEntry m t.claims.list = findEntry m s.claims.list)
    (hbusy : claimsIdle t = false) : Listed m o t :=
  ⟨hid ▸ h.other, hfound.trans h.found, .inr (.inr (.inl hbusy))⟩

theorem listed_setList {list : List ClaimEntry} (hother : m ≠ s.id.station) (hfound : findEntry m list = o)
    (hsafe : o = none ∨ o.any ClaimEntry.holding = true ∨ claimsIdle s = false ∨ list.length < 4) : Listed m o (setList list s) :=
  ⟨hother, hfound, hsafe⟩

theorem listed_dropEntry (hother : m ≠ s.id.station) : Listed m none (dropEntry m s) :=
  listed_setList hother (findEntry_removeEntry_self m _) (.inl rfl)

theorem claimsIdle_of_own {c : OwnClaim} (h : s.claims.own = some c) : claimsIdle s = false := by simp [claimsIdle, h]

theorem Listed.endClaim (h : Listed m o s) (c : OwnClaim) : Listed m o (endClaim c s) := by
  refine h.busy (by simp) ?_ (by simp [claimsIdle, Machine.endClaim, seconds])
  simp only [Machine.endClaim, handFrame_keeps]
  exact findEntry_removeEntry_other h.other

theorem Listed.yieldClaim (h : Listed m o s) (r : ClaimResult) : Listed m o (yieldClaim r s) := by
  unfold Machine.yieldClaim
  split
  · next c _ =>
    split
    · exact h
    · have hended := h.endClaim c
      exact hended.busy rfl rfl rfl
  · exact h

theorem Listed.releaseClaim (h : Listed m o s) : Listed m o (releaseClaim s) := by
  unfold Machine.releaseClaim
  split
  · split
    · exact h.endClaim _
    · exact h
  · exact h

theorem Listed.handClaim (h : Listed m o s) : Listed m o (handClaim s) := by
  unfold Machine.handClaim
  split
  · exact h
  · exact h.busy (by simp) (by simp) (claimsIdle_of_own rfl)

theorem Listed.handOwedClaim (h : Listed m o s) : Listed m o (handOwedClaim s) := by
  unfold Machine.handOwedClaim
  split
  · exact h
  · split
    · exact h.handClaim
    · exact h

theorem Listed.holdClaim (h : Listed m o s) (c : OwnClaim) : Listed m o (holdClaim c s) := by
  have hheld : Listed m o { s with claims := { s.claims with
      own := some { c with holding := true, owed := false }
      list := s.claims.list.map fun e => if e.station = s.id.station then { e with holding := true } else e
      window := none
      last := .committed
      lastKind := some c.kind } } := h.busy rfl (findEntry_held h.other) (claimsIdle_of_own rfl)
  exact hheld.busy (by simp [Machine.holdClaim]) (by simp [Machine.holdClaim]) (by simp [Machine.holdClaim, claimsIdle])

/-- A claim is made only where no HOLDING entry stands, and leaves the entry of another claimant where it is safe (R107, R108). -/
theorem Listed.makeClaim (h : Listed m o s) {k : ClaimKind} (hidle : claimsIdle s = true) (hfree : listForbids s k = false)
    (origin : ClaimOrigin) (owner : Option Nat) : Listed m o (makeClaim k origin owner s) := by
  obtain ⟨hother, hfound, hsafe⟩ := id h
  have hown : (ownEntry s k).station ≠ m := fun hm => hother hm.symm
  refine h.busy (by simp) ?_ (claimsIdle_of_own (makeClaim_own k origin owner s))
  rw [makeClaim_list, hfound]
  have hothers : findEntry m (removeEntry s.id.station s.claims.list) = o := by rw [findEntry_removeEntry_other hother, hfound]
  rcases hsafe with rfl | hholds | hbusy | hroom
  · exact findEntry_enterOwn_of_none hown hothers
  · obtain ⟨e, rfl, hholding⟩ := (Option.any_eq_true _ _).mp hholds
    have hmem : e ∈ s.claims.list := List.mem_of_find?_eq_some hfound
    have hnone := List.any_eq_false.mp hfree e hmem
    simp [hholding] at hnone
  · simp [hbusy] at hidle
  · have hless := removeEntry_length_le s.id.station s.claims.list
    rw [findEntry_enterOwn_of_room hown (by omega), hothers]

/-! ## The steps of the end of an event -/

theorem Listed.endTest (h : Listed m o s) (r : TestResult) : Listed m o (endTest r s) := by
  obtain ⟨u, hclaims, hid, hends⟩ := endTest_claims r s
  rcases hends with hsame | hends
  · rwa [hsame]
  · have hreleased := (h.kept (t := u) hid hclaims).releaseClaim
    exact hreleased.kept (by simp [hid]) hends

theorem Listed.conditionAborts (h : Listed m o s) : Listed m o (conditionAborts s) := by
  have htest : Listed m o (if s.hasTest && testBarred s then Machine.endTest .aborted s else s) := by
    split
    · exact h.endTest _
    · exact h
  unfold Machine.conditionAborts
  dsimp only
  generalize (if s.hasTest && testBarred s then Machine.endTest .aborted s else s) = t at htest ⊢
  split
  · exact htest.kept (by simp) (by simp)
  · exact htest

theorem Listed.supportAbort (h : Listed m o s) : Listed m o (supportAbort s) := by
  unfold Machine.supportAbort
  split
  · exact h.endTest _
  · exact h

theorem Listed.yieldIfMust (h : Listed m o s) : Listed m o (yieldIfMust s) := by
  unfold Machine.yieldIfMust
  split
  · exact h
  · split
    · exact h
    · split
      · exact h.yieldClaim _
      · split
        · exact h.yieldClaim _
        · exact h

theorem Listed.tryCommit (h : Listed m o s) : Listed m o (tryCommit s) := by
  unfold Machine.tryCommit
  split
  · unfold commit
    split
    · exact h
    · split
      · exact h.yieldClaim _
      · split
        · exact Listed.holdClaim (h.kept (by simp) (by simp)) _
        · exact Listed.holdClaim (h.kept (by simp) (by simp)) _
  · exact h

theorem mayClaim_idle {k : ClaimKind} (h : mayClaim s k = true) : claimsIdle s = true ∧ listForbids s k = false := by
  simp only [mayClaim, Bool.and_eq_true, Bool.not_eq_true'] at h
  tauto

theorem testNowFailure_idle (h : testNowFailure s = 0) : claimsIdle s = true ∧ listForbids s .test = false := by
  refine ⟨?_, ?_⟩
  · by_contra hbusy
    exact testNowFailure_of_busy (by simpa using hbusy) h
  · by_contra hforbids
    have hforbidden : listForbids s .test = true := by simpa using hforbids
    unfold testNowFailure at h
    simp only [hforbidden, Bool.or_true, if_true] at h
    repeat' split at h
    all_goals omega

theorem Listed.tryTest (h : Listed m o s) : Listed m o (tryTest s) := by
  have htaken : Listed m o (takeWaiting s) := by
    have hdropped : Listed m o (dropWaiting s) := h.kept rfl rfl
    unfold takeWaiting
    split
    · split
      · next hpasses =>
        obtain ⟨hidle, hfree⟩ := testNowFailure_idle hpasses
        exact hdropped.makeClaim hidle hfree _ _
      · exact hdropped
    · exact h
  unfold Machine.tryTest
  dsimp only
  split
  · next hready =>
    have hmay : mayClaim (takeWaiting s) .test = true := by
      simp only [testClaimReady, Bool.and_eq_true] at hready
      exact hready.2
    obtain ⟨hidle, hfree⟩ := mayClaim_idle hmay
    exact htaken.makeClaim hidle hfree _ _
  · exact htaken

theorem Listed.tryEqualize (h : Listed m o s) : Listed m o (tryEqualize s) := h.kept (by simp) (by simp)

theorem Listed.tryKey (h : Listed m o s) : Listed m o (tryKey s) := by
  unfold Machine.tryKey
  split
  · next hready =>
    have hmay : mayClaim s .withdraw = true := by
      simp only [keyClaimReady, Bool.and_eq_true] at hready
      exact hready.2
    obtain ⟨hidle, hfree⟩ := mayClaim_idle hmay
    exact h.makeClaim hidle hfree _ _
  · exact h

theorem Listed.startActivities (h : Listed m o s) : Listed m o (startActivities s) := by
  have hdrawn : Listed m o { s with free := s.free + 1 } := h.kept rfl rfl
  unfold Machine.startActivities
  dsimp only
  split
  · split
    · exact hdrawn.tryEqualize.tryTest
    · exact hdrawn.tryTest.tryEqualize
  · exact h.tryEqualize.tryTest.tryKey

theorem Listed.refresh (h : Listed m o s) : Listed m o (refresh s) := h.kept rfl rfl

theorem Listed.giveOwner (h : Listed m o s) : Listed m o (giveOwner s) := h.kept (by simp) (by simp)

theorem Listed.settle (h : Listed m o s) : Listed m o (settle s) := by
  have haborted := h.refresh.yieldIfMust.conditionAborts.refresh.supportAbort
  have hclaimed := haborted.refresh.tryCommit.refresh.giveOwner.handOwedClaim.startActivities
  exact ⟨hclaimed.other, hclaimed.found, hclaimed.safe⟩

/-- What is found of the claimant stays through the end of the event. -/
theorem Listed.finish (h : Listed m o s) (before : State) : findEntry m (finish before s).claims.list = o := by
  rw [finish_claims]
  exact h.settle.found

/-! ## An own claim that has yielded -/

theorem endTest_claims_of_noClaim (hown : s.claims.own = none) (r : TestResult) : (endTest r s).claims = s.claims := by
  obtain ⟨u, hclaims, -, hends⟩ := endTest_claims r s
  rcases hends with hsame | hends
  · rw [hsame]
  · have hkept : releaseClaim u = u := by simp [releaseClaim, hclaims, hown]
    rw [hends, hkept, hclaims]

theorem conditionAborts_claims_of_noClaim (hown : s.claims.own = none) : (conditionAborts s).claims = s.claims := by
  have htest : (if s.hasTest && testBarred s then endTest .aborted s else s).claims = s.claims := by
    split
    · exact endTest_claims_of_noClaim hown _
    · rfl
  unfold conditionAborts
  dsimp only
  generalize (if s.hasTest && testBarred s then endTest .aborted s else s) = t at htest ⊢
  split
  · simpa using htest
  · exact htest

theorem supportAbort_claims_of_noClaim (hown : s.claims.own = none) : (supportAbort s).claims = s.claims := by
  unfold supportAbort
  split
  · exact endTest_claims_of_noClaim hown _
  · rfl

theorem claiming_of_noClaim (hown : s.claims.own = none) : s.claiming = false := by simp [State.claiming, hown]

/-- Without an own claim, and with its spacing running, the end of an event leaves the claims but the consent (R107, R120). -/
theorem settle_claims_of_spacing (hown : s.claims.own = none) (hspacing : s.claims.spacing.isSome = true) :
    (settle s).claims = { s.claims with consent := (settle s).claims.consent } := by
  have hyielded : yieldIfMust (refresh s) = refresh s := yieldIfMust_of_not (mustYield_of_notClaiming (claiming_of_noClaim hown))
  have hended : (supportAbort (refresh (conditionAborts (refresh s)))).claims = s.claims := by
    have haborted : (refresh (conditionAborts (refresh s))).claims = s.claims := conditionAborts_claims_of_noClaim hown
    rw [supportAbort_claims_of_noClaim (by rw [haborted, hown]), haborted]
  have hcommits : tryCommit (refresh (supportAbort (refresh (conditionAborts (refresh s)))))
      = refresh (supportAbort (refresh (conditionAborts (refresh s)))) :=
    tryCommit_of_not (commitReady_of_notClaiming (claiming_of_noClaim (hended ▸ hown)))
  have howned : (giveOwner (refresh (refresh (supportAbort (refresh (conditionAborts (refresh s))))))).claims = s.claims := by
    simpa using hended
  have hbusy : claimsIdle (giveOwner (refresh (refresh (supportAbort (refresh (conditionAborts (refresh s))))))) = false := by
    simp only [claimsIdle, howned, Bool.and_eq_false_iff]
    exact .inr (by simpa [Option.isNone_iff_eq_none, Option.isSome_iff_ne_none] using hspacing)
  unfold settle
  dsimp only
  rw [hyielded, hcommits, handOwedClaim_of_notClaiming (claiming_of_noClaim (howned ▸ hown)), retakeConsent,
    (startActivities_of_busy hbusy).1, howned]

end

end Sys2Proof.Machine
end

section
/-! PROOFS. CLAIM, RELEASE and the confirmation timer at the claim list (R77, R110 to R113, R118). -/

namespace Sys2Proof.Machine

open Sys2Proof.Safety

section
variable {s : State} {n : Nat} {k : ClaimKind}

/-! ## The events -/

theorem knownClaimant_iff : knownClaimant s n = true ↔ (s.peer n).state = .live ∧ (s.peer n).notice.group = s.id.group := by
  simp [knownClaimant]

/-- A CLAIM of a station other than this arrives at a station that receives. -/
theorem exec_claimReceived_eq (hstation : isStation n = true) (hother : n ≠ s.id.station) (hreceives : s.receiving = true) :
    exec (.claimReceived n k) s = .next (if knownClaimant s n = true then finish s (listClaimFrame n k (countReceived s))
      else countReceived s) := by
  change Host.Outcome.next _ = _
  rw [if_neg (by simp [hreceives, hstation])]
  cases hknown : knownClaimant s n <;> simp [hother]

theorem exec_claimReceived_known (hstation : isStation n = true) (hother : n ≠ s.id.station) (hreceives : s.receiving = true)
    (hknown : (s.peer n).state = .live ∧ (s.peer n).notice.group = s.id.group) :
    exec (.claimReceived n k) s = .next (finish s (listClaimFrame n k (countReceived s))) := by
  rw [exec_claimReceived_eq hstation hother hreceives, if_pos (knownClaimant_iff.mpr hknown)]

theorem exec_releaseReceived_eq (hstation : isStation n = true) (hother : n ≠ s.id.station) (hreceives : s.receiving = true) :
    exec (.releaseReceived n k) s = .next (finish s (dropEntry n (countReceived s))) := by
  change Host.Outcome.next _ = _
  rw [if_neg (by simp [hreceives, hstation]), if_neg hother]

theorem exec_confirmationTimerExpiry_eq {e : ClaimEntry} (hfound : findEntry n s.claims.list = some e)
    (hruns : e.timer.isSome = true) : exec (.confirmationTimerExpiry n) s = .next (finish s (dropEntry n s)) := by
  change Host.Outcome.next _ = _
  rw [hfound, if_pos (by simpa using hruns)]

/-! ## The list after a CLAIM (R110, R112) -/

theorem listClaimFrame_of_holder {e : ClaimEntry} (hfound : findEntry n s.claims.list = some e) (hholding : e.holding = true) :
    listClaimFrame n k s = s := by simp [listClaimFrame, hfound, hholding]

theorem enterEntry_of_room {e : ClaimEntry} (hroom : s.claims.list.length < 4) :
    enterEntry e s = setList (insertEntry e s.claims.list) s := by rw [enterEntry, if_pos hroom]

theorem listClaimFrame_of_new (hnone : findEntry n s.claims.list = none) :
    listClaimFrame n k s = enterEntry (confirmedEntry s n k false) s := by
  unfold listClaimFrame
  rw [hnone]

/-- A CLAIMING entry is confirmed, and a new one enters a list with room. -/
theorem listClaimFrame_of_place (hclaiming : ∀ e, findEntry n s.claims.list = some e → e.holding = false)
    (hplace : findEntry n s.claims.list ≠ none ∨ s.claims.list.length < 4) : listClaimFrame n k s =
      setList (insertEntry (confirmedEntry s n k false) (removeEntry n s.claims.list)) s := by
  unfold listClaimFrame
  split
  · next e hfound => rw [if_neg (by simp [hclaiming e hfound])]
  · next hnone => rw [enterEntry_of_room (hplace.resolve_left (by simp [hnone])), removeEntry_of_none hnone]

/-- The own CLAIMING claim that yields to the list (R118). -/
theorem yieldClaim_of_claiming (h : s.claiming = true) (r : ClaimResult) : (yieldClaim r s).claims.own = none
    ∧ (yieldClaim r s).claims.last = r ∧ (yieldClaim r s).claims.spacing = some 50
    ∧ (yieldClaim r s).claims.list = removeEntry s.id.station s.claims.list := by
  cases hown : s.claims.own with
  | none => simp [State.claiming, hown] at h
  | some c =>
    have hholding : c.holding = false := by simpa [State.claiming, hown] using h
    simp [yieldClaim, hown, hholding, endClaim, seconds]

section
variable {e w : ClaimEntry} (hfull : s.claims.list.length = 4) (hworst : worstClaiming s.claims.list = some w)
include hfull hworst

/-- At the bound an entry with a worse key does not enter. -/
theorem enterEntry_of_worse (hclaims : e.holding = false) (hkey : w.key ≤ e.key) : enterEntry e s = s := by
  unfold enterEntry
  rw [if_neg (by omega), hworst]
  simp only [hclaims, Bool.false_or, decide_eq_true_eq]
  rw [if_neg (by omega)]

/-- At the bound an entry with a better key takes the place of the worst CLAIMING entry, whose own claim yields. -/
theorem enterEntry_of_better (hkey : e.key < w.key) : enterEntry e s =
    setList (insertEntry e (removeEntry w.station (if w.station = s.id.station then yieldClaim .yielded s else s).claims.list))
      (dropEntry w.station (if w.station = s.id.station then yieldClaim .yielded s else s)) := by
  unfold enterEntry
  rw [if_neg (by omega), hworst]
  simp only [hkey, decide_true, Bool.or_true, if_true]
  rfl

theorem enterEntry_of_yield (hkey : e.key < w.key) (hwown : w.station = s.id.station) (hclaiming : s.claiming = true) :
    (enterEntry e s).claims.own = none ∧ (enterEntry e s).claims.last = .yielded ∧ (enterEntry e s).claims.spacing = some 50
      ∧ (enterEntry e s).claims.list = insertEntry e (removeEntry w.station (removeEntry s.id.station s.claims.list)) := by
  obtain ⟨hown, hlast, hspacing, hleft⟩ := yieldClaim_of_claiming hclaiming .yielded
  rw [enterEntry_of_better hfull hworst hkey, if_pos hwown, ← hleft]
  exact ⟨hown, hlast, hspacing, rfl⟩

end

end

/-- Settles O42: each event by what it makes of the list, and then what the end of the event leaves there. -/
theorem claimListFollowsFrames : Obligations.ClaimListFollowsFrames := by
  unfold Obligations.ClaimListFollowsFrames
  intro s n k hstation hother counted known dropped
  have hclaim (hreceives : s.receiving = true) (hknown : known) :
      exec (.claimReceived n k) s = .next (finish s (listClaimFrame n k counted)) :=
    exec_claimReceived_known hstation hother hreceives hknown
  let entered : ClaimEntry := confirmedEntry counted n k false
  refine ⟨fun hreceives hunknown => ?_, fun e hreceives hknown hfound hholding => ?_,
    fun hreceives hknown hclaiming hplace => ?_, fun pre w post hreceives hknown hnone hlist hfull hw hpost => ?_,
    fun hreceives => ?_, fun e hfound hruns => ?_⟩
  · rw [exec_claimReceived_eq hstation hother hreceives, if_neg (fun h => hunknown (knownClaimant_iff.mp h))]
    rfl
  · refine ⟨_, hclaim hreceives hknown, ?_⟩
    rw [listClaimFrame_of_holder (s := counted) hfound hholding]
    have hlisted : Listed n (some e) counted := ⟨hother, hfound, .inr (.inl hholding)⟩
    exact ⟨finish_after s counted, hlisted.finish s⟩
  · refine ⟨_, hclaim hreceives hknown, ?_⟩
    rw [listClaimFrame_of_place (s := counted) hclaiming hplace]
    refine ⟨finish_after s _, fun hsafe =>
      (listed_setList (s := counted) hother ?_ (.inr (.inr (hsafe.imp id fun hroom => ?_)))).finish s⟩
    · exact findEntry_insertEntry_self (e := entered) (findEntry_removeEntry_self n s.claims.list)
    · rw [insertEntry_length]
      exact Nat.succ_lt_succ hroom
  · have hworst : worstClaiming counted.claims.list = some w := by
      change worstClaiming s.claims.list = some w
      rw [hlist]
      exact worstClaiming_of_last hw hpost
    have henters : listClaimFrame n k counted = enterEntry entered counted := listClaimFrame_of_new (s := counted) hnone
    have hwn : n ≠ w.station := by
      have hmem : w ∈ s.claims.list := by simp [hlist]
      intro hsame
      simpa [hsame] using List.find?_eq_none.mp hnone w hmem
    refine ⟨_, hclaim hreceives hknown, fun hkey => ?_, fun hkey hwother => ?_, fun hkey hwown hclaiming => ?_⟩
    · rw [henters, enterEntry_of_worse (s := counted) (e := entered) hfull hworst rfl hkey]
      have hlisted : Listed n none counted := ⟨hother, hnone, .inl rfl⟩
      exact ⟨finish_after s counted, hlisted.finish s⟩
    · rw [henters, enterEntry_of_better (s := counted) (e := entered) hfull hworst hkey, if_neg hwother]
      refine ⟨finish_after s _, (listed_setList (s := dropEntry w.station counted) hwother ?_ (.inl rfl)).finish s,
        fun hbusy => (listed_setList (s := dropEntry w.station counted) hother ?_ (.inr (.inr (.inl hbusy)))).finish s⟩
      · exact (findEntry_insertEntry_other (e := entered) hwn).trans (findEntry_removeEntry_self _ _)
      · exact findEntry_insertEntry_self (e := entered) (findEntry_removeEntry_of_none _ hnone)
    · obtain ⟨hown, hlast, hspacing, hentered⟩ :=
        enterEntry_of_yield (s := counted) (e := entered) hfull hworst hkey hwown hclaiming
      rw [henters, finish_claims, settle_claims_of_spacing hown (by simp [hspacing])]
      dsimp only
      rw [hentered]
      refine ⟨hown, hlast, hspacing, findEntry_insertEntry_self (e := entered) ?_, ?_⟩
      · exact findEntry_removeEntry_of_none _ (findEntry_removeEntry_of_none _ hnone)
      · rw [findEntry_insertEntry_other (e := entered) hother, hwown, findEntry_removeEntry_self]
  · exact ⟨_, exec_releaseReceived_eq hstation hother hreceives, finish_after s _,
      (listed_dropEntry (s := counted) hother).finish s⟩
  · exact ⟨_, exec_confirmationTimerExpiry_eq hfound hruns, finish_after s _, (listed_dropEntry (s := s) hother).finish s⟩

end Sys2Proof.Machine
end

section
/-! PROOFS. The support checks (R94 to R99). -/

namespace Sys2Proof.Machine

open Sys2Proof.Safety

section
variable {s : State} {kind : ClaimKind} {n : Nat}

/-- A support check passes where none of its conditions is the first to fail; a test check leaves the third out (R97, R99). -/
theorem supports_iff : supports kind s n = true ↔
    remainingSet s n ≠ [] ∧ noneStrained s = true ∧ (kind = .withdraw → carries s (remainingSet s n) = true)
      ∧ ratingSum (remainingSet s n) ≠ 0
      ∧ ∀ m ∈ remainingSet s n, demandMet s.cfg (groupLoad s) (ratingSum (remainingSet s n)) m = true := by
  unfold supports firstFailure
  dsimp only
  generalize remainingSet s n = r
  rw [← List.all_eq_true]
  cases hempty : r.isEmpty with
  | true => simp_all
  | false =>
    have hsome : r ≠ [] := by simpa using hempty
    cases noneStrained s with
    | false => simp
    | true =>
      by_cases hfails : kind = .withdraw ∧ (!carries s r) = true
      · simp_all
      · have hcarries : kind = .withdraw → carries s r = true := by simpa using hfails
        rw [if_neg (by simp), if_neg (by simp), if_neg hfails]
        by_cases htotal : ratingSum r = 0
        · simp [htotal]
        · cases hmet : r.all (demandMet s.cfg (groupLoad s) (ratingSum r)) with
          | false => simp [htotal]
          | true => simpa [htotal, hsome] using hcarries

theorem noneStrained_iff : noneStrained s = true ↔ ∀ m ∈ members s, m.mode ≠ .discharging ∧ m.mode ≠ .onBypass := by
  simp [noneStrained]

theorem carries_iff (ms : List Member) : carries s ms = true ↔ groupLoad s * (100 + s.cfg.reserve) ≤ ratingSum ms * 100 := by
  simp [carries]

/-- Where the ratings sum to something, each share is its part of the load, rounded up (R98). -/
theorem demandMet_iff {cfg : Settings} {load total : Nat} (htotal : total ≠ 0) (m : Member) :
    demandMet cfg load total m = true ↔ cfg.minRuntime ≤ runtimeOf m.energy (ceilDiv (load * m.rating) total) := by
  simp only [demandMet, decide_eq_true_eq, shareOf, if_neg htotal]

/-- The two checks on a remaining set whose conditions are spelled out (R97 to R99). -/
theorem supports_iff_conditions : supports kind s n = true ↔
    (remainingSet s n ≠ [] ∧ (∀ m ∈ members s, m.mode ≠ .discharging ∧ m.mode ≠ .onBypass)
      ∧ ratingSum (remainingSet s n) ≠ 0 ∧ ∀ m ∈ remainingSet s n,
        s.cfg.minRuntime ≤ runtimeOf m.energy (ceilDiv (groupLoad s * m.rating) (ratingSum (remainingSet s n))))
      ∧ (kind = .withdraw → groupLoad s * (100 + s.cfg.reserve) ≤ ratingSum (remainingSet s n) * 100) := by
  rw [supports_iff, noneStrained_iff, carries_iff]
  constructor
  · rintro ⟨hsome, hstrained, hcarries, htotal, hmet⟩
    exact ⟨⟨hsome, hstrained, htotal, fun m hm => (demandMet_iff htotal m).mp (hmet m hm)⟩, hcarries⟩
  · rintro ⟨⟨hsome, hstrained, htotal, hmet⟩, hcarries⟩
    exact ⟨hsome, hstrained, hcarries, htotal, fun m hm => (demandMet_iff htotal m).mpr (hmet m hm)⟩

end

/-- Settles O40: the four conditions, of which a test check leaves the third out. -/
theorem supportChecks : Obligations.SupportChecks := by
  intro s station
  refine ⟨supports_iff_conditions.trans (and_congr_right fun _ => ?_), supports_iff_conditions.trans (and_iff_left ?_)⟩
  · exact ⟨fun h => h rfl, fun h _ => h⟩
  · rintro ⟨⟩

end Sys2Proof.Machine
end

section
/-! PROOFS. CLEAR of a named set (R121, R167) and FORGET (R92). -/

namespace Sys2Proof.Machine

open Sys2Proof.Safety

/-! ## The conditions of a set (R163, R167) -/

theorem Conditions.ext_get {c d : Conditions} (h : ∀ k, c.get k = d.get k) : c = d := by
  cases c
  cases d
  simp only [Conditions.mk.injEq]
  exact ⟨h .mainsLost, h .onBypass, h .stringHot, h .tempLost, h .sampleGap, h .recordLost, h .peerLost, h .redundancyLost,
    h .claimConflict, h .duplicateId, h .transferFault, h .uncommandedBypass, h .visitOverdue, h .queueFull, h .stringWeak,
    h .lineErrors⟩

theorem mem_allConditions (k : Condition) : k ∈ allConditions := by cases k <;> decide

/-- The conditions with a list of them cleared. -/
def Conditions.without (c : Conditions) (ks : List Condition) : Conditions := ks.foldl (fun d k => d.put k false) c

theorem Conditions.get_without (c : Conditions) (ks : List Condition) (k : Condition) :
    (c.without ks).get k = (c.get k && !ks.contains k) := by
  unfold Conditions.without
  induction ks generalizing c with
  | nil => simp
  | cons l ks ih =>
    rw [List.foldl_cons, ih]
    by_cases hk : k = l
    · subst hk
      simp
    · simp [Conditions.get_put_other c l k false hk, hk]

section
variable {s : State} {named : Nat} {c : Conditions} {k : Condition}

theorem setConditions_false (ks : List Condition) (s : State) : ks.foldl (fun t k => setCondition k false t) s
    = { s with monitor := { s.monitor with active := s.monitor.active.without ks } } := by
  unfold Conditions.without
  induction ks generalizing s with
  | nil => rfl
  | cons k ks ih =>
    rw [List.foldl_cons, ih]
    rfl

/-- A CLEAR takes the latched conditions that it names and finds active (R167). -/
theorem clearedBy_contains : (clearedBy named c).contains k = (named.testBit k.bit && k.latched && c.get k) := by
  rw [Bool.eq_iff_iff, List.contains_iff_mem]
  simp [clearedBy, mem_allConditions]

theorem get_without_clearedBy : (c.without (clearedBy named c)).get k = (c.get k && !(k.latched && named.testBit k.bit)) := by
  rw [Conditions.get_without, clearedBy_contains]
  cases c.get k <;> cases k.latched <;> simp

/-- The latched conditions that a set names, inactive (10.3, R167). -/
def clearedConditions (named : Nat) (c : Conditions) : Conditions :=
  { c with
    recordLost := c.recordLost && !named.testBit 5
    peerLost := c.peerLost && !named.testBit 6
    claimConflict := c.claimConflict && !named.testBit 8
    duplicateId := c.duplicateId && !named.testBit 9
    transferFault := c.transferFault && !named.testBit 10
    uncommandedBypass := c.uncommandedBypass && !named.testBit 11
    lineErrors := c.lineErrors && !named.testBit 15 }

theorem without_clearedBy : c.without (clearedBy named c) = clearedConditions named c := by
  refine Conditions.ext_get fun k => ?_
  rw [get_without_clearedBy]
  cases k <;> simp [Conditions.get, Condition.latched, Condition.bit, clearedConditions]

/-! ## CLEAR (R121, R167) -/

/-- The station once a CLEAR of a set is done (R78, R121, R167). -/
def afterClear (named : Nat) (s : State) : State :=
  { s with
    monitor := { s.monitor with
      active := clearedConditions named s.monitor.active
      lineErrors := if named.testBit 15 then 0 else s.monitor.lineErrors }
    claims := { s.claims with latch := s.claims.latch && !(s.monitor.active.claimConflict && named.testBit 8) } }

theorem serveClear_state : (serveClear named s).state = afterClear named s := by
  have hconflict : (clearedBy named s.monitor.active).contains .claimConflict
      = (s.monitor.active.claimConflict && named.testBit 8) := by
    rw [clearedBy_contains, Bool.and_comm]
    simp [Condition.latched, Condition.bit, Conditions.get]
  unfold serveClear afterClear
  simp only [setConditions_false, without_clearedBy, hconflict]
  cases s.monitor.active.claimConflict && named.testBit 8 <;> cases hbit : named.testBit 15 <;> simp [Condition.bit, hbit]

/-- The bit of a condition in the set that a CLEAR answers. -/
def clearedBit (active : Bool) (named bit : Nat) : Nat := if active && named.testBit bit then 2 ^ bit else 0

theorem clearedBit_eq (active : Bool) (named bit : Nat) : clearedBit active named bit = 2 ^ bit * flag (named.testBit bit && active) := by
  unfold clearedBit flag
  cases active <;> cases named.testBit bit <;> simp

theorem conditionSet_clearedBy : conditionSet (clearedBy named c) =
    clearedBit c.recordLost named 5 + clearedBit c.peerLost named 6 + clearedBit c.claimConflict named 8
      + clearedBit c.duplicateId named 9 + clearedBit c.transferFault named 10 + clearedBit c.uncommandedBypass named 11
      + clearedBit c.lineErrors named 15 := by
  have hfollow : flag false = 0 := rfl
  simp only [conditionSet, allConditions, List.map_cons, List.map_nil, flags, clearedBy_contains, Condition.latched, Condition.bit,
    Conditions.get, Bool.and_false, Bool.false_and, Bool.and_true, hfollow, clearedBit_eq]
  ring

end

section
variable {s : State} {term : Nat} {tag a b : Byte}

theorem exec_clear : exec (.clear term tag [a, b]) s = .next (request term 11#8 tag [a, b] (serveClear (arg16 [a, b] 0)) s) := rfl

theorem exec_forget : exec (.forget term tag [a]) s = .next (request term 12#8 tag [a] (serveForget a.toNat) s) := rfl

/-- A served CLEAR answers the set that it made inactive (R167). -/
theorem clear_after (h : Servable term 11#8 tag [a, b] s) :
    After (answered term 11#8 tag [a, b] 0#8
        (bytesOf 2 (conditionSet (clearedBy (256 * a.toNat + b.toNat) s.monitor.active))) (afterClear (256 * a.toNat + b.toNat) s))
      (request term 11#8 tag [a, b] (serveClear (arg16 [a, b] 0)) s) := by
  refine request_after h rfl (by simp) rfl ?_ ?_
  · rw [arg16_pair]
    rfl
  · rw [arg16_pair, serveClear_state]
    rfl

/-! ## FORGET (R92) -/

theorem ne_zero_of_isStation {n : Nat} (h : isStation n = true) : n ≠ 0 := by
  rintro rfl
  cases h

theorem serveForget_of_stale {n : Nat} (hstation : isStation n = true) (hstale : (s.peer n).state = .stale) :
    serveForget n s = answer .done { s with peers := s.peers.set (n - 1) Peer.blank } := by
  simp [serveForget, hstation, hstale, setPeer, ne_zero_of_isStation hstation]

/-- A FORGET that empties no entry is refused (R92). -/
theorem forget_refused {c : ResultCode} (h : Servable term 12#8 tag [a] s)
    (hserve : serveForget a.toNat (countReceived s) = answer c (countReceived s)) :
    Refused term 12#8 tag [a] (BitVec.ofNat 8 c.number) s (request term 12#8 tag [a] (serveForget a.toNat) s) :=
  request_refused h rfl (by simp) hserve rfl

end

/-- Settles O56: CLEAR by the conditions that it leaves and the set that it answers, FORGET by the state of the entry. -/
theorem clearAndForget : Obligations.ClearAndForget := by
  refine ⟨fun s term tag a b hservable => ⟨_, exec_clear, ?_⟩, fun s term tag a hservable => ⟨_, exec_forget, fun hstation => ?_,
    fun hstation hempty => ?_, fun hstation hlive => ?_, fun hstation hstale => ?_⟩⟩
  · have hafter := clear_after hservable
    rw [bytesOf_two, conditionSet_clearedBy] at hafter
    exact hafter
  · exact forget_refused (c := .bad) hservable (by simp [serveForget, hstation])
  · have hentry : ((countReceived s).peer a.toNat).state = .empty := hempty
    exact forget_refused (c := .notFound) hservable (by simp [serveForget, hstation, hentry])
  · have hentry : ((countReceived s).peer a.toNat).state = .live := hlive
    exact forget_refused (c := .state) hservable (by simp [serveForget, hstation, hentry])
  · have hentry : ((countReceived s).peer a.toNat).state = .stale := hstale
    have hserve := serveForget_of_stale (s := countReceived s) hstation hentry
    exact request_after hservable rfl (by simp) (by rw [hserve]; rfl) (by rw [hserve]; rfl) (by rw [hserve]; rfl)

end Sys2Proof.Machine
end

section
/-! PROOFS. What is latched through the end of an event (R121, R163), and a peer that falls silent (R91). -/

namespace Sys2Proof.Machine

open Sys2Proof.Safety

section
variable {s : State} {k : Condition}

/-! ## Latched conditions and the conflict latch through the end of an event (10.3, R121, R163) -/

/-- Taking the follow conditions anew leaves a latched condition as it is (R163). -/
theorem refresh_get (hlatched : k.latched = true) : (refresh s).monitor.active.get k = s.monitor.active.get k := by
  cases k <;> simp_all [Condition.latched, Conditions.get, followed]

theorem noteConflict_get (n : Nat) (h : s.monitor.active.get k = true) : (noteConflict n s).monitor.active.get k = true := by
  unfold noteConflict
  split
  · rw [setCondition_active]
    by_cases hk : k = .claimConflict
    · rw [hk, Conditions.get_put_self]
    · rwa [Conditions.get_put_other _ _ _ _ hk]
  · exact h

theorem noteConflict_latch (n : Nat) (h : s.claims.latch = true) : (noteConflict n s).claims.latch = true := by
  unfold noteConflict
  split
  · rfl
  · exact h

/-- A commit may raise CLAIM_CONFLICT with the latch, and clears neither (R117, R121). -/
theorem tryCommit_keepsRaised : (s.monitor.active.get k = true → (tryCommit s).monitor.active.get k = true)
    ∧ (s.claims.latch = true → (tryCommit s).claims.latch = true) := by
  unfold tryCommit commit
  split
  · split
    · exact ⟨id, id⟩
    · split
      · simp
      · split <;> exact ⟨fun h => noteConflict_get _ (by simpa using h), fun h => noteConflict_latch _ (by simpa using h)⟩
  · exact ⟨id, id⟩

/-- An active latched condition stays active through the end of the event. -/
theorem finish_get (hlatched : k.latched = true) (before : State) (h : s.monitor.active.get k = true) :
    (finish before s).monitor.active.get k = true := by
  unfold finish settle
  simp only [settlePort_keeps, announceChange_keeps, retakeConsent_keeps, startActivities_keeps, handOwedClaim_keeps,
    giveOwner_keeps, refresh_get hlatched]
  refine tryCommit_keepsRaised.1 ?_
  simpa only [refresh_get hlatched, supportAbort_keeps, conditionAborts_keeps, yieldIfMust_keeps] using h

theorem settle_conflictLatch (h : s.claims.latch = true) : (settle s).claims.latch = true := by
  unfold settle
  simp only [retakeConsent_keeps, startActivities_keeps, handOwedClaim_keeps, giveOwner_keeps, refresh_keeps]
  exact tryCommit_keepsRaised (k := .claimConflict).2 (by simpa using h)

/-- While the conflict latch is set the station gives no consent (R114, R121). -/
theorem consentOf_of_latch (h : s.claims.latch = true) : consentOf s = none := by simp [consentOf, givesConsent, h]

/-- The conflict latch stays through the end of the event, which takes the consent back (R115, R121). -/
theorem finish_of_latch (before : State) (h : s.claims.latch = true) :
    (finish before s).claims.latch = true ∧ (finish before s).claims.consent = none := by
  have hlatch := settle_conflictLatch h
  rw [finish_claims]
  refine ⟨hlatch, ?_⟩
  unfold settle at hlatch ⊢
  exact consentOf_of_latch (by simpa using hlatch)

end

section
variable {s : State} {n : Nat}

/-! ## A peer that falls silent (R91) -/

theorem ne_zero_of_live (h : (s.peer n).state = .live) : n ≠ 0 := by
  rintro rfl
  cases h

theorem setPeer_of_ne_zero {p : Peer} (hn : n ≠ 0) : setPeer n p s = { s with peers := s.peers.set (n - 1) p } := if_neg hn

theorem exec_staleTimerExpiry_eq (hlive : (s.peer n).state = .live) (hruns : (s.peer n).staleTimer.isSome = true) :
    exec (.staleTimerExpiry n) s = .next (finish s (goStale n s)) := by
  change Host.Outcome.next _ = _
  rw [if_pos ⟨hlive, hruns⟩]

end

/-- Settles O39: the entry's own change, and at a member of the own group what the monitor and the claim list make of it. -/
theorem peerGoesStale : Obligations.PeerGoesStale := by
  intro s n hlive hruns hother
  have hset := setPeer_of_ne_zero (s := s) (p := { s.peer n with state := .stale, staleTimer := none }) (ne_zero_of_live hlive)
  refine ⟨_, exec_staleTimerExpiry_eq hlive hruns, fun hgroup => ?_, fun hgroup => ?_⟩
  · have hstale : goStale n s = setPeer n { s.peer n with state := .stale, staleTimer := none } s := if_neg hgroup
    rw [hstale, hset]
    exact finish_after s _
  · have hstale : goStale n s = dropEntry n (setCondition .peerLost true
        (setPeer n { s.peer n with state := .stale, staleTimer := none } s)) := if_pos hgroup
    rw [hstale, hset]
    refine ⟨finish_after s _, finish_get (k := .peerLost) rfl s rfl, (listed_dropEntry ?_).finish s⟩
    exact hother

end Sys2Proof.Machine
end

section
/-! PROOFS. What every step keeps of the own peer entry (R88, R92) and of the pulses (R129): the operations and the commands. -/

namespace Sys2Proof.Safety

open Sys2Proof.Machine

/-- The own peer entry is EMPTY, and a pulse waits only behind one of the other kind (R88, R129). -/
def EntryAndPulses (s : State) : Prop := OwnEntryEmpty s ∧ PulsesSound s

/-- From `s` to `t` the own number, the peer table and the pulses stay. -/
def EntryKept (s t : State) : Prop :=
  t.id = s.id ∧ t.peers = s.peers ∧ t.bypass.pulse = s.bypass.pulse ∧ t.bypass.waitingPulse = s.bypass.waitingPulse

section
variable {s t : State}

/-! ## The own entry (R88) -/

theorem OwnEntryEmpty.of_peers (h : OwnEntryEmpty s) (hid : t.id = s.id) (hpeers : t.peers = s.peers) : OwnEntryEmpty t := by
  unfold OwnEntryEmpty State.peer at *
  rwa [hid, hpeers]

/-- A change of another station's entry leaves the own one. -/
theorem OwnEntryEmpty.setPeer (h : OwnEntryEmpty s) {n : Nat} (hother : n ≠ s.id.station) (p : Peer) :
    OwnEntryEmpty (setPeer n p s) := by
  unfold OwnEntryEmpty
  rw [show (Machine.setPeer n p s).id = s.id by simp, peer_setPeer_other _ _ _ _ hother.symm]
  exact h

/-- The table with every entry EMPTY, as a start leaves it. -/
theorem ownEntryEmpty_of_blank {k : Nat} (hpeers : s.peers = List.replicate k Peer.blank) : OwnEntryEmpty s := by
  unfold OwnEntryEmpty State.peer
  rw [hpeers]
  split
  · rfl
  · rw [List.getD_eq_getElem?_getD, List.getElem?_replicate]
    split <;> rfl

/-- A station with an entry that is not EMPTY is another one. -/
theorem other_of_present (h : OwnEntryEmpty s) {n : Nat} (hpresent : (s.peer n).state ≠ .empty) : n ≠ s.id.station := by
  rintro rfl
  exact hpresent h

/-! ## The pulses (R129) -/

theorem pulsesSound_of_notWaiting (hwaiting : s.bypass.waitingPulse = none) : PulsesSound s := by
  unfold PulsesSound
  rw [hwaiting]
  trivial

/-- Nothing waits while no pulse is asserted. -/
theorem PulsesSound.notWaiting (h : PulsesSound s) (hpulse : s.bypass.pulse = none) : s.bypass.waitingPulse = none := by
  unfold PulsesSound at h
  split at h
  · next hwaiting => exact hwaiting
  · obtain ⟨p, hasserted, -⟩ := h
    simp [hpulse] at hasserted

theorem PulsesSound.askPulse (h : PulsesSound s) (k : PulseKind) : PulsesSound (askPulse k s) := by
  unfold Machine.askPulse
  split
  · next hpulse => exact pulsesSound_of_notWaiting (h.notWaiting hpulse)
  · next p hpulse =>
    split
    · exact h
    · next hnew =>
      rw [not_or] at hnew
      exact ⟨p, hpulse, hnew.1⟩

theorem PulsesSound.endPulse (h : PulsesSound s) : PulsesSound (endPulse s) := by
  unfold Machine.endPulse
  split
  · exact h
  · dsimp only
    split <;> exact pulsesSound_of_notWaiting rfl

/-! ## Operations that ask for a pulse -/

theorem EntryAndPulses.kept (h : EntryAndPulses s) (k : EntryKept s t) : EntryAndPulses t := by
  obtain ⟨hentry, hpulses⟩ := h
  obtain ⟨hid, hpeers, hpulse, hwaiting⟩ := k
  refine ⟨hentry.of_peers hid hpeers, ?_⟩
  unfold PulsesSound at *
  rwa [hpulse, hwaiting]

theorem EntryAndPulses.askPulse (h : EntryAndPulses s) (k : PulseKind) : EntryAndPulses (askPulse k s) :=
  ⟨h.1.of_peers (by simp) (by simp), h.2.askPulse k⟩

theorem EntryAndPulses.endPulse (h : EntryAndPulses s) : EntryAndPulses (endPulse s) :=
  ⟨h.1.of_peers (by simp) (by simp), h.2.endPulse⟩

/-- A step taken only in some states, and otherwise nothing. -/
theorem EntryAndPulses.ite {c : Prop} [Decidable c] (hs : EntryAndPulses s) (ht : EntryAndPulses t) :
    EntryAndPulses (if c then s else t) := by
  split
  · exact hs
  · exact ht

theorem EntryAndPulses.startReturn (h : EntryAndPulses s) : EntryAndPulses (startReturn s) :=
  EntryAndPulses.askPulse (h.kept (by simp [EntryKept])) _

theorem EntryAndPulses.askReturn (h : EntryAndPulses s) : EntryAndPulses (askReturn s) := by
  unfold Machine.askReturn
  split
  · exact h
  · split
    · exact h
    · exact h.startReturn
    · exact h
    · exact h

theorem EntryAndPulses.timeOutTransfer (h : EntryAndPulses s) : EntryAndPulses (timeOutTransfer s) :=
  (h.askPulse .mbpo).kept (by simp [EntryKept, Machine.timeOutTransfer])

theorem EntryAndPulses.becomeClosed (h : EntryAndPulses s) (last : Confirmed) : EntryAndPulses (becomeClosed last s) := by
  unfold Machine.becomeClosed
  split
  · split
    · exact .ite h.startReturn h
    · exact h
    · exact h
    · exact h
  · exact .ite h (.ite (h.kept (by simp [EntryKept])) h)

theorem EntryAndPulses.moveBreaker (h : EntryAndPulses s) (cl op : Bool) : EntryAndPulses (moveBreaker cl op s) := by
  have htaken : EntryAndPulses (takeContacts cl op s) := h
  unfold Machine.moveBreaker
  dsimp only
  split
  · exact htaken
  · split
    · exact EntryAndPulses.becomeClosed (htaken.kept (by simp [EntryKept])) _
    · exact htaken.kept (by simp [EntryKept])
    · exact htaken
    · exact htaken
    · exact htaken

theorem EntryAndPulses.settleKey (h : EntryAndPulses s) : EntryAndPulses (settleKey s) := by
  unfold Machine.settleKey
  split
  · exact h
  · next new _ =>
    refine .ite h ?_
    have hmoved : EntryAndPulses { s with visits := { s.visits with stable := new } } := h
    generalize ({ s with visits := { s.visits with stable := new } } : State) = u at hmoved
    have hdropped : EntryAndPulses (dropRequest u) := hmoved.kept (by simp [EntryKept])
    unfold keyEffects
    split
    · exact hmoved.kept (by simp [EntryKept])
    · exact hmoved.kept (by simp [EntryKept])
    · exact hmoved
    · exact hdropped.askReturn
    · exact hdropped.askReturn.kept (by simp [EntryKept])
    · exact hmoved.askReturn.kept (by simp [EntryKept])
    · exact hmoved
    · exact hmoved
    · exact hmoved

theorem EntryAndPulses.changeVisit (h : EntryAndPulses s) (f : Visit → Visit) : EntryAndPulses (changeVisit f s) := h

theorem EntryAndPulses.pushClaimed (h : EntryAndPulses s) (owner : Option Nat) : EntryAndPulses (pushClaimed owner s) := by
  have hpushed (f : Frame) : EntryAndPulses (Machine.askPulse .mbpc (pushFrame f s)) :=
    EntryAndPulses.askPulse (h.kept (by simp [EntryKept])) .mbpc
  unfold Machine.pushClaimed
  dsimp only
  split
  · exact hpushed _
  · exact (hpushed _).changeVisit _

theorem EntryAndPulses.commit (h : EntryAndPulses s) : EntryAndPulses (commit s) := by
  unfold Machine.commit
  split
  · exact h
  · next c _ =>
    refine .ite (h.kept (by simp [EntryKept])) ?_
    split
    · exact h.kept (by simp [EntryKept])
    · exact (h.pushClaimed c.owner).kept (by simp [EntryKept])

/-! ## The end of an event -/

theorem EntryAndPulses.finish (h : EntryAndPulses s) (before : State) : EntryAndPulses (finish before s) := by
  have hcleared : EntryAndPulses (refresh (supportAbort (refresh (conditionAborts (yieldIfMust (refresh s)))))) :=
    h.kept (by simp [EntryKept])
  have hcommitted : EntryAndPulses (tryCommit (refresh (supportAbort (refresh (conditionAborts (yieldIfMust (refresh s))))))) :=
    .ite hcleared.commit hcleared
  exact hcommitted.kept (by simp [EntryKept, Machine.finish, settle])

theorem EntryAndPulses.keptFinish {before : State} (h : EntryAndPulses s) (k : EntryKept s t) :
    EntryAndPulses (Machine.finish before t) := (h.kept k).finish before

theorem EntryAndPulses.acceptBurst (h : EntryAndPulses s) (load : Nat) (bs : List BurstString) :
    EntryAndPulses (acceptBurst load bs s) := by
  have hcommitted (u : State) (hu : EntryAndPulses u) : EntryAndPulses (commitBeforeSample bs u) := by
    have hdrawn : EntryAndPulses { u with free := u.free + 1 } := hu
    exact .ite (.ite hdrawn hdrawn.commit) hu
  have htaken : EntryAndPulses (abortBeforeSample bs { s with intake := takeBurst load bs s.intake }) :=
    h.kept (by simp [EntryKept])
  have hsampled : EntryAndPulses
      (sampleReceivers bs (commitBeforeSample bs (abortBeforeSample bs { s with intake := takeBurst load bs s.intake }))) :=
    (hcommitted _ htaken).kept (by simp [EntryKept])
  exact hsampled.finish s

theorem EntryAndPulses.testSecond (h : EntryAndPulses s) : EntryAndPulses (testSecond s) :=
  .ite (h.kept (by simp [EntryKept])) (h.kept (by simp [EntryKept]))

/-! ## The peer table (R89 to R92) -/

theorem EntryAndPulses.setPeer (h : EntryAndPulses s) {n : Nat} (hother : n ≠ s.id.station) (p : Peer) :
    EntryAndPulses (setPeer n p s) := by
  obtain ⟨hentry, hpulses⟩ := h
  refine ⟨hentry.setPeer hother p, ?_⟩
  unfold PulsesSound at *
  rwa [(show (Machine.setPeer n p s).bypass = s.bypass by simp)]

theorem EntryAndPulses.takeNotice (h : EntryAndPulses s) {n : Nat} (hother : n ≠ s.id.station) (notice : Notice) :
    EntryAndPulses (takeNotice n notice s) := by
  have hcounted : EntryAndPulses (countReceived s) := h
  have hset := hcounted.setPeer (n := n) hother (refreshedPeer notice)
  exact .ite (hset.kept (by simp [EntryKept])) hset

theorem EntryAndPulses.goStale (h : EntryAndPulses s) {n : Nat} (hlive : (s.peer n).state = .live) :
    EntryAndPulses (goStale n s) := by
  have hother : n ≠ s.id.station := other_of_present h.1 (by simp [hlive])
  have hset := h.setPeer hother { s.peer n with state := .stale, staleTimer := none }
  exact .ite (hset.kept (by simp [EntryKept])) hset

/-! ## Requests (R85, R86) -/

theorem EntryAndPulses.request (h : EntryAndPulses s) (term : Nat) (code tag : Byte) (args : List Byte) {serve : State → Served}
    (hserve : ∀ u, EntryAndPulses u → EntryAndPulses (serve u).state) : EntryAndPulses (request term code tag args serve s) := by
  have hcounted : EntryAndPulses (countReceived s) := h
  unfold Machine.request
  dsimp only
  refine .ite h (.ite hcounted ?_)
  split
  · exact hcounted.kept (by simp [EntryKept])
  · exact hcounted.kept (by simp [EntryKept])
  · exact (hserve _ hcounted).keptFinish (by simp [EntryKept])

theorem withItem_entryKept (number : Nat) {f : Visit → Nat → Item → Served} (hf : ∀ v place it, EntryKept s (f v place it).state) :
    EntryKept s (withItem number s f).state := by
  have hsame : EntryKept s s := ⟨rfl, rfl, rfl, rfl⟩
  unfold withItem
  split
  · exact hsame
  · split
    · exact hsame
    · split
      · exact hsame
      · split
        · exact hsame
        · exact hf _ _ _

theorem serveItemTake_entryKept (number : Nat) (s : State) : EntryKept s (serveItemTake number s).state :=
  withItem_entryKept number fun v place it => by (repeat' split) <;> simp [EntryKept, answer]

theorem serveItemReturn_entryKept (number : Nat) (s : State) : EntryKept s (serveItemReturn number s).state :=
  withItem_entryKept number fun v place it => by split <;> simp [EntryKept, answer]

theorem serveItemDone_entryKept (number : Nat) (s : State) : EntryKept s (serveItemDone number s).state :=
  withItem_entryKept number fun v place it => by (repeat' split) <;> simp [EntryKept, answer]

theorem serveVisitOpen_entryKept (term technician planned : Nat) (s : State) :
    EntryKept s (serveVisitOpen term technician planned s).state := by
  unfold serveVisitOpen
  (repeat' split) <;> simp [EntryKept, answer]

theorem serveVisitClose_entryKept (number : Nat) (s : State) : EntryKept s (serveVisitClose number s).state := by
  unfold serveVisitClose
  (repeat' split) <;> simp [EntryKept, answer, closeByTerminal]

theorem serveWithdraw_entryKept (n : Nat) (s : State) : EntryKept s (serveWithdraw n s).state := by
  unfold serveWithdraw
  (repeat' split) <;> simp [EntryKept, answer]

theorem serveTestNow_entryKept (s : State) : EntryKept s (serveTestNow s).state := by
  unfold serveTestNow
  (repeat' split) <;> simp [EntryKept, answer]

theorem serveEqualizeNow_entryKept (s : State) : EntryKept s (serveEqualizeNow s).state := by
  simp [EntryKept, serveEqualizeNow, answer]

theorem serveStop_entryKept (s : State) : EntryKept s (serveStop s).state := by
  unfold serveStop
  split <;> simp [EntryKept, answer]

theorem serveRestart_entryKept (s : State) : EntryKept s (serveRestart s).state := by
  unfold serveRestart
  (repeat' split) <;> simp [EntryKept, answer]

theorem serveClear_entryKept (named : Nat) (s : State) : EntryKept s (serveClear named s).state := by
  have hcleared : EntryKept s ((clearedBy named s.monitor.active).foldl (fun t k => setCondition k false t) s) :=
    foldl_inv (P := EntryKept s) _ (fun t k ht => by simpa [EntryKept] using ht) _ _ ⟨rfl, rfl, rfl, rfl⟩
  unfold serveClear
  dsimp only
  (repeat' split) <;> exact hcleared

theorem requestRead_entryKept (term : Nat) (tag : Byte) (args : List Byte) (s : State) :
    EntryKept s (requestRead term tag args s) := by
  unfold requestRead
  dsimp only
  (repeat' split) <;> simp [EntryKept]

theorem EntryAndPulses.serveReturn (h : EntryAndPulses s) : EntryAndPulses (serveReturn s).state := by
  unfold Machine.serveReturn
  split
  · exact h
  · exact h.askReturn

/-- Only a STALE entry is forgotten, and the own one is none (R88, R92). -/
theorem EntryAndPulses.serveForget (h : EntryAndPulses s) (n : Nat) : EntryAndPulses (serveForget n s).state := by
  unfold Machine.serveForget
  split
  · exact h
  · split
    · exact h
    · exact h
    · next hstale => exact h.setPeer (other_of_present h.1 (by simp [hstale])) _

/-! ## Holding and starting the part -/

theorem entryAndPulses_of_start {k : Nat} (hpeers : s.peers = List.replicate k Peer.blank) (hwaiting : s.bypass.waitingPulse = none) :
    EntryAndPulses s := ⟨ownEntryEmpty_of_blank hpeers, pulsesSound_of_notWaiting hwaiting⟩

theorem entryAndPulses_startPart (st : Straps) (image : Option Image) (lost : List PageId) (s : State) :
    EntryAndPulses (startPart st image lost s) := by
  have hrefused : EntryAndPulses (configFault (readStraps st (clearBlocks s))) := entryAndPulses_of_start (k := 24) rfl rfl
  cases hstation : isStation st.id.toNat with
  | false => rwa [startPart_refused (.inl hstation)]
  | true =>
    cases image with
    | none => rwa [startPart_refused (.inr (by simp))]
    | some im =>
      cases hgood : imageGood im with
      | false => rwa [startPart_refused (.inr (by simpa using hgood))]
      | true =>
        have hmains : (configured st im s).bypass.mains = .present := rfl
        have hconfirmed : (configured st im s).bypass.confirmed = .unknown := rfl
        obtain ⟨-, -, -, -, -, hpeers, -⟩ := bringUp_keeps (lost := lost) hmains hconfirmed
        rw [startPart_good hstation hgood]
        refine entryAndPulses_of_start (k := 24) hpeers ?_
        rw [bringUp_bypass hmains hconfirmed, firstBypass, reckonedPart_bypass, restoredPart_bypass]
        rfl

/-! ## The commands -/

/-- The state that a command answers has an EMPTY own entry and sound pulses. -/
def NextEntryAndPulses (o : Host.Outcome State Fault Refusal) : Prop := ∀ t, o = .next t → EntryAndPulses t

theorem nextEntryAndPulses_next (h : EntryAndPulses t) : NextEntryAndPulses (.next t) := by
  rintro _ ⟨⟩
  exact h

theorem exec_nextEntryAndPulses (c : Instr) (h : EntryAndPulses s) : NextEntryAndPulses (exec c s) := by
  cases c with
  | resetNAsserted => exact nextEntryAndPulses_next (entryAndPulses_of_start (k := 24) rfl rfl)
  | powerLoss => exact nextEntryAndPulses_next (entryAndPulses_of_start (k := 24) rfl rfl)
  | start st image lost => exact nextEntryAndPulses_next (entryAndPulses_startPart st image lost s)
  | restartStart st image lost => exact nextEntryAndPulses_next (.ite (entryAndPulses_startPart st image lost s) h)
  | measurementBurst bytes extra early =>
    refine nextEntryAndPulses_next (.ite h ?_)
    split
    · exact h
    · exact h
    · exact h.acceptBurst _ _
  | intakeSecondTimerExpiry => exact nextEntryAndPulses_next (.ite h (h.keptFinish (by simp [EntryKept])))
  | wearSecondTimerExpiry => exact nextEntryAndPulses_next (.ite h (h.keptFinish (by simp [EntryKept])))
  | equalizeMinuteTimerExpiry =>
    refine nextEntryAndPulses_next ?_
    split
    · exact h.keptFinish (by simp [EntryKept])
    · exact h
  | testSecondTimerExpiry =>
    have hagain : EntryAndPulses { s with cond := { s.cond with testSecond := seconds 1 } } := h
    exact nextEntryAndPulses_next (.ite h (hagain.testSecond.finish s))
  | frameStart => exact nextEntryAndPulses_next (h.kept (by simp [EntryKept]))
  | arbitrationLoss =>
    refine nextEntryAndPulses_next ?_
    split
    · exact h
    · exact h.kept (by simp [EntryKept])
  | frameAbandoned =>
    refine nextEntryAndPulses_next ?_
    split
    · exact h
    · split
      · exact h
      · exact h.kept (by simp [EntryKept])
  | frameSent =>
    refine nextEntryAndPulses_next ?_
    split
    · exact h
    · split
      · exact h
      · exact h.keptFinish (by simp [EntryKept])
  | lineSynchronised => exact nextEntryAndPulses_next (.ite h h)
  | frameRejected frame =>
    refine nextEntryAndPulses_next (.ite h ?_)
    split
    · exact h
    · exact .ite (h.kept (by simp [EntryKept])) (h.kept (by simp [EntryKept]))
  | statusReceived source payload =>
    refine nextEntryAndPulses_next ?_
    split
    · exact h
    · next hserved =>
      have hother : source ≠ s.id.station := fun hown => hserved (by simp [hown])
      split
      · exact h
      · exact (h.takeNotice hother _).finish s
  | duplicateNumberHeard => exact nextEntryAndPulses_next (.ite h (.ite (h.keptFinish (by simp [EntryKept])) h))
  | claimReceived source kind => exact nextEntryAndPulses_next (.ite h (.ite h (h.keptFinish (by simp [EntryKept]))))
  | releaseReceived source kind => exact nextEntryAndPulses_next (.ite h (.ite h (h.keptFinish (by simp [EntryKept]))))
  | mainsReceived source kind => exact nextEntryAndPulses_next (.ite h (.ite h (h.kept (by simp [EntryKept]))))
  | resultRecordReceived => exact nextEntryAndPulses_next (.ite h h)
  | statusTimerExpiry => exact nextEntryAndPulses_next (.ite h (h.kept (by simp [EntryKept])))
  | joiningTimerExpiry => exact nextEntryAndPulses_next (.ite h (h.keptFinish (by simp [EntryKept])))
  | staleTimerExpiry station =>
    refine nextEntryAndPulses_next ?_
    split
    · next hexpires => exact (h.goStale hexpires.1).finish s
    · exact h
  | claimWindowTimerExpiry => exact nextEntryAndPulses_next (.ite h (h.keptFinish (by simp [EntryKept])))
  | spacingTimerExpiry => exact nextEntryAndPulses_next (.ite h (h.keptFinish (by simp [EntryKept])))
  | confirmationTimerExpiry station => exact nextEntryAndPulses_next (.ite (h.keptFinish (by simp [EntryKept])) h)
  | mainsOkChange level => exact nextEntryAndPulses_next (.ite h (.ite (h.kept (by simp [EntryKept])) h))
  | mainsLossTimerExpiry => exact nextEntryAndPulses_next (.ite h (h.keptFinish (by simp [EntryKept])))
  | mainsQualificationTimerExpiry => exact nextEntryAndPulses_next (.ite h (h.keptFinish (by simp [EntryKept])))
  | breakerContactChange cl op =>
    have hshown : EntryAndPulses { s with pins := { s.pins with mbpCl := cl, mbpOp := op } } := h
    exact nextEntryAndPulses_next (.ite h (.ite ((hshown.moveBreaker cl op).finish s) hshown))
  | disagreeTimerExpiry => exact nextEntryAndPulses_next (.ite h h)
  | pulseEnd => exact nextEntryAndPulses_next h.endPulse
  | transferTimeout => exact nextEntryAndPulses_next (.ite (h.timeOutTransfer.finish s) h)
  | returnTimeout => exact nextEntryAndPulses_next (.ite (h.keptFinish (by simp [EntryKept])) h)
  | recoveryWaitExpiry => exact nextEntryAndPulses_next (.ite h (h.keptFinish (by simp [EntryKept])))
  | bypLoadChange level =>
    have hshown : EntryAndPulses { s with pins := { s.pins with bypLoad := level } } := h
    exact nextEntryAndPulses_next
      (.ite h (.ite (EntryAndPulses.finish (.ite (hshown.kept (by simp [EntryKept])) hshown) s) hshown))
  | keyInputChange keyS keyW => exact nextEntryAndPulses_next (.ite h (.ite h h))
  | keySettleTimerExpiry =>
    have hended : EntryAndPulses { s with visits := { s.visits with settleTimer := none } } := h
    exact nextEntryAndPulses_next (.ite h (hended.settleKey.finish s))
  | overdueTimerExpiry => exact nextEntryAndPulses_next (.ite h (h.keptFinish (by simp [EntryKept])))
  | hourTimerExpiry => exact nextEntryAndPulses_next (.ite h (h.keptFinish (by simp [EntryKept])))
  | memoryWriteDone => exact nextEntryAndPulses_next (.ite h (h.kept (by simp [EntryKept])))
  | memoryWriteFail => exact nextEntryAndPulses_next (.ite h (h.keptFinish (by simp [EntryKept])))
  | visitOpen term tag args =>
    exact nextEntryAndPulses_next (h.request _ _ _ _ fun u hu => hu.kept (serveVisitOpen_entryKept _ _ _ u))
  | visitClose term tag args =>
    exact nextEntryAndPulses_next (h.request _ _ _ _ fun u hu => hu.kept (serveVisitClose_entryKept _ u))
  | itemTake term tag args => exact nextEntryAndPulses_next (h.request _ _ _ _ fun u hu => hu.kept (serveItemTake_entryKept _ u))
  | itemDone term tag args => exact nextEntryAndPulses_next (h.request _ _ _ _ fun u hu => hu.kept (serveItemDone_entryKept _ u))
  | itemReturn term tag args =>
    exact nextEntryAndPulses_next (h.request _ _ _ _ fun u hu => hu.kept (serveItemReturn_entryKept _ u))
  | withdraw term tag args => exact nextEntryAndPulses_next (h.request _ _ _ _ fun u hu => hu.kept (serveWithdraw_entryKept _ u))
  | returnRequest term tag args => exact nextEntryAndPulses_next (h.request _ _ _ _ fun _ hu => hu.serveReturn)
  | testNow term tag args => exact nextEntryAndPulses_next (h.request _ _ _ _ fun u hu => hu.kept (serveTestNow_entryKept u))
  | equalizeNow term tag args =>
    exact nextEntryAndPulses_next (h.request _ _ _ _ fun u hu => hu.kept (serveEqualizeNow_entryKept u))
  | stop term tag args => exact nextEntryAndPulses_next (h.request _ _ _ _ fun u hu => hu.kept (serveStop_entryKept u))
  | clear term tag args => exact nextEntryAndPulses_next (h.request _ _ _ _ fun u hu => hu.kept (serveClear_entryKept _ u))
  | forget term tag args => exact nextEntryAndPulses_next (h.request _ _ _ _ fun _ hu => hu.serveForget _)
  | read term tag args => exact nextEntryAndPulses_next (h.kept (requestRead_entryKept _ _ _ s))
  | restart term tag args => exact nextEntryAndPulses_next (h.request _ _ _ _ fun u hu => hu.kept (serveRestart_entryKept u))
  | unknownRequestCode term code tag args => exact nextEntryAndPulses_next (.ite h (h.request _ _ _ _ fun _ hu => hu))

/-! ## The passing of time -/

/-- An EMPTY entry counts no time (R89), and a pulse keeps its kind. -/
theorem EntryAndPulses.tick (h : EntryAndPulses s) : EntryAndPulses (tick s) := by
  obtain ⟨hentry, hpulses⟩ := h
  unfold Machine.tick
  split
  · exact ⟨hentry, hpulses⟩
  · constructor
    · unfold OwnEntryEmpty State.peer at *
      dsimp only
      split
      · rfl
      · next hn =>
        rw [if_neg hn, List.getD_eq_getElem?_getD] at hentry
        rw [List.getD_eq_getElem?_getD, List.getElem?_map]
        cases hfound : s.peers[s.id.station - 1]? with
        | none => rfl
        | some p =>
          rw [hfound] at hentry
          have hempty : p.state = .empty := hentry
          simp [tickPeer, hempty]
    · unfold PulsesSound at *
      dsimp only
      split
      · trivial
      · next k hwaiting =>
        rw [hwaiting] at hpulses
        obtain ⟨p, hpulse, hkind⟩ := hpulses
        exact ⟨{ p with left := p.left - 1 }, by rw [hpulse]; rfl, hkind⟩

/-- Settles O12: a step is a tick or a command, and each keeps the own entry EMPTY and the pulses sound. -/
theorem stepKeepsOwnEntryAndPulses : Obligations.StepKeepsOwnEntryAndPulses := by
  intro s t hentry hpulses hstep
  have h : EntryAndPulses s := ⟨hentry, hpulses⟩
  unfold step at hstep
  split at hstep
  · cases hstep
    exact h.tick
  · next c rest _ =>
    have hpopped : EntryAndPulses { s with pending := rest } := h
    exact exec_nextEntryAndPulses c hpopped t hstep

end
end Sys2Proof.Safety
end

section
/-! PROOFS. STATUS at the peer table and the claim list (R89, R90, R109 to R114, R118, R120, R121). -/

namespace Sys2Proof.Machine

open Sys2Proof.Safety

section
variable {s u : State} {m : Nat} {notice : Notice} {e w : ClaimEntry} {list : List ClaimEntry}

/-! ## The list and its bound (R106, R112) -/

theorem mem_insertEntry_iff {x : ClaimEntry} : x ∈ insertEntry e list ↔ x = e ∨ x ∈ list := by
  refine ⟨mem_insertEntry, fun hx => ?_⟩
  induction list with
  | nil => simpa [insertEntry] using hx
  | cons f rest ih =>
    unfold insertEntry
    split
    · exact List.mem_cons.mpr hx
    · rw [List.mem_cons] at hx ⊢
      tauto

theorem station_ne_of_findEntry_none (h : findEntry m list = none) {x : ClaimEntry} (hx : x ∈ list) : x.station ≠ m := by
  simpa using List.find?_eq_none.mp h x hx

theorem worstClaiming_of_holders (h : ∀ x ∈ list, x.holding = true) : worstClaiming list = none :=
  List.find?_eq_none.mpr fun x hx => by simp [h x (List.mem_reverse.mp hx)]

theorem dropEntry_of_none (h : findEntry m u.claims.list = none) : dropEntry m u = u := by
  unfold dropEntry
  rw [removeEntry_of_none h]
  rfl

/-- At the bound, and among holders alone, no entry is made (R112). -/
theorem enterEntry_of_holders (hfull : u.claims.list.length = 4) (hholders : ∀ x ∈ u.claims.list, x.holding = true) :
    enterEntry e u = u := by
  unfold enterEntry
  rw [if_neg (by omega), worstClaiming_of_holders hholders]

section
variable (hfull : u.claims.list.length = 4) (hworst : worstClaiming u.claims.list = some w)
  (henters : e.holding = true ∨ e.key < w.key)
include hfull hworst henters

/-- At the bound a HOLDING entry, or one with a better key, takes the place of the worst CLAIMING entry, whose own claim yields
(R112). -/
theorem enterEntry_of_enters : enterEntry e u =
    setList (insertEntry e (removeEntry w.station (if w.station = u.id.station then yieldClaim .yielded u else u).claims.list))
      (dropEntry w.station (if w.station = u.id.station then yieldClaim .yielded u else u)) := by
  unfold enterEntry
  rw [if_neg (by omega), hworst]
  dsimp only
  rw [if_pos (by simpa using henters)]
  rfl

theorem enterEntry_of_ownWorst (hown : w.station = u.id.station) (hclaiming : u.claiming = true) :
    (enterEntry e u).claims.own = none ∧ (enterEntry e u).claims.last = .yielded ∧ (enterEntry e u).claims.spacing = some 50
      ∧ (enterEntry e u).claims.list = insertEntry e (removeEntry w.station (removeEntry u.id.station u.claims.list)) := by
  obtain ⟨hnone, hlast, hspacing, hleft⟩ := yieldClaim_of_claiming hclaiming .yielded
  rw [enterEntry_of_enters hfull hworst henters, if_pos hown, ← hleft]
  exact ⟨hnone, hlast, hspacing, rfl⟩

end

/-! ## The conflict (R121) -/

theorem noteConflict_of_none (h : findEntry m u.claims.list = none) : noteConflict m u = u := by
  have hnot : (u.claims.list.any fun e => e.holding && e.station == m) = false :=
    List.any_eq_false.mpr fun x hx => by simp [station_ne_of_findEntry_none h hx]
  simp [noteConflict, conflictWith, hnot]

/-- Two holders that an event brings together raise CLAIM_CONFLICT with its latch (R121). -/
theorem noteConflict_of_two {x y : ClaimEntry} (hx : x ∈ u.claims.list) (hy : y ∈ u.claims.list) (hholds : x.holding = true)
    (hholds' : y.holding = true) (hstation : x.station = m) (hother : y.station ≠ m) :
    (noteConflict m u).claims.latch = true ∧ (noteConflict m u).monitor.active.get .claimConflict = true := by
  have hconflict : conflictWith m u.claims.list = true := by
    unfold conflictWith
    rw [Bool.and_eq_true, List.any_eq_true, List.any_eq_true]
    exact ⟨⟨x, hx, by simp [hholds, hstation]⟩, y, hy, by simp [hholds', hother]⟩
  rw [noteConflict, if_pos hconflict]
  exact ⟨rfl, rfl⟩

theorem Listed.noteConflict {o : Option ClaimEntry} (h : Listed m o u) (n : Nat) : Listed m o (noteConflict n u) := by
  obtain ⟨hother, hfound, hsafe⟩ := h
  exact ⟨by simpa using hother, by simpa using hfound, by simpa [claimsIdle] using hsafe⟩

/-! ## What is heard (R109) -/

theorem hear_of_noClaim (h : u.claims.own = none) : hear m u = u := by simp [hear, h]

theorem hear_claimsIdle (m : Nat) (u : State) : claimsIdle (hear m u) = claimsIdle u := by
  unfold hear
  split
  · rfl
  · next c hown => split <;> simp [claimsIdle, hown]

theorem hear_claiming (m : Nat) (u : State) : (hear m u).claiming = u.claiming := by
  unfold hear
  split
  · rfl
  · next c hown => split <;> simp [State.claiming, hown]

theorem hear_list (m : Nat) (u : State) : (hear m u).claims.list = u.claims.list := by simp

theorem confirmedEntry_hear (m n : Nat) (k : ClaimKind) (holding : Bool) (u : State) :
    confirmedEntry (hear m u) n k holding = confirmedEntry u n k holding := by
  unfold confirmedEntry
  rw [State.now_congr (s := u) (by simp)]

/-- A notice that changes nothing but what is heard ends its event as one that changes nothing, where no claim stands. -/
theorem finish_hear_after (before : State) (m : Nat) (u : State) : After u (finish before (hear m u)) := by
  have hheard : Aftermath u (hear m u) := by
    rw [aftermath_iff]
    simp
  refine ⟨Aftermath.trans hheard (finish_aftermath before _), fun hquiet => ?_⟩
  obtain ⟨hown, -⟩ := id hquiet
  rw [hear_of_noClaim hown]
  exact finish_quiet before u hquiet

/-! ## The notice at the claim list (R90, R111) -/

theorem claimsTakeNotice_aftermath (m : Nat) (notice : Notice) (u : State) : Aftermath u (claimsTakeNotice m notice u) := by
  rw [aftermath_iff]
  simp

theorem claimsTakeNotice_member (h : notice.group = u.id.group) :
    claimsTakeNotice m notice u = noteConflict m (listNotice m notice.claim (hear m u)) := if_pos h

theorem claimsTakeNotice_stranger (h : notice.group ≠ u.id.group) : claimsTakeNotice m notice u = dropEntry m u := if_neg h

theorem listNotice_of_place {a : AnnouncedClaim} (hplace : findEntry m u.claims.list ≠ none ∨ u.claims.list.length < 4) :
    listNotice m (some a) u = setList (insertEntry (confirmedEntry u m a.kind a.holding) (removeEntry m u.claims.list)) u := by
  unfold listNotice
  dsimp only
  split
  · rfl
  · next hnone => rw [enterEntry_of_room (hplace.resolve_left (by simp [hnone])), removeEntry_of_none hnone]

theorem listNotice_of_new {a : AnnouncedClaim} (hnone : findEntry m u.claims.list = none) :
    listNotice m (some a) u = enterEntry (confirmedEntry u m a.kind a.holding) u := by
  unfold listNotice
  dsimp only
  rw [hnone]

/-- Without a claim in its notice, or outside the group, a station leaves the list. -/
theorem claimsTakeNotice_drops (hother : m ≠ u.id.station) (h : notice.claim = none ∨ notice.group ≠ u.id.group) :
    Listed m none (claimsTakeNotice m notice u) := by
  by_cases hgroup : notice.group = u.id.group
  · rw [claimsTakeNotice_member hgroup, h.resolve_right (not_not.mpr hgroup)]
    exact (listed_dropEntry (s := hear m u) (by simpa using hother)).noteConflict m
  · rw [claimsTakeNotice_stranger hgroup]
    exact listed_dropEntry hother

/-- A station that was not on the list then leaves nothing there. -/
theorem claimsTakeNotice_drops_after (before : State) (hnone : findEntry m u.claims.list = none)
    (h : notice.claim = none ∨ notice.group ≠ u.id.group) : After u (finish before (claimsTakeNotice m notice u)) := by
  by_cases hgroup : notice.group = u.id.group
  · have hunlisted : findEntry m (hear m u).claims.list = none := by rwa [hear_list]
    rw [claimsTakeNotice_member hgroup, h.resolve_right (not_not.mpr hgroup), listNotice, dropEntry_of_none hunlisted,
      noteConflict_of_none hunlisted]
    exact finish_hear_after before m u
  · rw [claimsTakeNotice_stranger hgroup, dropEntry_of_none hnone]
    exact finish_after before u

section
variable {a : AnnouncedClaim} (hgroup : notice.group = u.id.group) (hclaim : notice.claim = some a)
include hgroup hclaim

/-- A listed station is confirmed, and a new one enters a list with room. -/
theorem claimsTakeNotice_of_place (hplace : findEntry m u.claims.list ≠ none ∨ u.claims.list.length < 4) :
    claimsTakeNotice m notice u = noteConflict m
      (setList (insertEntry (confirmedEntry u m a.kind a.holding) (removeEntry m u.claims.list)) (hear m u)) := by
  rw [claimsTakeNotice_member hgroup, hclaim, listNotice_of_place (by rwa [hear_list]), confirmedEntry_hear, hear_list]

theorem claimsTakeNotice_listed (hother : m ≠ u.id.station)
    (hplace : findEntry m u.claims.list ≠ none ∨ u.claims.list.length < 4)
    (hsafe : (a.holding = true ∨ claimsIdle u = false) ∨ (removeEntry m u.claims.list).length < 3) :
    Listed m (some (confirmedEntry u m a.kind a.holding)) (claimsTakeNotice m notice u) := by
  rw [claimsTakeNotice_of_place hgroup hclaim hplace]
  refine (listed_setList (s := hear m u) (by simpa using hother) ?_ (.inr ?_)).noteConflict m
  · exact findEntry_insertEntry_self (e := confirmedEntry u m a.kind a.holding) (findEntry_removeEntry_self m _)
  · rw [hear_claimsIdle, insertEntry_length]
    rcases hsafe with (hholds | hbusy) | hroom
    · exact .inl hholds
    · exact .inr (.inl hbusy)
    · exact .inr (.inr (by omega))

/-- A HOLDING notice beside another holder is a conflict (R121). -/
theorem claimsTakeNotice_conflict {x : ClaimEntry} (hx : x ∈ u.claims.list) (hholds : a.holding = true) (hholds' : x.holding = true)
    (hother : x.station ≠ m) (hplace : findEntry m u.claims.list ≠ none ∨ u.claims.list.length < 4) :
    (claimsTakeNotice m notice u).claims.latch = true
      ∧ (claimsTakeNotice m notice u).monitor.active.get .claimConflict = true := by
  rw [claimsTakeNotice_of_place hgroup hclaim hplace]
  have hkept : x ∈ removeEntry m u.claims.list := List.mem_filter.mpr ⟨hx, by simpa using hother⟩
  exact noteConflict_of_two (mem_insertEntry_iff.mpr (.inl rfl)) (mem_insertEntry_iff.mpr (.inr hkept)) hholds hholds' rfl hother

section
variable (hnone : findEntry m u.claims.list = none)
include hnone

theorem claimsTakeNotice_of_new :
    claimsTakeNotice m notice u = noteConflict m (enterEntry (confirmedEntry u m a.kind a.holding) (hear m u)) := by
  rw [claimsTakeNotice_member hgroup, hclaim, listNotice_of_new (by rwa [hear_list]), confirmedEntry_hear]

/-- An entry that is not made leaves the list as it was. -/
theorem claimsTakeNotice_refused (before : State) (hother : m ≠ u.id.station)
    (hrefused : enterEntry (confirmedEntry u m a.kind a.holding) (hear m u) = hear m u) :
    After u (finish before (claimsTakeNotice m notice u))
      ∧ findEntry m (finish before (claimsTakeNotice m notice u)).claims.list = none := by
  have hunlisted : findEntry m (hear m u).claims.list = none := by rwa [hear_list]
  rw [claimsTakeNotice_of_new hgroup hclaim hnone, hrefused, noteConflict_of_none hunlisted]
  have hlisted : Listed m none (hear m u) := ⟨by simpa using hother, hunlisted, .inl rfl⟩
  exact ⟨finish_hear_after before m u, hlisted.finish before⟩

/-- At the bound the worst CLAIMING entry of another station gives its place (R112). -/
theorem claimsTakeNotice_displaces (hother : m ≠ u.id.station) (hfull : u.claims.list.length = 4)
    (hworst : worstClaiming u.claims.list = some w) (hmem : w ∈ u.claims.list)
    (henters : a.holding = true ∨ keyOf a.kind m < w.key) (hwother : w.station ≠ u.id.station) :
    Listed w.station none (claimsTakeNotice m notice u)
      ∧ (a.holding = true ∨ claimsIdle u = false →
        Listed m (some (confirmedEntry u m a.kind a.holding)) (claimsTakeNotice m notice u)) := by
  have hwm : m ≠ w.station := (station_ne_of_findEntry_none hnone hmem).symm
  have hwother' : w.station ≠ (hear m u).id.station := by simpa using hwother
  rw [claimsTakeNotice_of_new hgroup hclaim hnone, enterEntry_of_enters (w := w) (by rwa [hear_list]) (by rwa [hear_list]) henters,
    if_neg hwother', hear_list]
  refine ⟨(listed_setList hwother' ?_ (.inl rfl)).noteConflict m, fun hsafe =>
    (listed_setList (s := dropEntry w.station (hear m u)) (by simpa using hother) ?_ (.inr ?_)).noteConflict m⟩
  · exact (findEntry_insertEntry_other (e := confirmedEntry u m a.kind a.holding) hwm).trans (findEntry_removeEntry_self _ _)
  · exact findEntry_insertEntry_self (e := confirmedEntry u m a.kind a.holding) (findEntry_removeEntry_of_none _ hnone)
  · have hidle : claimsIdle (dropEntry w.station (hear m u)) = claimsIdle u := hear_claimsIdle m u
    rw [hidle]
    exact hsafe.imp id .inl

/-- Where the worst CLAIMING entry is the own one, the own claim yields (R112, R118). -/
theorem claimsTakeNotice_yields (hother : m ≠ u.id.station) (hfull : u.claims.list.length = 4)
    (hworst : worstClaiming u.claims.list = some w) (henters : a.holding = true ∨ keyOf a.kind m < w.key)
    (hown : w.station = u.id.station) (hclaiming : u.claiming = true) :
    let v := claimsTakeNotice m notice u
    v.claims.own = none ∧ v.claims.last = .yielded ∧ v.claims.spacing = some 50
      ∧ findEntry m v.claims.list = some (confirmedEntry u m a.kind a.holding) ∧ findEntry u.id.station v.claims.list = none := by
  have hid : (hear m u).id = u.id := by simp
  obtain ⟨hnoClaim, hlast, hspacing, hlist⟩ := enterEntry_of_ownWorst (u := hear m u) (w := w)
    (e := confirmedEntry u m a.kind a.holding) (by rwa [hear_list]) (by rwa [hear_list]) henters (by rw [hid, hown])
    (by rwa [hear_claiming])
  rw [hid, hear_list] at hlist
  dsimp only
  rw [claimsTakeNotice_of_new hgroup hclaim hnone]
  simp only [noteConflict_keeps, hlist]
  refine ⟨hnoClaim, hlast, hspacing, findEntry_insertEntry_self (e := confirmedEntry u m a.kind a.holding) ?_, ?_⟩
  · exact findEntry_removeEntry_of_none _ (findEntry_removeEntry_of_none _ hnone)
  · rw [findEntry_insertEntry_other (e := confirmedEntry u m a.kind a.holding) hother, hown, findEntry_removeEntry_self]

end

end

/-- A STATUS of another station, with its notice taken in the state that the counted frame and the refreshed entry leave. -/
theorem exec_statusReceived_eq {payload : List Byte} (hreceives : s.receiving = true) (hstation : isStation m = true)
    (hother : m ≠ s.id.station) (hdecodes : decodeNotice payload = some notice) :
    exec (.statusReceived m payload) s = .next (finish s (claimsTakeNotice m notice { s with
      peers := s.peers.set (m - 1) { state := .live, notice := notice, since := 0, staleTimer := some 40 }
      line := { s.line with received := min 65535 (s.line.received + 1) } })) := by
  change Host.Outcome.next _ = _
  rw [if_neg (by simp [hreceives, hstation, hother]), hdecodes]
  change Host.Outcome.next (finish s (takeNotice m notice s)) = _
  rw [takeNotice, setPeer_of_ne_zero (ne_zero_of_isStation hstation)]
  rfl

theorem finish_claims_of_spacing (before : State) (hown : u.claims.own = none) (hspacing : u.claims.spacing = some 50) :
    (finish before u).claims = { u.claims with consent := (finish before u).claims.consent } := by
  rw [finish_claims]
  exact settle_claims_of_spacing hown (by simp [hspacing])

end

/-- Settles O38: the list that the notice leaves, by its claim and the room for it, and that list through the end of the event. -/
theorem statusRefreshesPeer : Obligations.StatusRefreshesPeer := by
  intro s source payload n hreceives hstation hother hdecodes u
  have hexec : exec (.statusReceived source payload) s = .next (finish s (claimsTakeNotice source n u)) :=
    exec_statusReceived_eq hreceives hstation hother hdecodes
  refine ⟨_, hexec, Aftermath.trans (claimsTakeNotice_aftermath source n u) (finish_aftermath s _),
    fun hnone h => claimsTakeNotice_drops_after s (u := u) hnone h,
    fun h => (claimsTakeNotice_drops (u := u) hother h).finish s, fun a hclaim hgroup => ?_⟩
  dsimp only
  have hgroup' : n.group = u.id.group := hgroup
  refine ⟨fun hplace hsafe => (claimsTakeNotice_listed (u := u) hgroup' hclaim hother hplace hsafe).finish s,
    fun pre w post hlist hfull hnone hw hpost => ?_, fun hfull hnone hholders => ?_, fun x hx hholds hholds' hxother hplace => ?_⟩
  · have hworst : worstClaiming u.claims.list = some w := by
      change worstClaiming s.claims.list = some w
      rw [hlist]
      exact worstClaiming_of_last hw hpost
    have hmem : w ∈ u.claims.list := by
      change w ∈ s.claims.list
      simp [hlist]
    refine ⟨fun hworse => ?_, fun henters hwother => ?_, fun henters hwown hclaiming => ?_⟩
    · rw [not_or, Bool.not_eq_true, not_lt] at hworse
      obtain ⟨hclaims, hkey⟩ := hworse
      exact claimsTakeNotice_refused (u := u) hgroup' hclaim hnone s hother
        (enterEntry_of_worse (w := w) (by rwa [hear_list]) (by rwa [hear_list]) hclaims hkey)
    · obtain ⟨hgone, hentered⟩ := claimsTakeNotice_displaces (u := u) hgroup' hclaim hnone hother hfull hworst hmem henters hwother
      exact ⟨hgone.finish s, fun hsafe => (hentered hsafe).finish s⟩
    · obtain ⟨hown, hlast, hspacing, hentered, hgone⟩ :=
        claimsTakeNotice_yields (u := u) hgroup' hclaim hnone hother hfull hworst henters hwown hclaiming
      rw [finish_claims_of_spacing s hown hspacing]
      exact ⟨hown, hlast, hspacing, hentered, hgone⟩
  · exact (claimsTakeNotice_refused (u := u) hgroup' hclaim hnone s hother
      (enterEntry_of_holders (by rwa [hear_list]) (by rwa [hear_list]))).2
  · obtain ⟨hlatch, hconflict⟩ := claimsTakeNotice_conflict (u := u) hgroup' hclaim hx hholds hholds' hxother hplace
    obtain ⟨hlatched, hconsent⟩ := finish_of_latch s hlatch
    exact ⟨hlatched, finish_get (k := .claimConflict) rfl s hconflict, hconsent⟩

end Sys2Proof.Machine
end

section
/-! PROOFS. The claim list's bound, its one entry a claimant and its key order (R106, R112), and the conflict latch with its
condition (R121), through every operation. -/

namespace Sys2Proof.Machine

open Sys2Proof.Safety

/-! ## Sound lists -/

/-- What an entry claims: its station and its kind, which give its key (R106). -/
def ClaimEntry.claim (e : ClaimEntry) : Nat × ClaimKind := (e.station, e.kind)

/-- A list within its bound, with one entry a claimant, in key order (R106, R112). -/
def ListSound (list : List ClaimEntry) : Prop :=
  list.length ≤ 4 ∧ list.Pairwise (fun a b => a.station ≠ b.station) ∧ list.Pairwise (fun a b => a.key ≤ b.key)

section
variable {l list : List ClaimEntry} {e : ClaimEntry}

theorem listSound_nil : ListSound [] := ⟨by simp, .nil, .nil⟩

/-- Entries that leave a list leave it sound. -/
theorem ListSound.sublist (h : ListSound list) (hl : l.Sublist list) : ListSound l := by
  obtain ⟨hbound, hstations, hkeys⟩ := h
  exact ⟨hl.length_le.trans hbound, hstations.sublist hl, hkeys.sublist hl⟩

/-- The bound, the claimants and the order are read from the claims alone. -/
theorem listSound_iff : ListSound list ↔ (list.map ClaimEntry.claim).length ≤ 4
    ∧ (list.map ClaimEntry.claim).Pairwise (fun a b => a.1 ≠ b.1)
    ∧ (list.map ClaimEntry.claim).Pairwise (fun a b => keyOf a.2 a.1 ≤ keyOf b.2 b.1) := by
  rw [List.length_map, List.pairwise_map, List.pairwise_map]
  rfl

/-- Entries marked or confirmed in their places leave a list sound. -/
theorem ListSound.of_claims (h : ListSound list) (hclaims : l.map ClaimEntry.claim = list.map ClaimEntry.claim) : ListSound l := by
  rw [listSound_iff] at h ⊢
  rwa [hclaims]

theorem insertEntry_stations (h : list.Pairwise fun a b => a.station ≠ b.station) (hnew : findEntry e.station list = none) :
    (insertEntry e list).Pairwise fun a b => a.station ≠ b.station := by
  have hother (x : ClaimEntry) (hx : x ∈ list) : x.station ≠ e.station := station_ne_of_findEntry_none hnew hx
  clear hnew
  induction list with
  | nil => exact List.pairwise_singleton _ e
  | cons f rest ih =>
    obtain ⟨hf, hrest⟩ := List.pairwise_cons.mp h
    unfold insertEntry
    split
    · exact List.pairwise_cons.mpr ⟨fun x hx => (hother x hx).symm, h⟩
    · refine List.pairwise_cons.mpr ⟨fun x hx => ?_, ih hrest fun x hx => hother x (List.mem_cons_of_mem f hx)⟩
      rcases mem_insertEntry hx with rfl | hx
      · exact hother f List.mem_cons_self
      · exact hf x hx

theorem insertEntry_keys (h : list.Pairwise fun a b => a.key ≤ b.key) : (insertEntry e list).Pairwise fun a b => a.key ≤ b.key := by
  induction list with
  | nil => exact List.pairwise_singleton _ e
  | cons f rest ih =>
    obtain ⟨hf, hrest⟩ := List.pairwise_cons.mp h
    unfold insertEntry
    split
    · next hbetter =>
      refine List.pairwise_cons.mpr ⟨fun x hx => ?_, h⟩
      rcases List.mem_cons.mp hx with rfl | hx
      · exact hbetter.le
      · exact hbetter.le.trans (hf x hx)
    · next hworse =>
      refine List.pairwise_cons.mpr ⟨fun x hx => ?_, ih hrest⟩
      rcases mem_insertEntry hx with rfl | hx
      · exact not_lt.mp hworse
      · exact hf x hx

/-- A claimant without entry is put into a list with room (R112). -/
theorem ListSound.insertEntry (h : ListSound list) (hroom : list.length < 4) (hnew : findEntry e.station list = none) :
    ListSound (insertEntry e list) := by
  obtain ⟨-, hstations, hkeys⟩ := h
  exact ⟨by rw [insertEntry_length]; omega, insertEntry_stations hstations hnew, insertEntry_keys hkeys⟩

theorem removeEntry_sublist (n : Nat) (list : List ClaimEntry) : (removeEntry n list).Sublist list := List.filter_sublist

/-- An entry that stands makes room as it leaves. -/
theorem removeEntry_length_lt (h : e ∈ list) : (removeEntry e.station list).length < list.length := by
  refine List.length_filter_lt_length_iff_exists.mpr ⟨e, h, by simp⟩

theorem worstClaiming_mem (h : worstClaiming list = some e) : e ∈ list := List.mem_reverse.mp (List.mem_of_find?_eq_some h)

/-- An entry takes the place of the claimant's former one (R110, R111). -/
theorem ListSound.confirmed (h : ListSound list) (e : ClaimEntry) (hplace : findEntry e.station list ≠ none) :
    ListSound (Machine.insertEntry e (removeEntry e.station list)) := by
  obtain ⟨former, hfound⟩ := Option.ne_none_iff_exists'.mp hplace
  have hstation : former.station = e.station := by simpa using List.find?_some hfound
  have hless := removeEntry_length_lt (List.mem_of_find?_eq_some hfound)
  rw [hstation] at hless
  refine (h.sublist (removeEntry_sublist _ _)).insertEntry ?_ (findEntry_removeEntry_self _ _)
  have hbound := h.1
  omega

/-- The own entry is made into room, or in place of the worst CLAIMING entry (R108). -/
theorem ListSound.enterOwn (h : ListSound list) (hnew : findEntry e.station list = none) : ListSound (enterOwn e list) := by
  unfold Machine.enterOwn
  split
  · next hroom => exact h.insertEntry hroom hnew
  · split
    · next w hworst =>
      have hless := removeEntry_length_lt (worstClaiming_mem hworst)
      have hbound := h.1
      exact (h.sublist (removeEntry_sublist _ _)).insertEntry (by omega) (findEntry_removeEntry_of_none _ hnew)
    · exact h

end

/-! ## What an operation keeps -/

/-- From `r` to `s` a sound claim list stays sound, and the conflict latch stays with CLAIM_CONFLICT. -/
def ClaimsKept (r s : State) : Prop := (ClaimListSound r → ClaimListSound s) ∧ (ConflictLatched r → ConflictLatched s)

/-- The claim list, the conflict latch and CLAIM_CONFLICT stay as they are. -/
def ClaimsSame (s t : State) : Prop :=
  t.claims.list = s.claims.list ∧ t.claims.latch = s.claims.latch
    ∧ t.monitor.active.claimConflict = s.monitor.active.claimConflict

section
variable {r s t : State}

theorem claimsKept_refl (s : State) : ClaimsKept s s := ⟨id, id⟩

/-- An operation that changes the list alone, and leaves it sound. -/
theorem ClaimsKept.listed (h : ClaimsKept r s) (hlist : ListSound s.claims.list → ListSound t.claims.list)
    (hlatch : t.claims.latch = s.claims.latch) (hconflict : t.monitor.active.claimConflict = s.monitor.active.claimConflict) :
    ClaimsKept r t := by
  obtain ⟨hsound, hlatched⟩ := h
  refine ⟨fun hr => hlist (hsound hr), fun hr => ?_⟩
  unfold ConflictLatched at *
  rw [hlatch, hconflict, hlatched hr]

theorem ClaimsKept.same (h : ClaimsKept r s) (k : ClaimsSame s t) : ClaimsKept r t := by
  obtain ⟨hlist, hlatch, hconflict⟩ := k
  exact h.listed (by rw [hlist]; exact id) hlatch hconflict

/-- A step taken only in some states, and otherwise nothing. -/
theorem ClaimsKept.ite {c : Prop} [Decidable c] (hs : ClaimsKept r s) (ht : ClaimsKept r t) : ClaimsKept r (if c then s else t) := by
  split
  · exact hs
  · exact ht

/-! ## The claim controller (chapter 7) -/

theorem ClaimsKept.dropEntry (h : ClaimsKept r s) (n : Nat) : ClaimsKept r (dropEntry n s) :=
  h.listed (fun hs => hs.sublist (removeEntry_sublist _ _)) rfl rfl

theorem ClaimsKept.endClaim (h : ClaimsKept r s) (c : OwnClaim) : ClaimsKept r (endClaim c s) := by
  refine h.listed (fun hs => ?_) (by simp) (by simp)
  simpa [Machine.endClaim] using hs.sublist (removeEntry_sublist _ _)

theorem ClaimsKept.yieldClaim (h : ClaimsKept r s) (result : ClaimResult) : ClaimsKept r (yieldClaim result s) := by
  unfold Machine.yieldClaim
  split
  · exact .ite h (h.endClaim _)
  · exact h

theorem ClaimsKept.releaseClaim (h : ClaimsKept r s) : ClaimsKept r (releaseClaim s) := by
  unfold Machine.releaseClaim
  split
  · exact .ite (h.endClaim _) h
  · exact h

/-- The own entry leaves with a claim that yields, or the list stays (R118). -/
theorem yieldClaim_list_sublist (result : ClaimResult) (s : State) : (yieldClaim result s).claims.list.Sublist s.claims.list := by
  unfold yieldClaim
  split
  · split
    · exact List.Sublist.refl _
    · simpa [endClaim] using removeEntry_sublist _ _
  · exact List.Sublist.refl _

/-- A claimant without entry is entered within the bound, if need be in the worst CLAIMING entry's place (R112). -/
theorem enterEntry_listSound {e : ClaimEntry} (h : ListSound s.claims.list) (hnew : findEntry e.station s.claims.list = none) :
    ListSound (enterEntry e s).claims.list := by
  unfold enterEntry
  split
  · next hroom => exact h.insertEntry hroom hnew
  · split
    · exact h
    · next w hworst =>
      have hleft : (if w.station = s.id.station then yieldClaim .yielded s else s).claims.list.Sublist s.claims.list := by
        split
        · exact yieldClaim_list_sublist _ s
        · exact List.Sublist.refl _
      generalize (if w.station = s.id.station then yieldClaim .yielded s else s) = u at hleft
      split
      · have hplace : (removeEntry w.station u.claims.list).Sublist (removeEntry w.station s.claims.list) := hleft.filter _
        have hless := removeEntry_length_lt (worstClaiming_mem hworst)
        have hbound := h.1
        have hroom := hplace.length_le
        have hgone := findEntry_removeEntry_of_none w.station hnew
        refine ((h.sublist (removeEntry_sublist _ _)).sublist hplace).insertEntry (by omega) ?_
        exact List.find?_eq_none.mpr fun x hx => List.find?_eq_none.mp hgone x (hplace.subset hx)
      · exact h

theorem ClaimsKept.enterEntry {e : ClaimEntry} (h : ClaimsKept r s) (hnew : findEntry e.station s.claims.list = none) :
    ClaimsKept r (enterEntry e s) :=
  h.listed (fun hs => enterEntry_listSound hs hnew) (by simp) (by simp)

theorem ClaimsKept.listClaimFrame (h : ClaimsKept r s) (n : Nat) (k : ClaimKind) : ClaimsKept r (listClaimFrame n k s) := by
  unfold Machine.listClaimFrame
  split
  · next hfound =>
    refine .ite h (h.listed (fun hs => ?_) rfl rfl)
    exact hs.confirmed (confirmedEntry s n k false) (by simp [confirmedEntry, hfound])
  · next hnone => exact h.enterEntry hnone

theorem ClaimsKept.listNotice (h : ClaimsKept r s) (n : Nat) (claim : Option AnnouncedClaim) : ClaimsKept r (listNotice n claim s) := by
  unfold Machine.listNotice
  split
  · exact h.dropEntry n
  · next a =>
    dsimp only
    split
    · next hfound =>
      exact h.listed (fun hs => hs.confirmed (confirmedEntry s n a.kind a.holding) (by simp [confirmedEntry, hfound])) rfl rfl
    · next hnone => exact h.enterEntry hnone

theorem ClaimsKept.makeClaim (h : ClaimsKept r s) (k : ClaimKind) (origin : ClaimOrigin) (owner : Option Nat) :
    ClaimsKept r (makeClaim k origin owner s) := by
  refine h.listed (fun hs => ?_) (by simp) (by simp)
  rw [makeClaim_list]
  exact (hs.sublist (removeEntry_sublist _ _)).enterOwn (findEntry_removeEntry_self s.id.station _)

theorem ClaimsKept.yieldIfMust (h : ClaimsKept r s) : ClaimsKept r (yieldIfMust s) := by
  unfold Machine.yieldIfMust
  split
  · exact h
  · exact .ite h (.ite (h.yieldClaim _) (.ite (h.yieldClaim _) h))

theorem ClaimsKept.abandonKind (h : ClaimsKept r s) (k : ClaimKind) : ClaimsKept r (abandonKind k s) := by
  unfold Machine.abandonKind
  split
  · exact .ite (h.yieldClaim _) h
  · exact h

theorem ClaimsKept.abandonOwned (h : ClaimsKept r s) (number : Nat) : ClaimsKept r (abandonOwned number s) := by
  unfold Machine.abandonOwned
  split
  · exact .ite (h.yieldClaim _) h
  · exact h

theorem ClaimsKept.abandonKey (h : ClaimsKept r s) : ClaimsKept r (abandonKey s) := by
  unfold Machine.abandonKey
  split
  · exact .ite (h.yieldClaim _) h
  · exact h

/-- A conflict sets the latch with its condition (R121). -/
theorem ClaimsKept.noteConflict (h : ClaimsKept r s) (n : Nat) : ClaimsKept r (noteConflict n s) := by
  obtain ⟨hsound, -⟩ := id h
  unfold Machine.noteConflict
  split
  · exact ⟨hsound, fun _ => rfl⟩
  · exact h

theorem held_claims (n : Nat) (list : List ClaimEntry) :
    (list.map fun e => if e.station = n then { e with holding := true } else e).map ClaimEntry.claim
      = list.map ClaimEntry.claim := by
  rw [List.map_map]
  refine List.map_congr_left fun e _ => ?_
  dsimp only [Function.comp_apply]
  split <;> rfl

/-- The claim that becomes HOLDING marks its entry in its place (R117). -/
theorem ClaimsKept.holdClaim (h : ClaimsKept r s) (c : OwnClaim) : ClaimsKept r (holdClaim c s) := by
  unfold Machine.holdClaim
  refine ClaimsKept.noteConflict (h.listed ?_ ?_ ?_) _
  · exact fun hs => hs.of_claims (held_claims s.id.station s.claims.list)
  · rfl
  · rfl

theorem ClaimsKept.commit (h : ClaimsKept r s) : ClaimsKept r (commit s) := by
  unfold Machine.commit
  split
  · exact h
  · refine .ite (h.yieldClaim _) ?_
    split <;> exact ClaimsKept.holdClaim (h.same (by simp [ClaimsSame])) _

theorem ClaimsKept.claimsTakeNotice (h : ClaimsKept r s) (n : Nat) (notice : Notice) :
    ClaimsKept r (claimsTakeNotice n notice s) := by
  have hheard : ClaimsKept r (hear n s) := h.same (by simp [ClaimsSame])
  exact .ite ((hheard.listNotice n notice.claim).noteConflict n) (h.dropEntry n)

theorem ClaimsKept.goStale (h : ClaimsKept r s) (n : Nat) : ClaimsKept r (goStale n s) := by
  have hstale : ClaimsKept r (setPeer n { s.peer n with state := .stale, staleTimer := none } s) := h.same (by simp [ClaimsSame])
  have hlost : ClaimsKept r (setCondition .peerLost true (setPeer n { s.peer n with state := .stale, staleTimer := none } s)) :=
    hstale.same ⟨rfl, rfl, rfl⟩
  exact .ite (hlost.dropEntry n) hstale

/-! ## The activity stack and the visits (chapters 3 and 9) -/

theorem ClaimsKept.setSettle (h : ClaimsKept r s) : ClaimsKept r (setSettle s) := h.same (by simp [ClaimsSame])

theorem ClaimsKept.endTest (h : ClaimsKept r s) (result : TestResult) : ClaimsKept r (endTest result s) := by
  unfold Machine.endTest
  split
  · exact h
  · exact (ClaimsKept.releaseClaim (h.same (by simp [ClaimsSame]))).setSettle

theorem ClaimsKept.forceDischarge (h : ClaimsKept r s) : ClaimsKept r (forceDischarge s) :=
  .ite h (.ite h (h.endTest .aborted))

theorem ClaimsKept.forceWithdrawal (h : ClaimsKept r s) (o : WithdrawalOrigin) : ClaimsKept r (forceWithdrawal o s) :=
  .ite h (.ite h (h.endTest .aborted))

theorem ClaimsKept.openVisit (h : ClaimsKept r s) (origin : VisitOrigin) (technician planned : Nat) :
    ClaimsKept r (openVisit origin technician planned s) := by
  have hended (u : State) (hu : ClaimsKept r u) :
      ClaimsKept r (Machine.abandonKind .test { u with cond := { u.cond with waiting := false } }) := by
    have hwaits : ClaimsKept r { u with cond := { u.cond with waiting := false } } := hu
    exact hwaits.abandonKind .test
  exact hended _ (ClaimsKept.endTest (h.same (by simp [ClaimsSame])) .aborted)

theorem ClaimsKept.reopenForKey (h : ClaimsKept r s) : ClaimsKept r (reopenForKey s) := by
  have hopened : ClaimsKept r (openKeyVisit s) := h.openVisit .key 0 _
  unfold Machine.reopenForKey
  split
  · exact h
  · exact hopened
  · exact hopened

theorem ClaimsKept.endVisit (h : ClaimsKept r s) (reason : CloseReason) : ClaimsKept r (endVisit reason s) := by
  unfold Machine.endVisit
  split
  · exact h
  · exact ClaimsKept.abandonOwned (h.same (by simp [ClaimsSame])) _

theorem ClaimsKept.closeVisit (h : ClaimsKept r s) (reason : CloseReason) : ClaimsKept r (closeVisit reason s) := by
  unfold Machine.closeVisit
  split
  · exact h
  · exact (h.endVisit reason).reopenForKey

theorem ClaimsKept.ownedRemoved (h : ClaimsKept r s) (owner : Nat) : ClaimsKept r (ownedRemoved owner s) := by
  unfold Machine.ownedRemoved
  split
  · exact h
  · exact .ite (h.closeVisit .key) h

theorem ClaimsKept.withdrawalHandedBack (h : ClaimsKept r s) (w : WithdrawalFrame) : ClaimsKept r (withdrawalHandedBack w s) := by
  have hoff : ClaimsKept r (takeOff Frame.isWithdrawal s) := h
  have hreleased : ClaimsKept r (if w.origin = .claimed then Machine.releaseClaim (takeOff Frame.isWithdrawal s)
      else takeOff Frame.isWithdrawal s) := .ite hoff.releaseClaim hoff
  unfold Machine.withdrawalHandedBack
  dsimp only
  split
  · exact hreleased.ownedRemoved _
  · exact hreleased

theorem ClaimsKept.popWithdrawal (h : ClaimsKept r s) : ClaimsKept r (popWithdrawal s) := by
  cases hw : s.withdrawal? with
  | none => simpa [Machine.popWithdrawal, hw] using h
  | some w =>
    rw [popWithdrawal_of_some hw]
    exact ClaimsKept.setSettle (.ite (h.withdrawalHandedBack w) (h.withdrawalHandedBack w))

/-! ## The breaker and the mains (chapter 8) -/

theorem uncommanded_claimsSame (s : State) : ClaimsSame s (uncommanded s) := by simp [ClaimsSame, uncommanded, Conditions.put]

theorem transferFault_claimsSame (s : State) : ClaimsSame s (transferFault s) := by simp [ClaimsSame, transferFault, Conditions.put]

theorem ClaimsKept.uncommandedClosure (h : ClaimsKept r s) : ClaimsKept r (uncommandedClosure s) :=
  (h.same (uncommanded_claimsSame s)).forceWithdrawal .manual

theorem ClaimsKept.timeOutTransfer (h : ClaimsKept r s) : ClaimsKept r (timeOutTransfer s) := by
  have hpopped : ClaimsKept r (Machine.popWithdrawal (askPulse .mbpo s)) := ClaimsKept.popWithdrawal (h.same (by simp [ClaimsSame]))
  exact hpopped.same (transferFault_claimsSame _)

theorem ClaimsKept.timeOutReturn (h : ClaimsKept r s) : ClaimsKept r (timeOutReturn s) := by
  have hstuck : ClaimsKept r (changeWithdrawal (fun w => { w with phase := .stuck, timer := none }) s) :=
    h.same (by simp [ClaimsSame])
  exact hstuck.same (transferFault_claimsSame _)

theorem ClaimsKept.becomeClosed (h : ClaimsKept r s) (last : Confirmed) : ClaimsKept r (becomeClosed last s) := by
  unfold Machine.becomeClosed
  split
  · split
    · exact h.same (by simp [ClaimsSame])
    · exact h
    · exact h
    · exact h
  · exact .ite h (.ite h.uncommandedClosure h)

theorem ClaimsKept.becomeOpen (h : ClaimsKept r s) : ClaimsKept r (becomeOpen s) := by
  have hended : ClaimsKept r { s with bypass := { s.bypass with recovery := none } } := h
  unfold Machine.becomeOpen
  dsimp only
  split
  · split
    · exact hended
    · exact .ite (hended.same (uncommanded_claimsSame _)).popWithdrawal hended
    · exact hended.popWithdrawal
    · exact hended.popWithdrawal
  · exact hended

theorem ClaimsKept.moveBreaker (h : ClaimsKept r s) (cl op : Bool) : ClaimsKept r (moveBreaker cl op s) := by
  have htaken : ClaimsKept r (takeContacts cl op s) := h
  unfold Machine.moveBreaker
  dsimp only
  split
  · exact htaken
  · split
    · exact ClaimsKept.becomeClosed (htaken.same (by simp [ClaimsSame])) _
    · exact ClaimsKept.becomeOpen (htaken.same (by simp [ClaimsSame]))
    · exact htaken
    · exact htaken
    · exact htaken

theorem ClaimsKept.adopt (h : ClaimsKept r s) : ClaimsKept r (adopt s) := .ite (h.forceWithdrawal _) h

theorem ClaimsKept.endRecovery (h : ClaimsKept r s) : ClaimsKept r (endRecovery s) := by
  have hended : ClaimsKept r { s with bypass := { s.bypass with recovery := none } } := h
  exact .ite hended.uncommandedClosure hended

theorem ClaimsKept.loseMains (h : ClaimsKept r s) : ClaimsKept r (loseMains s) :=
  ClaimsKept.forceDischarge (h.same (by simp [ClaimsSame]))

/-! ## The key (R144 to R147) -/

theorem ClaimsKept.openForKey (h : ClaimsKept r s) : ClaimsKept r (openForKey s) := by
  unfold Machine.openForKey
  split
  · exact h.openVisit _ _ _
  · exact .ite h h

theorem ClaimsKept.dropRequest (h : ClaimsKept r s) : ClaimsKept r (dropRequest s) :=
  ClaimsKept.abandonKey (h.same ⟨rfl, rfl, rfl⟩)

theorem ClaimsKept.askReturn (h : ClaimsKept r s) : ClaimsKept r (askReturn s) := h.same (by simp [ClaimsSame])

theorem ClaimsKept.pendClose (h : ClaimsKept r s) : ClaimsKept r (pendClose s) := by
  unfold Machine.pendClose
  split
  · exact h
  · have hpending : ClaimsKept r (changeVisit (fun u => { u with closePending := true }) s) := h
    exact .ite (.ite hpending (hpending.closeVisit .key)) h

theorem ClaimsKept.settleKey (h : ClaimsKept r s) : ClaimsKept r (settleKey s) := by
  unfold Machine.settleKey
  split
  · exact h
  · next new _ =>
    refine .ite h ?_
    have hmoved : ClaimsKept r { s with visits := { s.visits with stable := new } } := h
    generalize ({ s with visits := { s.visits with stable := new } } : State) = u at hmoved
    unfold keyEffects
    split
    · exact hmoved.openForKey
    · exact hmoved.openForKey
    · exact hmoved
    · exact hmoved.dropRequest.askReturn
    · exact hmoved.dropRequest.askReturn.pendClose
    · exact hmoved.askReturn.pendClose
    · exact hmoved
    · exact hmoved
    · exact hmoved

/-! ## The end of an event -/

theorem ClaimsKept.tryTest (h : ClaimsKept r s) : ClaimsKept r (tryTest s) := by
  have hdropped : ClaimsKept r (dropWaiting s) := h
  have htaken : ClaimsKept r (takeWaiting s) := .ite (.ite (hdropped.makeClaim _ _ _) hdropped) h
  exact .ite (htaken.makeClaim _ _ _) htaken

theorem ClaimsKept.tryEqualize (h : ClaimsKept r s) : ClaimsKept r (tryEqualize s) := h.same (by simp [ClaimsSame])

theorem ClaimsKept.startActivities (h : ClaimsKept r s) : ClaimsKept r (startActivities s) := by
  have hdrawn : ClaimsKept r { s with free := s.free + 1 } := h
  have hstarted := h.tryEqualize.tryTest
  exact .ite (.ite hdrawn.tryEqualize.tryTest hdrawn.tryTest.tryEqualize) (.ite (hstarted.makeClaim _ _ _) hstarted)

theorem ClaimsKept.conditionAborts (h : ClaimsKept r s) : ClaimsKept r (conditionAborts s) := by
  have htest : ClaimsKept r (if s.hasTest && testBarred s then Machine.endTest .aborted s else s) := .ite (h.endTest _) h
  exact .ite (htest.same (by simp [ClaimsSame])) htest

theorem ClaimsKept.refresh (h : ClaimsKept r s) : ClaimsKept r (refresh s) := h

theorem ClaimsKept.settle (h : ClaimsKept r s) : ClaimsKept r (settle s) := by
  have hyielded : ClaimsKept r (Machine.refresh (Machine.conditionAborts (Machine.yieldIfMust (Machine.refresh s)))) :=
    h.refresh.yieldIfMust.conditionAborts.refresh
  have haborted : ClaimsKept r (supportAbort (Machine.refresh (Machine.conditionAborts (Machine.yieldIfMust (Machine.refresh s))))) :=
    .ite (hyielded.endTest _) hyielded
  have hcommitted : ClaimsKept r (tryCommit (Machine.refresh (supportAbort (Machine.refresh (Machine.conditionAborts
      (Machine.yieldIfMust (Machine.refresh s))))))) := .ite haborted.refresh.commit haborted.refresh
  exact (ClaimsKept.startActivities (hcommitted.refresh.same (by simp [ClaimsSame]))).same ⟨rfl, rfl, rfl⟩

theorem ClaimsKept.finish (h : ClaimsKept r s) (before : State) : ClaimsKept r (finish before s) :=
  h.settle.same (by simp [ClaimsSame, Machine.finish])

/-! ## Measurement and conditioning (chapters 1 and 4) -/

theorem ClaimsKept.sampleTest (h : ClaimsKept r s) (bs : List BurstString) : ClaimsKept r (sampleTest bs s) := by
  unfold Machine.sampleTest
  split
  · exact h
  · next f _ =>
    have hcounted : ClaimsKept r (changeTest (countedStrings s.cfg bs f.strings) s) := h
    exact .ite (hcounted.endTest _) (.ite (hcounted.endTest _) hcounted)

theorem ClaimsKept.sampleTestAndHot (h : ClaimsKept r s) (bs : List BurstString) : ClaimsKept r (sampleTestAndHot bs s) := by
  have hdrawn : ClaimsKept r { s with free := s.free + 1 } := h
  exact .ite (ClaimsKept.endTest (.ite (hdrawn.sampleTest bs) hdrawn) .aborted) (h.sampleTest bs)

theorem ClaimsKept.sampleReceivers (h : ClaimsKept r s) (bs : List BurstString) : ClaimsKept r (sampleReceivers bs s) := by
  have haccounts (u : State) (hu : ClaimsKept r u) : ClaimsKept r (sampleAccounts bs u) := hu.same (by simp [ClaimsSame])
  have hstarted (u : State) (hu : ClaimsKept r u) : ClaimsKept r (startBeforeAccounts bs u) := hu.same (by simp [ClaimsSame])
  have hdrawn : ClaimsKept r { s with free := s.free + 1 } := h
  exact .ite (.ite (haccounts _ (hstarted _ (hdrawn.sampleTestAndHot bs))) ((haccounts _ hdrawn).sampleTestAndHot bs))
    ((haccounts _ (hstarted _ h)).sampleTestAndHot bs)

/-- A burst's own effect, before the event ends (R9). -/
theorem ClaimsKept.burst (h : ClaimsKept r s) (bs : List BurstString) :
    ClaimsKept r (Machine.sampleReceivers bs (commitBeforeSample bs (abortBeforeSample bs s))) := by
  have haborted : ClaimsKept r (abortBeforeSample bs s) := h.same (by simp [ClaimsSame])
  have hcommitted (u : State) (hu : ClaimsKept r u) : ClaimsKept r (commitBeforeSample bs u) := by
    have hdrawn : ClaimsKept r { u with free := u.free + 1 } := hu
    exact .ite (.ite hdrawn hdrawn.commit) hu
  exact (hcommitted _ haborted).sampleReceivers bs

theorem ClaimsKept.testSecond (h : ClaimsKept r s) : ClaimsKept r (testSecond s) := by
  have haged : ClaimsKept r (ageTest s) := h
  exact .ite (haged.endTest _) haged

/-- A second station with the own number: the claim yields, and DUPLICATE_ID is not CLAIM_CONFLICT (R84, R122). -/
theorem ClaimsKept.mute (h : ClaimsKept r s) : ClaimsKept r (mute s) := by
  have hmuted : ClaimsKept r (setCondition .duplicateId true
      { s with line := { s.line with state := .muted, tx := [], statusTimer := none } }) := h.same ⟨rfl, rfl, rfl⟩
  exact (hmuted.yieldClaim .abandoned).same ⟨rfl, rfl, rfl⟩

end

end Sys2Proof.Machine
end

section
/-! PROOFS. Every step keeps the claim list sound, the consent current and the conflict latch with its condition (R106, R112, R114, R115,
R121): the commands one by one. -/

namespace Sys2Proof.Machine

open Sys2Proof.Safety

section
variable {r s t : State}

/-! ## The consent (R114, R115) -/

/-- The consent reads no more of the state than the view. -/
theorem dueView_consentOf (s : State) : consentOf (dueView s) = consentOf s := by
  have hgives : givesConsent (dueView s) = givesConsent s := rfl
  have hholder : (dueView s).claims.list.find? ClaimEntry.holding = (s.claims.list.find? ClaimEntry.holding).map ClaimEntry.bare :=
    List.find?_map
  have hbest : (dueView s).claims.list.head? = s.claims.list.head?.map ClaimEntry.bare := List.head?_map
  unfold consentOf
  rw [hgives, hholder, hbest]
  cases s.claims.list.find? ClaimEntry.holding with
  | some e => rfl
  | none =>
    cases s.claims.list.head? with
    | some e =>
      simp only [Option.map_none, Option.map_some, dueView_supports]
      rfl
    | none => rfl

theorem consentOf_of_view (hview : dueView t = dueView s) : consentOf t = consentOf s := by
  rw [← dueView_consentOf, hview, dueView_consentOf]

/-- A station that is not ACTIVE gives no consent (R114). -/
theorem consentOf_of_inactive (h : s.line.state ≠ .active) : consentOf s = none := by simp [consentOf, givesConsent, h]

/-- The end of an event takes the consent anew (R115). -/
theorem finish_consentCurrent (before u : State) : ConsentCurrent (finish before u) := by
  have hfinish : consentOf (finish before u) = consentOf (settle u) := consentOf_of_view (by simp [finish, dueView])
  unfold ConsentCurrent
  rw [finish_claims, hfinish]
  unfold settle
  exact (consentOf_of_view rfl).symm

/-! ## What a command keeps -/

/-- From `s` to `t` a sound claim list, the conflict latch and a current consent are kept. -/
def ClaimsFollow (s t : State) : Prop := ClaimsKept s t ∧ (ConsentCurrent s → ConsentCurrent t)

theorem claimsFollow_refl (s : State) : ClaimsFollow s s := ⟨claimsKept_refl s, id⟩

/-- A step taken only in some states, and otherwise nothing. -/
theorem ClaimsFollow.ite {c : Prop} [Decidable c] {u : State} (ht : ClaimsFollow s t) (hu : ClaimsFollow s u) :
    ClaimsFollow s (if c then t else u) := by
  split
  · exact ht
  · exact hu

/-- A command that ends an event. -/
theorem ClaimsKept.follow (h : ClaimsKept s t) : ClaimsFollow s (Machine.finish s t) :=
  ⟨h.finish s, fun _ => finish_consentCurrent s t⟩

theorem claimsFollow_finish (h : ClaimsSame s t) : ClaimsFollow s (finish s t) := ((claimsKept_refl s).same h).follow

/-- A command that ends no event leaves what the claims' rules read. -/
theorem claimsFollow_of_view (hview : dueView t = dueView s) (hconsent : t.claims.consent = s.claims.consent) : ClaimsFollow s t := by
  have hlist : t.claims.list.map ClaimEntry.bare = s.claims.list.map ClaimEntry.bare := congrArg (fun v => v.claims.list) hview
  have hclaims : t.claims.list.map ClaimEntry.claim = s.claims.list.map ClaimEntry.claim := by
    have := congrArg (List.map ClaimEntry.claim) hlist
    rwa [List.map_map, List.map_map] at this
  refine ⟨(claimsKept_refl s).listed (fun hs => hs.of_claims hclaims) (congrArg (fun v => v.claims.latch) hview)
    (congrArg (fun v => v.monitor.active.claimConflict) hview), fun hcurrent => ?_⟩
  unfold ConsentCurrent at *
  rw [hconsent, consentOf_of_view hview, hcurrent]

/-- A station that is not ACTIVE gives no consent before such a command and none after it (R114). -/
theorem claimsFollow_of_inactive (hsame : ClaimsSame s t) (hconsent : t.claims.consent = s.claims.consent)
    (hs : s.line.state ≠ .active) (ht : t.line.state ≠ .active) : ClaimsFollow s t := by
  refine ⟨(claimsKept_refl s).same hsame, fun hcurrent => ?_⟩
  unfold ConsentCurrent at *
  rw [hconsent, hcurrent, consentOf_of_inactive hs, consentOf_of_inactive ht]

/-- An empty list, no conflict and no consent, at a station that is not ACTIVE (R175). -/
theorem claimsFollow_blank (hclaims : t.claims = Claims.start) (hconflict : t.monitor.active.claimConflict = false)
    (hstate : t.line.state ≠ .active) : ClaimsFollow s t := by
  refine ⟨⟨fun _ => ?_, fun _ => ?_⟩, fun _ => ?_⟩
  · unfold ClaimListSound
    rw [hclaims]
    exact listSound_nil
  · unfold ConflictLatched
    rw [hclaims, hconflict]
    rfl
  · unfold ConsentCurrent
    rw [hclaims, consentOf_of_inactive hstate]
    rfl

/-! ## Holding and starting the part (R175) -/

theorem markLost_claimConflict (lost : List PageId) (s : State) :
    (markLost lost s).monitor.active.claimConflict = s.monitor.active.claimConflict := by
  have hmarked : (lost.foldl (fun t p => markDirty p t) s).monitor = s.monitor :=
    foldl_inv (P := fun t => t.monitor = s.monitor) _ (fun t p ht => by simpa using ht) _ _ rfl
  unfold markLost
  dsimp only
  split
  · rw [hmarked]
  · simp [Conditions.put, hmarked]

theorem startPart_claimsFollow (st : Straps) (image : Option Image) (lost : List PageId) (s : State) :
    ClaimsFollow s (startPart st image lost s) := by
  have hrefused : ClaimsFollow s (configFault (readStraps st (clearBlocks s))) :=
    claimsFollow_blank rfl rfl nofun
  cases hstation : isStation st.id.toNat with
  | false => rwa [startPart_refused (.inl hstation)]
  | true =>
    cases image with
    | none => rwa [startPart_refused (.inr (by simp))]
    | some im =>
      cases hgood : imageGood im with
      | false => rwa [startPart_refused (.inr (by simpa using hgood))]
      | true =>
        have hmains : (configured st im s).bypass.mains = .present := rfl
        have hconfirmed : (configured st im s).bypass.confirmed = .unknown := rfl
        obtain ⟨-, -, -, -, -, -, hclaims, -⟩ := bringUp_keeps (lost := lost) hmains hconfirmed
        have hstart : (configured st im s).monitor.active.claimConflict = false := rfl
        rw [startPart_good hstation hgood]
        refine claimsFollow_blank hclaims ?_ ?_
        · simp [bringUp_joined hmains hconfirmed, followed, startTimers, reckonedPart, restoredPart, markLost_claimConflict,
            restoreStrings, restoreCabinet, hstart]
        · simp [bringUp_line hmains hconfirmed]

/-! ## Requests (R85, R86) -/

theorem request_claimsFollow (term : Nat) (code tag : Byte) (args : List Byte) {serve : State → Served}
    (hserve : ∀ u, ClaimsKept s u → ClaimsKept s (serve u).state) : ClaimsFollow s (request term code tag args serve s) := by
  have hcounted : ClaimsFollow s (countReceived s) := claimsFollow_of_view rfl rfl
  unfold request
  dsimp only
  refine .ite (claimsFollow_refl s) (.ite hcounted ?_)
  split
  · exact claimsFollow_of_view (by simp [dueView]) (by simp)
  · exact claimsFollow_of_view (by simp [dueView]) (by simp)
  · have hserved : ClaimsKept s (serve (countReceived s)).state := hserve _ ((claimsKept_refl s).same ⟨rfl, rfl, rfl⟩)
    exact ClaimsKept.follow (hserved.same (by simp [ClaimsSame]))

theorem ClaimsKept.withItem (h : ClaimsKept r s) (number : Nat) {f : Visit → Nat → Item → Served}
    (hf : ∀ v place it, ClaimsKept r (f v place it).state) : ClaimsKept r (withItem number s f).state := by
  unfold Machine.withItem
  split
  · exact h
  · split
    · exact h
    · split
      · exact h
      · split
        · exact h
        · exact hf _ _ _

theorem doneEffect_claimsSame (k : ItemKind) (target : Target) (s : State) : ClaimsSame s (doneEffect k target s) := by
  cases k <;> simp [ClaimsSame, doneEffect, Conditions.put]

theorem ClaimsKept.serveItemTake (h : ClaimsKept r s) (number : Nat) : ClaimsKept r (serveItemTake number s).state :=
  h.withItem number fun v place it => by
    split
    · exact h
    · split
      · exact h
      · exact h.same (by simp [ClaimsSame, answer])

theorem ClaimsKept.serveItemReturn (h : ClaimsKept r s) (number : Nat) : ClaimsKept r (serveItemReturn number s).state :=
  h.withItem number fun v place it => by
    split
    · exact h
    · exact h.same (by simp [ClaimsSame, answer])

theorem ClaimsKept.serveItemDone (h : ClaimsKept r s) (number : Nat) : ClaimsKept r (serveItemDone number s).state :=
  h.withItem number fun v place it => by
    split
    · exact h
    · split
      · exact h
      · have hremoved : ClaimsKept r (changeVisit (recordDone it) (removePlace place s)) := h.same (by simp [ClaimsSame])
        exact (hremoved.same (doneEffect_claimsSame it.kind it.target _)).same (by simp [ClaimsSame, answer])

theorem ClaimsKept.serveVisitOpen (h : ClaimsKept r s) (term technician planned : Nat) :
    ClaimsKept r (serveVisitOpen term technician planned s).state := by
  unfold Machine.serveVisitOpen
  dsimp only
  split
  · exact h
  · split
    · exact h
    · exact h.openVisit _ _ _

theorem ClaimsKept.serveVisitClose (h : ClaimsKept r s) (number : Nat) : ClaimsKept r (serveVisitClose number s).state := by
  have hclosed : ClaimsKept r (closeByTerminal s) := (h.endVisit .terminal).startActivities.reopenForKey
  unfold Machine.serveVisitClose
  split
  · exact h
  · split
    · exact h
    · split
      · exact h
      · split
        · exact h
        · split
          · exact h
          · exact hclosed

theorem ClaimsKept.serveWithdraw (h : ClaimsKept r s) (n : Nat) : ClaimsKept r (serveWithdraw n s).state := by
  unfold Machine.serveWithdraw
  split
  · exact h
  · split
    · exact h
    · split
      · split
        · exact h.same (by simp [ClaimsSame, answer])
        · exact h
      · split
        · exact h
        · split
          · exact h
          · split
            · exact h
            · exact h.makeClaim _ _ _

theorem ClaimsKept.serveReturn (h : ClaimsKept r s) : ClaimsKept r (serveReturn s).state := by
  unfold Machine.serveReturn
  split
  · exact h
  · exact h.askReturn

theorem ClaimsKept.serveTestNow (h : ClaimsKept r s) : ClaimsKept r (serveTestNow s).state := by
  unfold Machine.serveTestNow
  split
  · exact h
  · split
    · exact h
    · exact h.makeClaim _ _ _

theorem ClaimsKept.serveStop (h : ClaimsKept r s) : ClaimsKept r (serveStop s).state := by
  unfold Machine.serveStop
  split
  · exact ClaimsKept.same (ClaimsKept.endTest (h.same (by simp [ClaimsSame])) .aborted) ⟨rfl, rfl, rfl⟩
  · exact h

/-- A CLEAR that names CLAIM_CONFLICT clears the latch with it (R121, R167). -/
theorem ClaimsKept.serveClear (h : ClaimsKept r s) (named : Nat) : ClaimsKept r (serveClear named s).state := by
  obtain ⟨hsound, hlatched⟩ := h
  rw [serveClear_state]
  refine ⟨hsound, fun hr => ?_⟩
  have hconflict : s.monitor.active.claimConflict = s.claims.latch := hlatched hr
  unfold ConflictLatched afterClear clearedConditions
  simp only [hconflict]
  cases s.claims.latch <;> simp

theorem ClaimsKept.serveForget (h : ClaimsKept r s) (n : Nat) : ClaimsKept r (serveForget n s).state := by
  unfold Machine.serveForget
  (repeat' split) <;> exact h.same (by simp [ClaimsSame, answer])

theorem ClaimsKept.serveRestart (h : ClaimsKept r s) : ClaimsKept r (serveRestart s).state := by
  unfold Machine.serveRestart
  (repeat' split) <;> exact h.same (by simp [ClaimsSame, answer])

/-! ## The commands -/

theorem requestRead_consent (term : Nat) (tag : Byte) (args : List Byte) (s : State) :
    (requestRead term tag args s).claims.consent = s.claims.consent := by
  unfold requestRead
  dsimp only
  (repeat' split) <;> simp

theorem inactive_of_idle (h : s.running = false) : s.line.state ≠ .active := by
  intro hactive
  simp [State.running, hactive] at h

theorem abandonFrame_view (place : Nat) (f : TxFrame) (s : State) : dueView (abandonFrame place f s) = dueView s := by
  refine (handOwedClaim_view _).trans ?_
  unfold oweClaim
  split
  · cases hown : s.claims.own <;> simp [dueView, hown, OwnClaim.bare]
  · rfl

/-- The state that a command answers follows `s`. -/
def NextClaimsFollow (s : State) (o : Host.Outcome State Fault Refusal) : Prop := ∀ t, o = .next t → ClaimsFollow s t

theorem nextClaimsFollow_next (h : ClaimsFollow s t) : NextClaimsFollow s (.next t) := by
  rintro _ ⟨⟩
  exact h

theorem exec_claimsFollow (c : Instr) (s : State) : NextClaimsFollow s (exec c s) := by
  have hstays : ClaimsFollow s s := claimsFollow_refl s
  have hkept : ClaimsKept s s := claimsKept_refl s
  have hcounted : ClaimsFollow s (countReceived s) := claimsFollow_of_view rfl rfl
  have hrequest (term : Nat) (code tag : Byte) (args : List Byte) {serve : State → Served}
      (hserve : ∀ u, ClaimsKept s u → ClaimsKept s (serve u).state) :
      NextClaimsFollow s (.next (request term code tag args serve s)) :=
    nextClaimsFollow_next (request_claimsFollow term code tag args hserve)
  cases c with
  | resetNAsserted => exact nextClaimsFollow_next (claimsFollow_blank rfl rfl nofun)
  | powerLoss => exact nextClaimsFollow_next (claimsFollow_blank rfl rfl nofun)
  | start st image lost => exact nextClaimsFollow_next (startPart_claimsFollow st image lost s)
  | restartStart st image lost => exact nextClaimsFollow_next (.ite (startPart_claimsFollow st image lost s) hstays)
  | measurementBurst bytes extra early =>
    refine nextClaimsFollow_next (.ite hstays ?_)
    split
    · exact claimsFollow_of_view rfl rfl
    · exact claimsFollow_of_view rfl rfl
    · next load bs _ =>
      have htaken : ClaimsKept s { s with intake := takeBurst load bs s.intake } := hkept
      exact (htaken.burst bs).follow
  | intakeSecondTimerExpiry => exact nextClaimsFollow_next (.ite hstays (claimsFollow_finish (by simp [ClaimsSame])))
  | wearSecondTimerExpiry => exact nextClaimsFollow_next (.ite hstays (claimsFollow_finish (by simp [ClaimsSame])))
  | equalizeMinuteTimerExpiry =>
    refine nextClaimsFollow_next ?_
    split
    · exact claimsFollow_finish (by simp [ClaimsSame])
    · exact hstays
  | testSecondTimerExpiry =>
    have hagain : ClaimsKept s { s with cond := { s.cond with testSecond := seconds 1 } } := hkept
    exact nextClaimsFollow_next (.ite hstays hagain.testSecond.follow)
  | frameStart => exact nextClaimsFollow_next (claimsFollow_of_view (by simp [dueView]) (by simp))
  | arbitrationLoss =>
    refine nextClaimsFollow_next ?_
    split
    · exact hstays
    · exact claimsFollow_of_view (handOwedClaim_view _) (by simp)
  | frameAbandoned =>
    refine nextClaimsFollow_next ?_
    split
    · exact hstays
    · split
      · exact hstays
      · exact claimsFollow_of_view (abandonFrame_view _ _ s) (by simp)
  | frameSent =>
    refine nextClaimsFollow_next ?_
    split
    · exact hstays
    · split
      · exact hstays
      · exact claimsFollow_finish (by simp [ClaimsSame])
  | lineSynchronised => exact nextClaimsFollow_next (.ite (claimsFollow_of_view rfl rfl) hstays)
  | frameRejected frame =>
    refine nextClaimsFollow_next (.ite hstays ?_)
    split
    · exact hstays
    · next failure _ =>
      exact .ite (claimsFollow_of_view (countFailure_view failure s) (by simp))
        (claimsFollow_of_view (countFailure_view failure s) (by simp))
  | statusReceived source payload =>
    refine nextClaimsFollow_next (.ite hstays ?_)
    split
    · exact hstays
    · next n _ =>
      have hrefreshed : ClaimsKept s (setPeer source (refreshedPeer n) (countReceived s)) := hkept.same (by simp [ClaimsSame])
      exact (hrefreshed.claimsTakeNotice source n).follow
  | duplicateNumberHeard =>
    have hheard : ClaimsKept s (countReceived s) := hkept
    exact nextClaimsFollow_next (.ite hstays (.ite hheard.mute.follow hcounted))
  | claimReceived source kind =>
    have hheard : ClaimsKept s (countReceived s) := hkept
    exact nextClaimsFollow_next (.ite hstays (.ite hcounted (hheard.listClaimFrame source kind).follow))
  | releaseReceived source kind =>
    have hheard : ClaimsKept s (countReceived s) := hkept
    exact nextClaimsFollow_next (.ite hstays (.ite hcounted (hheard.dropEntry source).follow))
  | mainsReceived source kind => exact nextClaimsFollow_next (.ite hstays (.ite hcounted (claimsFollow_of_view rfl rfl)))
  | resultRecordReceived => exact nextClaimsFollow_next (.ite hcounted hstays)
  | statusTimerExpiry => exact nextClaimsFollow_next (.ite hstays (claimsFollow_of_view (by simp [dueView]) (by simp)))
  | joiningTimerExpiry =>
    have hjoined : ClaimsKept s { s with line := { s.line with joiningTimer := none, state := s.line.state.joinedState } } := hkept
    exact nextClaimsFollow_next (.ite hstays hjoined.adopt.follow)
  | staleTimerExpiry station => exact nextClaimsFollow_next (.ite (hkept.goStale station).follow hstays)
  | claimWindowTimerExpiry => exact nextClaimsFollow_next (.ite hstays (hkept.yieldClaim .noConsent).follow)
  | spacingTimerExpiry => exact nextClaimsFollow_next (.ite hstays (claimsFollow_finish ⟨rfl, rfl, rfl⟩))
  | confirmationTimerExpiry station => exact nextClaimsFollow_next (.ite (hkept.dropEntry station).follow hstays)
  | mainsOkChange level =>
    exact nextClaimsFollow_next (.ite hstays (.ite (claimsFollow_of_view (by simp [dueView]) (by simp)) (claimsFollow_of_view rfl rfl)))
  | mainsLossTimerExpiry => exact nextClaimsFollow_next (.ite hstays hkept.loseMains.follow)
  | mainsQualificationTimerExpiry => exact nextClaimsFollow_next (.ite hstays (claimsFollow_finish (by simp [ClaimsSame])))
  | breakerContactChange cl op =>
    have hshown : ClaimsKept s { s with pins := { s.pins with mbpCl := cl, mbpOp := op } } := hkept
    exact nextClaimsFollow_next (.ite hstays (.ite (hshown.moveBreaker cl op).follow (claimsFollow_of_view rfl rfl)))
  | disagreeTimerExpiry => exact nextClaimsFollow_next (.ite hstays (claimsFollow_of_view rfl rfl))
  | pulseEnd => exact nextClaimsFollow_next (claimsFollow_of_view (by simp [dueView]) (by simp))
  | transferTimeout => exact nextClaimsFollow_next (.ite hkept.timeOutTransfer.follow hstays)
  | returnTimeout => exact nextClaimsFollow_next (.ite hkept.timeOutReturn.follow hstays)
  | recoveryWaitExpiry => exact nextClaimsFollow_next (.ite hstays hkept.endRecovery.follow)
  | bypLoadChange level =>
    refine nextClaimsFollow_next (.ite hstays ?_)
    dsimp only
    split
    · refine claimsFollow_finish ?_
      split <;> simp [ClaimsSame]
    · next hidle =>
      have hinactive : s.line.state ≠ .active := inactive_of_idle (by simpa using hidle)
      exact claimsFollow_of_inactive ⟨rfl, rfl, rfl⟩ rfl hinactive hinactive
  | keyInputChange keyS keyW =>
    exact nextClaimsFollow_next (.ite hstays (.ite (claimsFollow_of_view rfl rfl) (claimsFollow_of_view rfl rfl)))
  | keySettleTimerExpiry =>
    have hended : ClaimsKept s { s with visits := { s.visits with settleTimer := none } } := hkept
    exact nextClaimsFollow_next (.ite hstays hended.settleKey.follow)
  | overdueTimerExpiry => exact nextClaimsFollow_next (.ite hstays (claimsFollow_finish ⟨rfl, rfl, rfl⟩))
  | hourTimerExpiry => exact nextClaimsFollow_next (.ite hstays (claimsFollow_finish (by simp [ClaimsSame])))
  | memoryWriteDone => exact nextClaimsFollow_next (.ite hstays (claimsFollow_of_view (by simp [dueView]) (by simp)))
  | memoryWriteFail =>
    exact nextClaimsFollow_next (.ite hstays (claimsFollow_finish (by simp [ClaimsSame, reportFailure, Conditions.put])))
  | visitOpen term tag args => exact hrequest _ _ _ _ fun _ hu => hu.serveVisitOpen _ _ _
  | visitClose term tag args => exact hrequest _ _ _ _ fun _ hu => hu.serveVisitClose _
  | itemTake term tag args => exact hrequest _ _ _ _ fun _ hu => hu.serveItemTake _
  | itemDone term tag args => exact hrequest _ _ _ _ fun _ hu => hu.serveItemDone _
  | itemReturn term tag args => exact hrequest _ _ _ _ fun _ hu => hu.serveItemReturn _
  | withdraw term tag args => exact hrequest _ _ _ _ fun _ hu => hu.serveWithdraw _
  | returnRequest term tag args => exact hrequest _ _ _ _ fun _ hu => hu.serveReturn
  | testNow term tag args => exact hrequest _ _ _ _ fun _ hu => hu.serveTestNow
  | equalizeNow term tag args => exact hrequest _ _ _ _ fun _ hu => hu.same (by simp [ClaimsSame, serveEqualizeNow, answer])
  | stop term tag args => exact hrequest _ _ _ _ fun _ hu => hu.serveStop
  | clear term tag args => exact hrequest _ _ _ _ fun _ hu => hu.serveClear _
  | forget term tag args => exact hrequest _ _ _ _ fun _ hu => hu.serveForget _
  | read term tag args =>
    exact nextClaimsFollow_next (claimsFollow_of_view (requestRead_view term tag args s) (requestRead_consent term tag args s))
  | restart term tag args => exact hrequest _ _ _ _ fun _ hu => hu.serveRestart
  | unknownRequestCode term code tag args =>
    exact nextClaimsFollow_next (.ite hstays (request_claimsFollow _ _ _ _ fun _ hu => hu))

/-! ## Steps -/

theorem tick_consent (s : State) : (tick s).claims.consent = s.claims.consent := by
  unfold tick
  split <;> rfl

/-- A step is a tick or a command, and either keeps what the claims' rules ask. -/
theorem step_claimsFollow (h : step s = .next t) : ClaimsFollow s t := by
  unfold step at h
  split at h
  · cases h
    exact claimsFollow_of_view (tick_view s) (tick_consent s)
  · next c rest _ => exact exec_claimsFollow c { s with pending := rest } t h

end

/-- Settles O7: every operation that changes the claim list leaves it within its bound, with one entry a claimant and in key order. -/
theorem stepKeepsClaimListSound : Obligations.StepKeepsClaimListSound := by
  intro s t h hstep
  obtain ⟨⟨hlist, -⟩, -⟩ := step_claimsFollow hstep
  exact hlist h

/-- Settles O8: an event's end takes the consent anew, a command that ends no event leaves what it reads, and the conflict latch is set
and cleared with CLAIM_CONFLICT. -/
theorem stepKeepsConsentCurrent : Obligations.StepKeepsConsentCurrent := by
  intro s t hcurrent hlatched hstep
  obtain ⟨⟨-, hlatch⟩, hconsent⟩ := step_claimsFollow hstep
  exact ⟨hconsent hcurrent, hlatch hlatched⟩

end Sys2Proof.Machine
end

section
/-! PROOFS. The keys of claims (R106), the conditions of commit (R116) and the consent that is given (R114). -/

namespace Sys2Proof.Machine

open Sys2Proof.Safety

/-! ## Keys (R106) -/

theorem isStation_iff {n : Nat} : isStation n = true ↔ 1 ≤ n ∧ n ≤ 24 := by simp [isStation]

theorem keyOf_withdraw (n : Nat) : keyOf .withdraw n = n := rfl

theorem keyOf_test (n : Nat) : keyOf .test n = 32 + n := rfl

/-- Settles O41: the key of each kind, and the ranges of the two that lie apart. -/
theorem keysRankClaims : Obligations.KeysRankClaims := by
  intro m n hm hn
  rw [isStation_iff] at hm hn
  obtain ⟨hmlow, hmhigh⟩ := hm
  obtain ⟨hnlow, hnhigh⟩ := hn
  refine ⟨?_, ?_, ?_, ?_, ?_, ?_, ?_, fun k hless => ?_, fun k l hkeys => ?_⟩
  · rw [keyOf_withdraw]; omega
  · rw [keyOf_test]
  · rwa [keyOf_withdraw]
  · rwa [keyOf_withdraw]
  · rw [keyOf_test]; omega
  · rw [keyOf_test]; omega
  · rw [keyOf_withdraw, keyOf_test]; omega
  · cases k with
    | withdraw => exact hless
    | test => exact Nat.add_lt_add_left hless 32
  · cases k with
    | withdraw =>
      cases l with
      | withdraw => exact ⟨rfl, hkeys⟩
      | test => rw [keyOf_withdraw, keyOf_test] at hkeys; omega
    | test =>
      cases l with
      | withdraw => rw [keyOf_withdraw, keyOf_test] at hkeys; omega
      | test => exact ⟨rfl, Nat.add_left_cancel hkeys⟩

/-! ## The conditions of commit (R116) -/

section
variable {s : State} {list : List ClaimEntry} {e : ClaimEntry}

/-- A member that is LIVE has been heard and names the own station (R116). -/
theorem namesUs_iff {c : OwnClaim} {n : Nat} {p : Peer} :
    namesUs s c (n, p) = true ↔ (p.state = .live → n ∈ c.heard ∧ p.notice.consent = s.id.station) := by
  unfold namesUs
  by_cases hlive : p.state = .live <;> simp [hlive]

theorem commitReady_iff : commitReady s = true ↔ ∃ c, s.claims.own = some c ∧ c.holding = false ∧ c.announced = true
    ∧ s.claims.window.isSome = true ∧ supports c.kind s s.id.station = true
    ∧ ∀ n p, (n, p) ∈ memberPeers s → p.state = .live → n ∈ c.heard ∧ p.notice.consent = s.id.station := by
  unfold commitReady
  split
  · next hnone => simp [hnone]
  · next c hown =>
    simp only [hown, Bool.and_eq_true, Bool.not_eq_true', List.all_eq_true, Prod.forall, namesUs_iff, Option.some.injEq,
      exists_eq_left']
    tauto

/-- With no LIVE member beside the own cabinet nothing remains of the online set without it (R95, 6.4). -/
theorem remainingSet_of_lone (h : ∀ e ∈ memberPeers s, e.2.state ≠ .live) : remainingSet s s.id.station = [] := by
  refine List.filter_eq_nil_iff.mpr fun m hm => ?_
  obtain ⟨hmember, honline⟩ := List.mem_filter.mp hm
  rcases List.mem_cons.mp hmember with rfl | hpeer
  · simp [ownMember]
  · obtain ⟨e, he, rfl⟩ := List.mem_map.mp hpeer
    simp [Member.online, peerMember, h e he] at honline

theorem commitReady_of_lone (h : ∀ e ∈ memberPeers s, e.2.state ≠ .live) : commitReady s = false := by
  refine Bool.eq_false_iff.mpr fun hready => ?_
  obtain ⟨c, -, -, -, -, hsupports, -⟩ := commitReady_iff.mp hready
  obtain ⟨hremains, -⟩ := supports_iff.mp hsupports
  exact hremains (remainingSet_of_lone h)

/-! ## The consent (R114) -/

theorem givesConsent_iff : givesConsent s = true ↔ s.line.state = .active ∧ s.claims.latch = false
    ∧ s.monitor.active.mainsLost = false ∧ s.monitor.active.onBypass = false ∧ s.monitor.active.claimConflict = false := by
  simp [givesConsent, Conditions.inhibitsConsent, and_assoc]

theorem consentOf_of_withheld (h : givesConsent s = false) : consentOf s = none := by simp [consentOf, h]

theorem consentOf_of_empty (h : s.claims.list = []) : consentOf s = none := by simp [consentOf, h]

/-- The HOLDING entry with the better key is found first in key order. -/
theorem find_holding_of_best (hkeys : list.Pairwise fun a b => a.key ≤ b.key) (he : e ∈ list) (hholds : e.holding = true)
    (hbest : ∀ x ∈ list, x.holding = true → x ≠ e → e.key < x.key) : list.find? ClaimEntry.holding = some e := by
  cases hfound : list.find? ClaimEntry.holding with
  | none => exact absurd hholds (List.find?_eq_none.mp hfound e he)
  | some f =>
    obtain ⟨hf, before, after, rfl, hbefore⟩ := List.find?_eq_some_iff_append.mp hfound
    by_contra hne
    have hother : f ≠ e := fun hsame => hne (congrArg some hsame)
    have hless := hbest f (by simp) hf hother
    have hlater : e ∈ after := by
      rcases List.mem_append.mp he with hearly | hlate
      · simpa [hholds] using hbefore e hearly
      · exact (List.mem_cons.mp hlate).resolve_left hother.symm
    have hsorted : f.key ≤ e.key := List.rel_of_pairwise_cons (List.pairwise_append.mp hkeys).2.1 hlater
    omega

/-- The best entry stands at the head of the list. -/
theorem head_of_best (hkeys : list.Pairwise fun a b => a.key ≤ b.key) (he : e ∈ list)
    (hbest : ∀ x ∈ list, x ≠ e → e.key < x.key) : list.head? = some e := by
  cases list with
  | nil => cases he
  | cons f rest =>
    rw [List.head?_cons]
    by_contra hne
    have hother : f ≠ e := fun hsame => hne (congrArg some hsame)
    have hless := hbest f List.mem_cons_self hother
    have hsorted : f.key ≤ e.key := List.rel_of_pairwise_cons hkeys ((List.mem_cons.mp he).resolve_left hother.symm)
    omega

theorem consentOf_of_holder (hgives : givesConsent s = true) (hfound : s.claims.list.find? ClaimEntry.holding = some e) :
    consentOf s = some e.station := by simp [consentOf, hgives, hfound]

theorem consentOf_of_claimants (hgives : givesConsent s = true) (hclaiming : ∀ x ∈ s.claims.list, x.holding = false)
    (hhead : s.claims.list.head? = some e) : consentOf s = if supports e.kind s e.station = true then some e.station else none := by
  have hnone : s.claims.list.find? ClaimEntry.holding = none := List.find?_eq_none.mpr fun x hx => by simp [hclaiming x hx]
  simp [consentOf, hgives, hnone, hhead]

end

/-- Settles O44: the conditions of commit one by one, the set that remains at a lone station, and the consent by the list's first HOLDING
entry or its head. -/
theorem commitConditions : Obligations.CommitConditions := by
  refine ⟨fun s => commitReady_iff, fun s => commitReady_of_lone, fun s hsound => ?_⟩
  obtain ⟨-, -, hkeys⟩ := hsound
  refine ⟨fun hheld => consentOf_of_withheld ?_, fun _ hempty => consentOf_of_empty hempty, fun e he hgives => ?_⟩
  · exact Bool.eq_false_iff.mpr fun hgives => hheld (givesConsent_iff.mp hgives)
  · rw [← givesConsent_iff] at hgives
    exact ⟨fun hholds hbest => consentOf_of_holder hgives (find_holding_of_best hkeys he hholds hbest),
      fun hclaiming hbest => consentOf_of_claimants hgives hclaiming (head_of_best hkeys he hbest)⟩

end Sys2Proof.Machine
end

section
/-! PROOFS. The window of a CLAIMING claim and the spacing run out (R118, R120). -/

namespace Sys2Proof.Machine

open Sys2Proof.Safety

section
variable {s u : State} {f : TxFrame} {c : OwnClaim}

/-! ## A frame that is no STATUS, at a station without a claim -/

theorem outdateNotices_mem {tx : List TxFrame} (hf : f ∈ tx) (hclass : f.cls ≠ .status) : f ∈ outdateNotices tx :=
  List.mem_map.mpr ⟨f, hf, if_neg hclass⟩

theorem outdateClaims_mem {tx : List TxFrame} (hf : f ∈ tx) (hclass : f.cls ≠ .claim) : f ∈ outdateClaims tx :=
  List.mem_map.mpr ⟨f, hf, if_neg hclass⟩

theorem setSettle_mem (hf : f ∈ s.line.tx) (hclass : f.cls ≠ .status) : f ∈ (setSettle s).line.tx := by
  unfold setSettle
  split
  · exact hf
  · exact outdateNotices_mem hf hclass

theorem abortEqualize_mem (hf : f ∈ s.line.tx) (hclass : f.cls ≠ .status) : f ∈ (abortEqualize s).line.tx := by
  unfold abortEqualize
  split
  · exact hf
  · dsimp only
    split <;> exact setSettle_mem (by simpa using hf) hclass

theorem releaseClaim_of_noClaim (hown : s.claims.own = none) : releaseClaim s = s := by simp [releaseClaim, hown]

/-- Without a claim to release, the end of a test hands no frame over. -/
theorem endTest_mem (hown : s.claims.own = none) (result : TestResult) (hf : f ∈ s.line.tx) (hclass : f.cls ≠ .status) :
    f ∈ (endTest result s).line.tx := by
  unfold endTest
  split
  · exact hf
  · refine setSettle_mem ?_ hclass
    rw [releaseClaim_of_noClaim (by simpa using hown)]
    simpa using hf

theorem conditionAborts_mem (hown : s.claims.own = none) (hf : f ∈ s.line.tx) (hclass : f.cls ≠ .status) :
    f ∈ (conditionAborts s).line.tx := by
  have hended : f ∈ (if s.hasTest && testBarred s then endTest .aborted s else s).line.tx := by
    split
    · exact endTest_mem hown .aborted hf hclass
    · exact hf
  unfold conditionAborts
  dsimp only
  generalize (if s.hasTest && testBarred s then endTest .aborted s else s) = t at hended ⊢
  split
  · exact abortEqualize_mem hended hclass
  · exact hended

theorem supportAbort_mem (hown : s.claims.own = none) (hf : f ∈ s.line.tx) (hclass : f.cls ≠ .status) :
    f ∈ (supportAbort s).line.tx := by
  unfold supportAbort
  split
  · exact endTest_mem hown .aborted hf hclass
  · exact hf

/-- Without an own claim, and with its spacing running, only the aborts of an event's end touch the line controller. -/
theorem settle_line_of_spacing (hown : u.claims.own = none) (hspacing : u.claims.spacing.isSome = true) :
    (settle u).line = (supportAbort (refresh (conditionAborts (refresh u)))).line := by
  have hyielded : yieldIfMust (refresh u) = refresh u := yieldIfMust_of_not (mustYield_of_notClaiming (claiming_of_noClaim hown))
  have haborted : (refresh (conditionAborts (refresh u))).claims = u.claims :=
    conditionAborts_claims_of_noClaim (s := refresh u) hown
  have hended : (supportAbort (refresh (conditionAborts (refresh u)))).claims = u.claims :=
    (supportAbort_claims_of_noClaim (haborted ▸ hown)).trans haborted
  unfold settle
  dsimp only
  rw [hyielded]
  generalize supportAbort (refresh (conditionAborts (refresh u))) = w at hended ⊢
  have hcommits : tryCommit (refresh w) = refresh w :=
    tryCommit_of_not (commitReady_of_notClaiming (claiming_of_noClaim (hended ▸ hown)))
  have hgiven : (giveOwner (refresh (refresh w))).claims = u.claims := by simpa using hended
  have hbusy : claimsIdle (giveOwner (refresh (refresh w))) = false := by
    simpa [claimsIdle, hended] using fun _ => hspacing
  rw [hcommits, handOwedClaim_of_notClaiming (claiming_of_noClaim (hgiven ▸ hown)), retakeConsent, (startActivities_of_busy hbusy).2]
  simp

/-- The end of such an event leaves a frame that is no STATUS in the queue. -/
theorem finish_mem_of_spacing (before : State) (hown : u.claims.own = none) (hspacing : u.claims.spacing.isSome = true)
    (hf : f ∈ u.line.tx) (hclass : f.cls ≠ .status) : f ∈ (finish before u).line.tx := by
  refine finish_mem_of_settle before ?_ hclass
  rw [settle_line_of_spacing hown hspacing]
  refine supportAbort_mem ?_ (conditionAborts_mem (s := refresh u) hown hf hclass) hclass
  exact (conditionAborts_claims_of_noClaim (s := refresh u) hown).symm ▸ hown

/-! ## The window and the spacing (R118, R120) -/

/-- The station whose CLAIMING claim has ended for want of consent, with its spacing started (R118, R120). -/
def windowEnded (c : OwnClaim) (s : State) : State :=
  { s with claims := { s.claims with
      own := none
      window := none
      list := s.claims.list.filter fun e => e.station != s.id.station
      spacing := some 50
      last := .noConsent
      lastKind := some c.kind } }

section
variable (hown : s.claims.own = some c) (hclaims : c.holding = false)
include hown hclaims

theorem yieldClaim_noConsent_claims : (yieldClaim .noConsent s).claims = (windowEnded c s).claims := by
  simp [yieldClaim, hown, hclaims, endClaim, windowEnded, removeEntry, seconds]

/-- The RELEASE finds room in the queue and displaces nothing (R80). -/
theorem yieldClaim_noConsent_besideQueues (hroom : s.line.tx.length < 6) :
    BesideQueues (windowEnded c s) (yieldClaim .noConsent s) := by
  have hrelease : handFrame (newFrame .release 31 (kindPayload c.kind)) s = { s with line := { s.line with
      tx := (handFrame (newFrame .release 31 (kindPayload c.kind)) s).line.tx } } := by
    cases hsends : s.sending with
    | false => rw [handFrame_of_silent hsends]
    | true => rw [handFrame_of_room hsends hroom (by simp [newFrame])]
  have hended : yieldClaim .noConsent s = { endClaim c s with
      claims := { (endClaim c s).claims with last := .noConsent, lastKind := some c.kind } } := by
    simp [yieldClaim, hown, hclaims]
  rw [hended]
  unfold endClaim
  rw [hrelease]
  rfl

theorem yieldClaim_noConsent_mem (hroom : s.line.tx.length < 6) (hsends : s.sending = true) :
    newFrame .release 31 (kindPayload c.kind) ∈ (yieldClaim .noConsent s).line.tx := by
  simp only [yieldClaim, hown, hclaims, Bool.false_eq_true, if_false]
  exact outdateClaims_mem (handFrame_mem hsends hroom nofun) nofun

end

theorem exec_claimWindowTimerExpiry (hwindow : s.claims.window.isSome = true) :
    exec .claimWindowTimerExpiry s = .next (finish s (yieldClaim .noConsent s)) := by
  change Host.Outcome.next _ = _
  rw [if_neg (by simpa [Option.isSome_iff_ne_none] using hwindow)]

theorem exec_spacingTimerExpiry (hspacing : s.claims.spacing.isSome = true) :
    exec .spacingTimerExpiry s = .next (finish s { s with claims := { s.claims with spacing := none } }) := by
  change Host.Outcome.next _ = _
  rw [if_neg (by simpa [Option.isSome_iff_ne_none] using hspacing)]

end

/-- Settles O43: the claim yields with NO_CONSENT, and at a station without a claim and in its spacing the event's end leaves both the
claims and the RELEASE as they are. -/
theorem claimWindowAndSpacing : Obligations.ClaimWindowAndSpacing := by
  refine ⟨fun s c hown hclaims hwindow hroom => ?_, fun s hspacing => ⟨_, exec_spacingTimerExpiry hspacing, finish_after s _⟩⟩
  have hyielded := yieldClaim_noConsent_claims hown hclaims
  have hended : (yieldClaim .noConsent s).claims.own = none := by rw [hyielded]; rfl
  have hspacing : (yieldClaim .noConsent s).claims.spacing = some 50 := by rw [hyielded]; rfl
  refine ⟨_, exec_claimWindowTimerExpiry hwindow,
    After.of_besideQueues (yieldClaim_noConsent_besideQueues hown hclaims hroom) (finish_after s _), ?_, ?_, ?_, fun hsends => ?_⟩
  · rw [finish_claims_of_spacing s hended hspacing]
    exact hended
  · rw [finish_claims_of_spacing s hended hspacing]
    exact hspacing
  · rw [finish_claims_of_spacing s hended hspacing, hyielded]
    rfl
  · have hrelease := finish_mem_of_spacing s hended (by simp [hspacing]) (yieldClaim_noConsent_mem hown hclaims hroom hsends) nofun
    cases hkind : c.kind with
    | withdraw => rwa [hkind] at hrelease
    | test => rwa [hkind] at hrelease

end Sys2Proof.Machine
end

section
/-! PROOFS. The open visit through the end of an event (R53, R117, R143, R146), and an end of an event at which no test is claimed. -/

namespace Sys2Proof.Machine

open Sys2Proof.Safety

section
variable {s t u : State} {v : Visit}

/-! ## The open visit -/

/-- From `s` to `t` the open visit, if there is one, differs in nothing but its withdrawal-used flag. -/
def SameVisit (s t : State) : Prop :=
  ∃ used : Visit → Bool, t.visits.current = s.visits.current.map fun v => { v with used := used v }

theorem sameVisit_of_eq (h : t.visits.current = s.visits.current) : SameVisit s t :=
  ⟨Visit.used, by rw [h]; exact Option.map_id'.symm⟩

theorem SameVisit.trans (h : SameVisit s t) (k : SameVisit t u) : SameVisit s u := by
  obtain ⟨f, hf⟩ := h
  obtain ⟨g, hg⟩ := k
  exact ⟨fun v => g { v with used := f v }, by rw [hg, hf, Option.map_map]; rfl⟩

theorem SameVisit.none (h : SameVisit s t) (hs : s.visits.current = none) : t.visits.current = none := by
  obtain ⟨f, hf⟩ := h
  rw [hf, hs]
  rfl

theorem SameVisit.some (h : SameVisit s t) (hs : s.visits.current = some v) :
    ∃ used, t.visits.current = some { v with used := used } := by
  obtain ⟨f, hf⟩ := h
  exact ⟨f v, by rw [hf, hs]; rfl⟩

theorem SameVisit.overdue (h : SameVisit s t) : t.visits.current.map Visit.overdue = s.visits.current.map Visit.overdue := by
  obtain ⟨f, hf⟩ := h
  rw [hf, Option.map_map]
  rfl

theorem pushClaimed_sameVisit (owner : Option Nat) (s : State) : SameVisit s (pushClaimed owner s) := by
  unfold pushClaimed
  dsimp only
  split
  · exact sameVisit_of_eq (by simp)
  · next n =>
    refine ⟨fun v => if v.number = n then true else v.used, ?_⟩
    rw [changeVisit_current]
    simp only [askPulse_keeps, pushFrame_keeps]
    congr 1
    funext v
    split <;> rfl

/-- A commit may use the open visit's withdrawal, and changes nothing else of it (R117, R154). -/
theorem tryCommit_sameVisit (s : State) : SameVisit s (tryCommit s) := by
  unfold tryCommit commit
  split
  · split
    · exact sameVisit_of_eq rfl
    · split
      · exact sameVisit_of_eq (by simp)
      · split
        · exact sameVisit_of_eq (by simp)
        · next c _ _ _ _ => exact (pushClaimed_sameVisit c.owner s).trans (sameVisit_of_eq (by simp))
  · exact sameVisit_of_eq rfl

theorem giveOwner_sameVisit (s : State) : SameVisit s (giveOwner s) := by
  unfold giveOwner assignWithdrawal
  split
  · split
    · exact sameVisit_of_eq rfl
    · exact ⟨fun _ => true, by simp⟩
  · exact sameVisit_of_eq rfl

/-- Up to the conditions that the end of an event leaves, it changes no more of the open visit. -/
theorem committed_sameVisit (u : State) :
    SameVisit u (tryCommit (refresh (supportAbort (refresh (conditionAborts (yieldIfMust (refresh u))))))) := by
  have haborted : SameVisit u (refresh (supportAbort (refresh (conditionAborts (yieldIfMust (refresh u)))))) :=
    sameVisit_of_eq (by simp)
  exact haborted.trans (tryCommit_sameVisit _)

theorem finish_sameVisit (before u : State) : SameVisit u (finish before u) := by
  have hgiven : SameVisit u (giveOwner (refresh (tryCommit (refresh (supportAbort (refresh (conditionAborts
      (yieldIfMust (refresh u))))))))) :=
    ((committed_sameVisit u).trans (sameVisit_of_eq (by simp))).trans (giveOwner_sameVisit _)
  exact hgiven.trans (sameVisit_of_eq (by simp [finish, settle]))

/-- At the end of an event VISIT_OVERDUE is as the open visit's mark has it (R143, R163). -/
theorem finish_visitOverdue (before u : State) :
    (finish before u).monitor.active.visitOverdue = (u.visits.current.map Visit.overdue).getD false := by
  have hactive : (finish before u).monitor.active
      = followed (tryCommit (refresh (supportAbort (refresh (conditionAborts (yieldIfMust (refresh u))))))) := by
    simp [finish, settle]
  rw [hactive, ← (committed_sameVisit u).overdue]
  rfl

/-! ## No test and none to come -/

/-- No TEST frame stands, and no CLAIMING claim could bring one. -/
def NoTestAhead (s : State) : Prop := s.hasTest = false ∧ ∀ c, s.claims.own = some c → c.kind = .test → c.holding = true

theorem NoTestAhead.aborted (h : NoTestAhead s) (k : Aborted s t) : NoTestAhead t := by
  obtain ⟨htest, hclaim⟩ := h
  refine ⟨k.noTest htest, fun c hc => ?_⟩
  obtain ⟨-, -, -, -, -, -, -, -, -, -, -, hnone | hsame, -⟩ := k
  · simp [hnone] at hc
  · exact hclaim c (hsame ▸ hc)

theorem NoTestAhead.refreshed (h : NoTestAhead s) : NoTestAhead (refresh s) := h

theorem yieldClaim_aborted (r : ClaimResult) (s : State) : Aborted s (yieldClaim r s) := by
  have hframes : (yieldClaim r s).stack.frames = s.stack.frames := by simp
  refine ⟨by simp, by simp, by simp, by simp, by simp, by simp, by simp, by simp, framesLeft_of_eq hframes,
    State.hasWithdrawal_congr hframes, State.hasDischarge_congr hframes, ?_, (yieldClaim_list_sublist r s).subset⟩
  cases hclaiming : s.claiming with
  | true => exact .inl (yieldClaim_of_claiming hclaiming r).1
  | false => exact .inr (by rw [yieldClaim_of_notClaiming hclaiming])

theorem yieldIfMust_aborted (s : State) : Aborted s (yieldIfMust s) := by
  unfold yieldIfMust
  split
  · exact aborted_refl s
  · split
    · exact aborted_refl s
    · split
      · exact yieldClaim_aborted _ s
      · split
        · exact yieldClaim_aborted _ s
        · exact aborted_refl s

theorem NoTestAhead.tryCommit (h : NoTestAhead s) : (tryCommit s).hasTest = false := by
  obtain ⟨htest, hclaim⟩ := h
  unfold Machine.tryCommit
  split
  · next hready =>
    cases hown : s.claims.own with
    | none => simp [commitReady, hown] at hready
    | some c =>
      rcases (testAlone_of_noTest htest).commit_cases hown with hyields | ⟨hkind, -, -⟩ | ⟨-, -, hwithdraws, -⟩
      · rw [hyields]
        exact (yieldClaim_aborted .abandoned s).noTest htest
      · simp [commitReady, hown, hclaim c hown hkind] at hready
      · exact hwithdraws
  · exact htest

/-- Where no claim could bring a TEST frame, the end of an event brings none. -/
theorem NoTestAhead.finish (h : NoTestAhead u) (before : State) : (finish before u).hasTest = false := by
  refine finish_noTest_of_settle before (settle_noTest_of_committed (NoTestAhead.tryCommit ?_))
  have hyielded := h.refreshed.aborted (yieldIfMust_aborted _)
  exact ((hyielded.aborted (conditionAborts_aborted _)).refreshed.aborted (supportAbort_aborted _)).refreshed

/-- The end of an event makes no test wait (R61). -/
theorem finish_waiting (before : State) (h : u.cond.waiting = false) : (finish before u).cond.waiting = false := by
  rw [finish_cond]
  exact startActivities_waiting (by simpa using h)

end

end Sys2Proof.Machine
end

section
/-! PROOFS. A visit opens (R141, R142, R145), and a visit closes (R147, R152, R153). -/

namespace Sys2Proof.Machine

open Sys2Proof.Safety

section
variable {s t u : State} {v : Visit} {origin : VisitOrigin} {technician planned : Nat}

/-! ## A visit opens (R142) -/

/-- A visit as it opens (R142). -/
def newVisit (origin : VisitOrigin) (technician planned : Nat) (s : State) : Visit :=
  { number := nextNumber s.visits.counter
    technician := technician
    origin := origin
    opened := s.now
    planned := planned
    overdue := false
    done := []
    doneCount := 0
    used := false
    closePending := false
    closing := none }

/-- The part with the number that its next visit takes and the overdue timer of that visit. -/
def visitCounted (planned : Nat) (s : State) : State :=
  { s with visits := { s.visits with
      counter := nextNumber s.visits.counter, overdueTimer := some (10 * ((planned + 15) * 60)) } }

theorem openVisit_visits (origin : VisitOrigin) (technician planned : Nat) (s : State) :
    (openVisit origin technician planned s).visits =
      { (visitCounted planned s).visits with current := some (newVisit origin technician planned s) } := by
  simp [openVisit, visitCounted, newVisit, seconds]

theorem openVisit_aftermath (origin : VisitOrigin) (technician planned : Nat) (s : State) :
    Aftermath (visitCounted planned s) (openVisit origin technician planned s) := by
  rw [aftermath_iff, openVisit_visits]
  simp [visitCounted]

theorem openVisit_noTest (origin : VisitOrigin) (technician planned : Nat) (s : State) :
    (openVisit origin technician planned s).hasTest = false := by
  simp [State.hasTest, openVisit_frames]

theorem openVisit_waiting (origin : VisitOrigin) (technician planned : Nat) (s : State) :
    (openVisit origin technician planned s).cond.waiting = false := by
  simp [openVisit]

theorem abandonKind_of_kind {k : OwnClaim} (hown : s.claims.own = some k) : abandonKind k.kind s = yieldClaim .abandoned s := by
  simp [abandonKind, hown]

/-- A claim of the kind that stands after its abandonment is HOLDING (R118). -/
theorem abandonKind_holding {k : ClaimKind} {c : OwnClaim} (h : (abandonKind k s).claims.own = some c) (hkind : c.kind = k) :
    c.holding = true := by
  unfold abandonKind at h
  split at h
  · split at h
    · have hclaiming := yieldClaim_claiming .abandoned s
      simpa [State.claiming, h] using hclaiming
    · next d hown hother =>
      rw [hown, Option.some.injEq] at h
      exact absurd (h ▸ hkind) hother
  · next hnone => simp [hnone] at h

theorem openVisit_noTestAhead (origin : VisitOrigin) (technician planned : Nat) (s : State) :
    NoTestAhead (openVisit origin technician planned s) :=
  ⟨openVisit_noTest origin technician planned s, fun _ hc hkind => abandonKind_holding hc hkind⟩

/-- The end of a test releases no claim that is not HOLDING (R119). -/
theorem endTest_claims_of_claiming {k : OwnClaim} (hown : s.claims.own = some k) (hclaiming : k.holding = false) (r : TestResult) :
    (endTest r s).claims = s.claims := by
  obtain ⟨u, hclaims, -, hends⟩ := endTest_claims r s
  rcases hends with hsame | hends
  · rw [hsame]
  · have hkept : releaseClaim u = u := by simp [releaseClaim, hclaims, hown, hclaiming]
    rw [hends, hkept, hclaims]

/-- A visit that opens ends a CLAIMING claim for a test (R118, R142). -/
theorem openVisit_abandons {k : OwnClaim} (hown : s.claims.own = some k) (hkind : k.kind = .test) (hclaiming : k.holding = false) :
    (openVisit origin technician planned s).claims.own = none
      ∧ (openVisit origin technician planned s).claims.last = .abandoned
      ∧ (openVisit origin technician planned s).claims.spacing = some 50 := by
  unfold openVisit
  dsimp only
  generalize hmarked : markDirty .cabinet _ = m
  have hclaims : m.claims = s.claims := by simp [← hmarked]
  have hended : (endTest .aborted m).claims = s.claims :=
    (endTest_claims_of_claiming (hclaims ▸ hown) hclaiming .aborted).trans hclaims
  generalize hidle : ({ endTest .aborted m with cond := _ } : State) = w
  have hw : w.claims.own = some k := by rw [← hidle]; exact hended ▸ hown
  have hstands : w.claiming = true := by simp [State.claiming, hw, hclaiming]
  rw [← hkind, abandonKind_of_kind hw]
  obtain ⟨hnone, hlast, hspacing, -⟩ := yieldClaim_of_claiming hstands .abandoned
  exact ⟨hnone, hlast, hspacing⟩

/-! ## The items that a closing visit returns (R153 step 1) -/

/-- No item of the queue is TAKEN by the visit with a number. -/
def ReturnedBy (number : Nat) (s : State) : Prop := ∀ it ∈ s.queue.items, it.taken ≠ some number

theorem changePlace_items (place : Nat) (f : Item → Item) (s : State) :
    (changePlace place f s).queue.items = s.queue.items.modify place f := by
  simp [changePlace]

/-- One step of the return: place `i` comes back OPEN if the visit had taken its item. -/
theorem returnItem_getElem (number : Nat) (items : List Item) (i j : Nat) (t : State) :
    (if (items[i]?.bind Item.taken) = some number then changePlace i untake t else t).queue.items[j]?
      = (t.queue.items[j]?).map fun it => if i = j ∧ (items[i]?.bind Item.taken) = some number then untake it else it := by
  split
  · next h =>
    rw [changePlace_items, List.getElem?_modify]
    simp only [h, and_true]
    rfl
  · next h => simp [h]

/-- After the first `n` places, those among them that the visit had taken are OPEN, and every item else is as it was. -/
theorem returnItems_getElem (number : Nat) (s : State) (n j : Nat) :
    ((List.range n).foldl (fun t i => if (s.queue.items[i]?.bind Item.taken) = some number then changePlace i untake t else t)
        s).queue.items[j]?
      = (s.queue.items[j]?).map fun it => if j < n ∧ it.taken = some number then untake it else it := by
  induction n with
  | zero => simp
  | succ n ih =>
    rw [List.range_succ, List.foldl_append, List.foldl_cons, List.foldl_nil, returnItem_getElem, ih, Option.map_map]
    refine Option.map_congr fun it hit => ?_
    rcases Nat.lt_trichotomy j n with hlt | rfl | hgt
    · simp [show n ≠ j by omega, show j < n + 1 by omega, hlt]
    · simp [hit]
    · simp [show n ≠ j by omega, show ¬j < n by omega, show ¬j < n + 1 by omega]

theorem returnItems_returnedBy (number : Nat) (s : State) : ReturnedBy number (returnItems number s) := by
  intro it hit htaken
  obtain ⟨j, hj⟩ := List.mem_iff_getElem?.mp hit
  rw [returnItems, returnItems_getElem, Option.map_eq_some_iff] at hj
  obtain ⟨old, hold, hnew⟩ := hj
  have hplace : j < s.queue.items.length := (List.getElem?_eq_some_iff.mp hold).1
  subst hnew
  by_cases hheld : old.taken = some number
  · simp [hplace, hheld, untake] at htaken
  · simp [hheld] at htaken

/-! ## A visit closes (R153) -/

/-- The record of a visit that closes. -/
def closedVisit (reason : CloseReason) (v : Visit) (s : State) : Visit :=
  { v with closing := some { time := s.now, reason := reason } }

/-- The part with its open visit moved to the history (R153). -/
def visitMoved (reason : CloseReason) (v : Visit) (s : State) : State :=
  { s with visits := { s.visits with
      current := none
      history := (closedVisit reason v s :: s.visits.history).take 8
      overdueTimer := none
      requestHeld := false } }

theorem endVisit_visits {reason : CloseReason} (hv : s.visits.current = some v) :
    (endVisit reason s).visits = (visitMoved reason v s).visits := by
  simp [endVisit, hv, visitMoved, closedVisit]

theorem endVisit_queue {reason : CloseReason} (hv : s.visits.current = some v) :
    (endVisit reason s).queue = (returnItems v.number s).queue := by
  simp [endVisit, hv]

theorem endVisit_returnedBy {reason : CloseReason} (hv : s.visits.current = some v) :
    ReturnedBy v.number (endVisit reason s) := by
  unfold ReturnedBy
  rw [endVisit_queue hv]
  exact returnItems_returnedBy v.number s

theorem endVisit_aftermath {reason : CloseReason} (hv : s.visits.current = some v) :
    Aftermath (visitMoved reason v s) (endVisit reason s) := by
  rw [aftermath_iff, endVisit_visits hv]
  simp [visitMoved]

theorem abandonOwned_of_noClaim (hown : s.claims.own = none) (number : Nat) : abandonOwned number s = s := by
  simp [abandonOwned, hown]

theorem endVisit_cond (reason : CloseReason) (s : State) : (endVisit reason s).cond = s.cond := by
  unfold endVisit
  split <;> simp

/-- Without a claim, a closing visit ends none. -/
theorem endVisit_claims_of_noClaim (hown : s.claims.own = none) (reason : CloseReason) :
    (endVisit reason s).claims = s.claims := by
  unfold endVisit
  split
  · rfl
  · dsimp only
    rw [abandonOwned_of_noClaim (by simpa using hown)]
    simp

theorem endVisit_quiet {reason : CloseReason} (hv : s.visits.current = some v) (h : Quiet s) : Quiet (endVisit reason s) := by
  obtain ⟨hown, htest, hlatch, htestLatch, hwaiting, -, hcool⟩ := h
  have hframes : (endVisit reason s).stack.frames = s.stack.frames := by rw [endVisit_stack]
  refine ⟨by rw [endVisit_claims_of_noClaim hown, hown], (State.hasTest_congr hframes).trans htest, by rwa [endVisit_cond],
    by rwa [endVisit_cond], by rwa [endVisit_cond], by rw [endVisit_visits hv]; rfl, fun hequalize => ?_⟩
  rw [State.hasEqualize_congr hframes] at hequalize
  simpa using hcool hequalize

/-- The RECORD frame of a visit that closes (R153 step 5). -/
def closingRecord (reason : CloseReason) (v : Visit) (s : State) : TxFrame :=
  newFrame .record 31 (recordPayload 4 0 0 (historyPart0 (closedVisit reason v s)))

/-- Without a claim, a queue with room takes the RECORD frame. -/
theorem endVisit_mem {reason : CloseReason} (hv : s.visits.current = some v) (hown : s.claims.own = none)
    (hsends : s.sending = true) (hroom : s.line.tx.length < 6) :
    closingRecord reason v s ∈ (endVisit reason s).line.tx := by
  unfold endVisit
  rw [hv]
  dsimp only
  rw [abandonOwned_of_noClaim (by simpa using hown)]
  refine handFrame_mem ?_ (by simpa using hroom) (by simp [newFrame])
  rw [State.sending_congr (s := s) (by simp)]
  exact hsends

theorem reopenForKey_of_normal (h : s.visits.stable = .normal) : reopenForKey s = s := by
  simp [reopenForKey, h]

end

end Sys2Proof.Machine
end

section
/-! PROOFS. VISIT_OPEN (R141, R142) and VISIT_CLOSE (R152, R153). -/

namespace Sys2Proof.Machine

open Sys2Proof.Safety

section
variable {s t u w : State} {v : Visit} {term : Nat} {code tag : Byte} {args : List Byte} {serve : State → Served}

/-- A served request whose owner keeps to `Aftermath` leaves no more than that, the request counted and its RESULT stored. -/
theorem request_aftermath {r : Byte} {data : List Byte} (heffect : Aftermath (countReceived u) w)
    (hbeside : BesideQueues (storeAnswer term (requestPayload code tag args) (code :: tag :: r :: data) w) t) (before : State) :
    Aftermath (answered term code tag args r data u) (finish before t) := by
  rw [answered_eq]
  exact Aftermath.trans (Aftermath.trans (storeAnswer_aftermath term _ _ heffect) hbeside.aftermath) (finish_aftermath before t)

/-! ## VISIT_OPEN (R141) -/

section
variable {a b c d : Byte}

theorem arg16_first (a b c d : Byte) : arg16 [a, b, c, d] 0 = 256 * a.toNat + b.toNat := by
  simp [arg16, natOf, Nat.mul_comm]

theorem arg16_second (a b c d : Byte) : arg16 [a, b, c, d] 1 = 256 * c.toNat + d.toNat := by
  simp [arg16, natOf, Nat.mul_comm]

/-- VISIT_OPEN at the station. -/
def visitOpenAsked (term : Nat) (tag a b c d : Byte) (s : State) : State :=
  request term 1#8 tag [a, b, c, d] (serveVisitOpen term (256 * a.toNat + b.toNat) (256 * c.toNat + d.toNat)) s

theorem exec_visitOpen : exec (.visitOpen term tag [a, b, c, d]) s = .next (visitOpenAsked term tag a b c d s) := by
  rw [visitOpenAsked, ← arg16_first a b c d, ← arg16_second a b c d]
  rfl

theorem visitOpen_bad (hservable : Servable term 1#8 tag [a, b, c, d] s)
    (hplanned : 256 * c.toNat + d.toNat < 1 ∨ 480 < 256 * c.toNat + d.toNat) :
    Refused term 1#8 tag [a, b, c, d] 9#8 s (visitOpenAsked term tag a b c d s) :=
  request_refused (c := .bad) hservable rfl (by simp) (if_pos hplanned) rfl

variable (hleast : 1 ≤ 256 * c.toNat + d.toNat) (hmost : 256 * c.toNat + d.toNat ≤ 480)
include hleast hmost

theorem visitOpen_busy (hservable : Servable term 1#8 tag [a, b, c, d] s) (hvisit : s.visits.current.isSome = true) :
    Refused term 1#8 tag [a, b, c, d] 2#8 s (visitOpenAsked term tag a b c d s) := by
  refine request_refused (c := .busy) hservable rfl (by simp) ?_ rfl
  exact (if_neg (by omega)).trans (if_pos hvisit)

/-- The visit opens, and its RESULT gives its number. -/
theorem visitOpen_ends (hservable : Servable term 1#8 tag [a, b, c, d] s) (hvisit : s.visits.current = none) :
    ∃ u, visitOpenAsked term tag a b c d s = finish s u
      ∧ BesideQueues (storeAnswer term (requestPayload 1#8 tag [a, b, c, d])
          (1#8 :: tag :: 0#8 :: [BitVec.ofNat 8 (nextNumber s.visits.counter / 256), BitVec.ofNat 8 (nextNumber s.visits.counter)])
          (openVisit (.terminal term) (256 * a.toNat + b.toNat) (256 * c.toNat + d.toNat) (countReceived s))) u := by
  have hserve : serveVisitOpen term (256 * a.toNat + b.toNat) (256 * c.toNat + d.toNat) (countReceived s) =
      let t := openVisit (.terminal term) (256 * a.toNat + b.toNat) (256 * c.toNat + d.toNat) (countReceived s)
      { state := t, code := .done, data := bytesOf 2 t.visits.counter, awaited := false } := by
    refine (if_neg (by omega)).trans (if_neg ?_)
    change ¬s.visits.current.isSome = true
    simp [hvisit]
  refine request_ends hservable rfl (by simp) (by rw [hserve]; rfl) ?_ (by rw [hserve])
  rw [hserve]
  simp only [openVisit_visits]
  simp [visitCounted, bytesOf, List.range_succ]

/-- What VISIT_OPEN leaves: the visit, no test and none to come, and no CLAIMING claim for one (R142). -/
theorem visitOpen_opens (hservable : Servable term 1#8 tag [a, b, c, d] s) (hvisit : s.visits.current = none) :
    let t := visitOpenAsked term tag a b c d s
    Aftermath (answered term 1#8 tag [a, b, c, d] 0#8
        [BitVec.ofNat 8 (nextNumber s.visits.counter / 256), BitVec.ofNat 8 (nextNumber s.visits.counter)]
        (visitCounted (256 * c.toNat + d.toNat) s)) t
      ∧ t.hasTest = false ∧ t.cond.waiting = false
      ∧ (∀ k, s.claims.own = some k → k.kind = .test → k.holding = false → t.claims.own = none ∧ t.claims.last = .abandoned)
      ∧ ∃ used, t.visits.current
          = some { newVisit (.terminal term) (256 * a.toNat + b.toNat) (256 * c.toNat + d.toNat) s with used := used } := by
  obtain ⟨u, hends, hbeside⟩ := visitOpen_ends (a := a) (b := b) hleast hmost hservable hvisit
  obtain ⟨-, -, -, hstack, hcond⟩ := hbeside.keeps
  obtain ⟨-, -, -, -, hclaims, -, hvisits, -, -, -⟩ := hbeside.rest
  intro t
  have ht : t = finish s u := hends
  have hahead : NoTestAhead u := by
    obtain ⟨htest, hclaim⟩ := openVisit_noTestAhead (.terminal term) (256 * a.toNat + b.toNat) (256 * c.toNat + d.toNat)
      (countReceived s)
    exact ⟨(State.hasTest_congr (congrArg Stack.frames hstack)).trans htest, fun k hk => hclaim k (hclaims ▸ hk)⟩
  rw [ht]
  refine ⟨?_, hahead.finish s, finish_waiting s ?_, fun k hown hkind hclaiming => ?_, (finish_sameVisit s u).some ?_⟩
  · exact request_aftermath (u := visitCounted (256 * c.toNat + d.toNat) s) (openVisit_aftermath _ _ _ (countReceived s)) hbeside s
  · rw [hcond]
    exact openVisit_waiting _ _ _ (countReceived s)
  · obtain ⟨hnone, hlast, hspacing⟩ := openVisit_abandons (s := countReceived s) (origin := .terminal term)
      (technician := 256 * a.toNat + b.toNat) (planned := 256 * c.toNat + d.toNat) hown hkind hclaiming
    rw [finish_claims_of_spacing s (by rw [hclaims]; exact hnone) (by rw [hclaims]; exact hspacing), hclaims]
    exact ⟨hnone, hlast⟩
  · rw [hvisits]
    exact congrArg Visits.current (openVisit_visits _ _ _ (countReceived s))

end

/-! ## What a VISIT_CLOSE leaves before the end of its event (R153) -/

/-- The visit closes, and what may start with no visit open starts (R153, assumption 10). -/
def visitClosed (s : State) : State := startActivities (endVisit .terminal s)

theorem startActivities_aftermath (s : State) : Aftermath s (startActivities s) := by
  rw [aftermath_iff]
  simp

theorem tryTest_of_idle (hlatch : s.cond.testLatch = false) (hwaiting : s.cond.waiting = false) : tryTest s = s := by
  have htaken : takeWaiting s = s := if_neg (by simp [hwaiting])
  unfold tryTest
  dsimp only
  rw [htaken, if_neg (by simp [testClaimReady, hlatch])]

/-- With nothing latched and no test waiting, only a request of the key can start anything (R57, R60, R61, R146). -/
theorem startActivities_of_idle (hlatch : s.cond.latch = none) (htest : s.cond.testLatch = false)
    (hwaiting : s.cond.waiting = false) : startActivities s = tryKey s := by
  have hequalize : equalizeReady s = false := by simp [equalizeReady, hlatch]
  unfold startActivities
  dsimp only
  rw [if_neg (by simp [hequalize]), tryEqualize_of_not hequalize, tryTest_of_idle htest hwaiting]

/-- In a quiet state nothing starts. -/
theorem startActivities_of_quiet (h : Quiet s) : startActivities s = s := by
  obtain ⟨-, -, hlatch, htest, hwaiting, hrequest, -⟩ := h
  rw [startActivities_of_idle hlatch htest hwaiting]
  exact if_neg (by simp [keyClaimReady, hrequest])

section
variable (hvisit : s.visits.current = some v)
include hvisit

theorem visitClosed_aftermath :
    Aftermath (visitMoved .terminal v s) (visitClosed s) :=
  Aftermath.trans (endVisit_aftermath hvisit) (startActivities_aftermath _)

theorem visitClosed_visits : (visitClosed s).visits = (visitMoved .terminal v s).visits := by
  simp [visitClosed, endVisit_visits hvisit]

theorem visitClosed_returnedBy : ReturnedBy v.number (visitClosed s) := by
  have hqueue : (visitClosed s).queue = (endVisit .terminal s).queue := by simp [visitClosed]
  unfold ReturnedBy
  rw [hqueue]
  exact endVisit_returnedBy hvisit

theorem visitClosed_of_quiet (h : Quiet s) : visitClosed s = endVisit .terminal s :=
  startActivities_of_quiet (endVisit_quiet hvisit h)

end

theorem visitClosed_noTest (h : s.hasTest = false) : (visitClosed s).hasTest = false :=
  startActivities_noTest ((State.hasTest_congr (by rw [endVisit_stack])).trans h)

/-! ## VISIT_CLOSE (R152) -/

section
variable {a b : Byte}

/-- VISIT_CLOSE at the station. -/
def visitCloseAsked (term : Nat) (tag a b : Byte) (s : State) : State :=
  request term 2#8 tag [a, b] (serveVisitClose (256 * a.toNat + b.toNat)) s

theorem exec_visitClose : exec (.visitClose term tag [a, b]) s = .next (visitCloseAsked term tag a b s) := by
  rw [visitCloseAsked, ← arg16_pair a b]
  rfl

theorem visitClose_bad (hservable : Servable term 2#8 tag [a, b] s) (hn : 256 * a.toNat + b.toNat = 0) :
    Refused term 2#8 tag [a, b] 9#8 s (visitCloseAsked term tag a b s) :=
  request_refused (c := .bad) hservable rfl (by simp) (if_pos hn) rfl

variable (hn : 256 * a.toNat + b.toNat ≠ 0)
include hn

theorem visitClose_noVisit (hservable : Servable term 2#8 tag [a, b] s) (hvisit : s.visits.current = none) :
    Refused term 2#8 tag [a, b] 7#8 s (visitCloseAsked term tag a b s) := by
  refine request_refused (c := .noVisit) hservable rfl (by simp) ?_ rfl
  have hnone : (countReceived s).visits.current = none := hvisit
  unfold serveVisitClose
  rw [if_neg hn, hnone]

variable (hvisit : s.visits.current = some v)
include hvisit

/-- With a visit open, VISIT_CLOSE goes by its number, its origin and the WITHDRAWAL that it owns. -/
theorem serveVisitClose_eq : serveVisitClose (256 * a.toNat + b.toNat) (countReceived s) =
    if 256 * a.toNat + b.toNat ≠ v.number then answer .notFound (countReceived s)
    else if !v.origin.isTerminalOrigin then answer .state (countReceived s)
    else if ownsWithdrawal v.number s then answer .state (countReceived s)
    else answer .done (closeByTerminal (countReceived s)) := by
  have hsome : (countReceived s).visits.current = some v := hvisit
  have howns : ownsWithdrawal v.number (countReceived s) = ownsWithdrawal v.number s := rfl
  simp only [serveVisitClose, hsome, howns]
  rw [if_neg hn]

theorem visitClose_notFound (hservable : Servable term 2#8 tag [a, b] s) (hother : 256 * a.toNat + b.toNat ≠ v.number) :
    Refused term 2#8 tag [a, b] 6#8 s (visitCloseAsked term tag a b s) :=
  request_refused (c := .notFound) hservable rfl (by simp) ((serveVisitClose_eq hn hvisit).trans (if_pos hother)) rfl

theorem visitClose_state (hservable : Servable term 2#8 tag [a, b] s) (hnumber : 256 * a.toNat + b.toNat = v.number)
    (hheld : v.origin = .key ∨ ∃ w, s.withdrawal? = some w ∧ w.owner = some (256 * a.toNat + b.toNat)) :
    Refused term 2#8 tag [a, b] 5#8 s (visitCloseAsked term tag a b s) := by
  refine request_refused (c := .state) hservable rfl (by simp) ?_ rfl
  rw [serveVisitClose_eq hn hvisit, if_neg (not_not.mpr hnumber)]
  split
  · rfl
  · next horigin =>
    rcases hheld with hkey | ⟨w, hw, howner⟩
    · simp [hkey, VisitOrigin.isTerminalOrigin] at horigin
    · rw [if_pos (by simp [ownsWithdrawal, hw, howner, hnumber])]

variable {k : Nat} (hnumber : 256 * a.toNat + b.toNat = v.number) (horigin : v.origin = .terminal k)
  (hfree : ∀ w, s.withdrawal? = some w → w.owner ≠ some (256 * a.toNat + b.toNat)) (hnormal : s.visits.stable = .normal)
include hnumber horigin hfree hnormal

theorem serveVisitClose_closes : serveVisitClose (256 * a.toNat + b.toNat) (countReceived s)
    = answer .done (visitClosed (countReceived s)) := by
  have hfree' : ownsWithdrawal v.number s = false := by
    unfold ownsWithdrawal
    split
    · next w hw => simpa [hnumber] using hfree w hw
    · rfl
  have hclosed : closeByTerminal (countReceived s) = visitClosed (countReceived s) :=
    reopenForKey_of_normal (by simpa using hnormal)
  rw [serveVisitClose_eq hn hvisit, if_neg (not_not.mpr hnumber), if_neg (by simp [horigin, VisitOrigin.isTerminalOrigin]),
    if_neg (by simp [hfree']), hclosed]

variable (hservable : Servable term 2#8 tag [a, b] s)
include hservable

/-- What VISIT_CLOSE leaves: the visit in the history, none open, and no item TAKEN by it (R153). -/
theorem visitClose_closes (htest : s.hasTest = false) :
    let t := visitCloseAsked term tag a b s
    Aftermath (answered term 2#8 tag [a, b] 0#8 [] (visitMoved .terminal v s)) t
      ∧ t.visits.current = none ∧ ReturnedBy v.number t := by
  have hserve := serveVisitClose_closes hn hvisit hnumber horigin hfree hnormal
  obtain ⟨u, hends, hbeside⟩ := request_ends (r := 0#8) (data := []) hservable rfl (by simp) (by rw [hserve]; rfl)
    (by rw [hserve]; rfl) (congrArg Served.state hserve)
  obtain ⟨-, -, -, hstack, -⟩ := hbeside.keeps
  obtain ⟨-, -, -, -, -, -, hvisits, hqueue, -, -⟩ := hbeside.rest
  have hvisit' : (countReceived s).visits.current = some v := hvisit
  have hno : u.hasTest = false :=
    (State.hasTest_congr (congrArg Stack.frames hstack)).trans (visitClosed_noTest (s := countReceived s) htest)
  intro t
  have ht : t = finish s u := hends
  rw [ht]
  refine ⟨request_aftermath (u := visitMoved .terminal v s) (visitClosed_aftermath hvisit') hbeside s, ?_, ?_⟩
  · refine (finish_sameVisit s u).none ?_
    rw [hvisits]
    exact congrArg Visits.current (visitClosed_visits hvisit')
  · unfold ReturnedBy
    rw [finish_queue_of_noTest s hno, hqueue]
    exact visitClosed_returnedBy hvisit'

/-- In a quiet state with room in the queue, the RECORD of the closed visit leaves in a frame of its own (R153). -/
theorem visitClose_record (hquiet : Quiet s) (hroom : s.line.tx.length < 6) :
    closingRecord .terminal v s ∈ (visitCloseAsked term tag a b s).line.tx := by
  have hvisit' : (countReceived s).visits.current = some v := hvisit
  have hquiet' : Quiet (countReceived s) := hquiet
  obtain ⟨-, -, hsends, -⟩ := id hservable
  obtain ⟨hown, -⟩ := id hquiet
  have hserve : (serveVisitClose (256 * a.toNat + b.toNat) (countReceived s)).state = endVisit .terminal (countReceived s) := by
    rw [serveVisitClose_closes hn hvisit hnumber horigin hfree hnormal, visitClosed_of_quiet hvisit' hquiet']
    rfl
  rw [visitCloseAsked, request_served hservable rfl (by simp)]
  refine finish_mem ((handResult_besideQueues _ _ _ _).quiet ?_) (handResult_mem_of_mem ?_) nofun
  · rw [hserve]
    exact endVisit_quiet hvisit' hquiet'
  · rw [hserve]
    exact endVisit_mem (s := countReceived s) hvisit hown hsends hroom

end

/-- Settles O52: each request by the checks in their order, then by what the visit that opens or closes leaves for the end of the event. -/
theorem visitRequests : Obligations.VisitRequests := by
  refine ⟨fun s term tag a b c d hservable => ⟨_, exec_visitOpen, visitOpen_bad hservable,
      fun hleast hmost => visitOpen_busy hleast hmost hservable, fun hleast hmost => visitOpen_opens hleast hmost hservable⟩,
    fun s term tag a b hservable => ⟨_, exec_visitClose, visitClose_bad hservable, fun hn => visitClose_noVisit hn hservable,
      fun v hn hvisit => ⟨visitClose_notFound hn hvisit hservable, visitClose_state hn hvisit hservable,
        fun hnumber k horigin hfree hnormal htest => ?_⟩⟩⟩
  obtain ⟨haftermath, hnone, hreturned⟩ := visitClose_closes hn hvisit hnumber horigin hfree hnormal hservable htest
  exact ⟨haftermath, hnone, hnumber ▸ hreturned, visitClose_record hn hvisit hnumber horigin hfree hnormal hservable⟩

end

end Sys2Proof.Machine
end

section
/-! PROOFS. The settled moves of the key (R144 to R147): what each leaves before the end of its event. -/

namespace Sys2Proof.Machine

open Sys2Proof.Safety

section
variable {s : State} {v : Visit} {w : WithdrawalFrame} {rest : List Frame} {p : KeyPosition}

/-! ## The position read (R144) -/

/-- The key stands in a position. -/
def KeyStands (p : KeyPosition) (s : State) : Prop := s.pins.keyS = (p == .service) ∧ s.pins.keyW = (p == .withdraw)

/-- The part with its settle timer stopped and a position taken as the stable one. -/
def keySettled (p : KeyPosition) (s : State) : State := { s with visits := { s.visits with settleTimer := none, stable := p } }

/-- The part once its settle timer has ended and the position has been read, before the end of the event. -/
def keyRead (s : State) : State := settleKey { s with visits := { s.visits with settleTimer := none } }

theorem exec_keySettleTimerExpiry (h : s.visits.settleTimer.isSome = true) :
    exec .keySettleTimerExpiry s = .next (finish s (keyRead s)) := by
  change Host.Outcome.next _ = _
  rw [if_neg (by simpa [Option.isSome_iff_ne_none] using h), keyRead]

theorem KeyStands.position (h : KeyStands p s) : keyPosition s.pins = some p := by
  obtain ⟨hservice, hwithdraw⟩ := h
  unfold keyPosition
  rw [hservice, hwithdraw]
  cases p <;> rfl

theorem keyRead_of_none (h : keyPosition s.pins = none) : keyRead s = keySettled s.visits.stable s := by
  unfold keyRead settleKey
  rw [h]
  rfl

theorem keyRead_of_stable (h : KeyStands s.visits.stable s) : keyRead s = keySettled s.visits.stable s := by
  unfold keyRead settleKey
  rw [h.position]
  exact if_pos rfl

theorem keyRead_of_move {old : KeyPosition} (h : KeyStands p s) (hold : s.visits.stable = old) (hne : p ≠ old) :
    keyRead s = keyEffects old p (keySettled p s) := by
  unfold keyRead settleKey
  rw [h.position, ← hold]
  exact if_neg (by rwa [hold])

/-! ## Out of NORMAL (R145, R146) -/

/-- The part that a move out of NORMAL with no visit open leaves, but for what the visit ends. -/
def keyOpened (p : KeyPosition) (s : State) : State :=
  { keySettled p s with visits := { (visitCounted s.cfg.keyPlanned (keySettled p s)).visits with
      requestHeld := s.visits.requestHeld || p == .withdraw } }

theorem openForKey_of_none (h : s.visits.current = none) : openForKey s = openVisit .key 0 s.cfg.keyPlanned s := by
  simp [openForKey, h, openKeyVisit]

/-- The effects of a move out of NORMAL: the key visit opens, and in WITHDRAW the request is held. -/
theorem keyEffects_opens (hvisit : s.visits.current = none) (hp : p ≠ .normal) :
    keyEffects .normal p (keySettled p s) =
      let t := openVisit .key 0 s.cfg.keyPlanned (keySettled p s)
      { t with visits := { t.visits with requestHeld := s.visits.requestHeld || p == .withdraw } } := by
  have hopens : openForKey (keySettled p s) = openVisit .key 0 s.cfg.keyPlanned (keySettled p s) := openForKey_of_none hvisit
  have hheld : (openVisit .key 0 s.cfg.keyPlanned (keySettled p s)).visits.requestHeld = s.visits.requestHeld := by
    rw [openVisit_visits]
    rfl
  cases p with
  | normal => exact absurd rfl hp
  | service =>
    change openForKey _ = _
    have hsame := (Bool.or_false s.visits.requestHeld).trans hheld.symm
    rw [hopens]
    dsimp only
    rw [show (s.visits.requestHeld || KeyPosition.service == .withdraw) = _ from hsame]
  | withdraw =>
    change holdRequest (openForKey _) = _
    rw [hopens]
    simp [holdRequest]

theorem keyEffects_opens_aftermath (hvisit : s.visits.current = none) (hp : p ≠ .normal) :
    Aftermath (keyOpened p s) (keyEffects .normal p (keySettled p s)) := by
  have hopened := openVisit_aftermath .key 0 s.cfg.keyPlanned (keySettled p s)
  rw [keyEffects_opens hvisit hp]
  unfold Aftermath at hopened ⊢
  rw [hopened]
  rfl

theorem keyEffects_opens_noTestAhead (hvisit : s.visits.current = none) (hp : p ≠ .normal) :
    NoTestAhead (keyEffects .normal p (keySettled p s)) := by
  rw [keyEffects_opens hvisit hp]
  exact openVisit_noTestAhead .key 0 s.cfg.keyPlanned (keySettled p s)

theorem keyEffects_opens_current (hvisit : s.visits.current = none) (hp : p ≠ .normal) :
    (keyEffects .normal p (keySettled p s)).visits.current = some (newVisit .key 0 s.cfg.keyPlanned s) := by
  rw [keyEffects_opens hvisit hp]
  exact congrArg Visits.current (openVisit_visits .key 0 s.cfg.keyPlanned (keySettled p s))

/-! ## The return that a move asks for (R132, R147) -/

/-- A WITHDRAWAL frame whose return has started (R130, R132). -/
def underReturn (cfg : Settings) (w : WithdrawalFrame) : WithdrawalFrame :=
  { w with phase := .returning, returnRequested := false, timer := some (10 * cfg.transferTimeout) }

/-- The WITHDRAWAL frame `w`, on top of `rest`, returns, with the pulse that opens the breaker (R130, R132). -/
def returningOver (w : WithdrawalFrame) (rest : List Frame) (s : State) : State :=
  { s with
    stack := { s.stack with frames := .withdrawal (underReturn s.cfg w) :: rest }
    bypass := { s.bypass with pulse := some { kind := .mbpo, left := 5 } } }

theorem withdrawal?_of_top (hframes : s.stack.frames = .withdrawal w :: rest) : s.withdrawal? = some w := by
  rw [State.withdrawal?, hframes]
  rfl

/-- A change of the WITHDRAWAL frame leaves an EQUALIZE under it alone. -/
theorem changeWithdrawal_of_top (f : WithdrawalFrame → WithdrawalFrame) (hframes : s.stack.frames = .withdrawal w :: rest)
    (hrest : equalizeAtMost rest = true) : changeWithdrawal f s = setFrames (.withdrawal (f w) :: rest) s := by
  unfold changeWithdrawal
  rw [hframes]
  unfold equalizeAtMost at hrest
  split at hrest
  · rfl
  · rfl
  · cases hrest

theorem askReturn_of_withdrawn (hframes : s.stack.frames = .withdrawal w :: rest) (hrest : equalizeAtMost rest = true)
    (hphase : w.phase = .withdrawn) (hpulse : s.bypass.pulse = none) : askReturn s = returningOver w rest s := by
  unfold askReturn
  rw [withdrawal?_of_top hframes]
  dsimp only
  rw [hphase]
  dsimp only
  unfold startReturn
  rw [changeWithdrawal_of_top _ hframes hrest]
  have hissued (k : PulseKind) (t : State) (ht : t.bypass.pulse = none) : askPulse k t = issuePulse k t := by simp [askPulse, ht]
  exact hissued .mbpo (setFrames (.withdrawal (underReturn s.cfg w) :: rest) s) hpulse

theorem askReturn_of_noWithdrawal (h : s.hasWithdrawal = false) : askReturn s = s := by
  simp [askReturn, withdrawal?_eq_none_iff.mpr h]

theorem abandonKey_of_notClaiming (h : s.claiming = false) : abandonKey s = s := by
  unfold abandonKey
  split
  · split
    · exact yieldClaim_of_notClaiming h .abandoned
    · rfl
  · rfl

theorem dropRequest_of_notClaiming (h : s.claiming = false) :
    dropRequest s = { s with visits := { s.visits with requestHeld := false } } := by
  have hstill : ({ s with visits := { s.visits with requestHeld := false } } : State).claiming = false := h
  exact abandonKey_of_notClaiming hstill

/-! ## To NORMAL (R147, R153) -/

/-- A key visit that waits for its close. -/
def closePending (v : Visit) : Visit := { v with closePending := true }

section
variable (hvisit : s.visits.current = some v) (horigin : v.origin = .key)
include hvisit horigin

/-- A key visit that owns a WITHDRAWAL frame waits for its removal (R147). -/
theorem pendClose_of_owner (hw : s.withdrawal? = some w) (howner : w.owner = some v.number) :
    pendClose s = { s with visits := { s.visits with current := some (closePending v) } } := by
  have howns : ownsWithdrawal v.number (changeVisit closePending s) = true := by
    have hw' : (changeVisit closePending s).withdrawal? = some w := hw
    simp [ownsWithdrawal, hw', howner]
  unfold pendClose
  rw [hvisit]
  dsimp only
  rw [if_pos horigin]
  refine (if_pos howns).trans ?_
  simp [changeVisit, hvisit, closePending]

/-- A key visit that owns none closes at once (R147). -/
theorem pendClose_of_free (hw : s.hasWithdrawal = false) (hnormal : s.visits.stable = .normal) :
    pendClose s = endVisit .key (changeVisit closePending s) := by
  have hfree : ownsWithdrawal v.number (changeVisit closePending s) = false := by
    have hw' : (changeVisit closePending s).withdrawal? = none := withdrawal?_eq_none_iff.mpr hw
    simp [ownsWithdrawal, hw']
  have hcurrent : (changeVisit closePending s).visits.current = some (closePending v) := by simp [hvisit]
  unfold pendClose
  rw [hvisit]
  dsimp only
  rw [if_pos horigin]
  refine (if_neg (ne_true_of_eq_false hfree)).trans ?_
  change closeVisit .key (changeVisit closePending s) = _
  unfold closeVisit
  rw [hcurrent]
  exact reopenForKey_of_normal (by simpa using hnormal)

end

end

end Sys2Proof.Machine
end

section
/-! PROOFS. The settled moves of the key through the end of their events (R144 to R147), and the overdue visit (R143). -/

namespace Sys2Proof.Machine

open Sys2Proof.Safety

section
variable {s t u : State} {v : Visit} {w : WithdrawalFrame} {rest : List Frame}

/-! ## A withdrawal that the end of an event gives its owner (R146) -/

/-- The WITHDRAWAL frame `w` is on top of the stack, over nothing or an EQUALIZE. -/
def WithdrawalOnTop (w : WithdrawalFrame) (s : State) : Prop :=
  ∃ rest, s.stack.frames = .withdrawal w :: rest ∧ equalizeAtMost rest = true

theorem equalizeAtMost_sublist {fs gs : List Frame} (h : equalizeAtMost gs = true) (hsub : fs.Sublist gs) :
    equalizeAtMost fs = true := by
  unfold equalizeAtMost at h
  split at h
  · rw [List.sublist_nil.mp hsub]
    rfl
  · rcases List.sublist_singleton.mp hsub with rfl | rfl <;> rfl
  · cases h

theorem WithdrawalOnTop.refreshed (h : WithdrawalOnTop w s) : WithdrawalOnTop w (refresh s) := h

/-- An abort takes no WITHDRAWAL frame off. -/
theorem WithdrawalOnTop.aborted (h : WithdrawalOnTop w s) (k : Aborted s t) : WithdrawalOnTop w t := by
  obtain ⟨rest, hframes, hrest⟩ := h
  obtain ⟨-, -, -, -, -, -, -, -, hleft, hkept, -⟩ := k
  rw [FramesLeft, hframes, List.sublist_cons_iff] at hleft
  rcases hleft with hgone | ⟨fs, hfs, hsub⟩
  · obtain ⟨-, hno, -⟩ := equalizeAtMost_kinds (s := t) (equalizeAtMost_sublist hrest hgone)
    have hyes : t.hasWithdrawal = true := hkept.trans (by simp [State.hasWithdrawal, hframes, Frame.isWithdrawal])
    exact absurd (hyes.symm.trans hno) nofun
  · exact ⟨fs, hfs, equalizeAtMost_sublist hrest hsub⟩

/-- Over a WITHDRAWAL frame nothing is pushed: a commit that is due gives its claim up (R40, R117). -/
theorem WithdrawalOnTop.tryCommit (h : WithdrawalOnTop w s) : tryCommit s = s ∨ tryCommit s = yieldClaim .abandoned s := by
  obtain ⟨rest, hframes, -⟩ := h
  unfold Machine.tryCommit commit
  split
  · split
    · exact .inl rfl
    · next c _ =>
      have hrefused : pushAllowed c.kind s.stack.frames = false := by
        rw [hframes]
        cases c.kind <;> rfl
      rw [hrefused]
      exact .inr rfl
  · exact .inl rfl

/-- Up to the commit, the end of an event leaves such a frame, and the open visit as it was. -/
theorem WithdrawalOnTop.committed (h : WithdrawalOnTop w u) :
    WithdrawalOnTop w (Machine.tryCommit (refresh (supportAbort (refresh (conditionAborts (yieldIfMust (refresh u)))))))
      ∧ (Machine.tryCommit (refresh (supportAbort (refresh (conditionAborts (yieldIfMust (refresh u))))))).visits = u.visits := by
  have hyielded := h.refreshed.aborted (yieldIfMust_aborted _)
  have haborted := ((hyielded.aborted (conditionAborts_aborted _)).refreshed.aborted (supportAbort_aborted _)).refreshed
  rcases haborted.tryCommit with hnext | hnext <;> rw [hnext]
  · exact ⟨haborted, by simp⟩
  · exact ⟨haborted.aborted (yieldClaim_aborted .abandoned _), by simp⟩

theorem giveOwner_of_ownerless (h : WithdrawalOnTop w s) (howner : w.owner = none) (hheld : s.visits.requestHeld = true)
    (hvisit : s.visits.current = some v) :
    (giveOwner s).visits.current = some { v with used := true }
      ∧ WithdrawalOnTop { w with owner := some v.number } (giveOwner s) := by
  obtain ⟨rest, hframes, hrest⟩ := h
  have hownerless : (s.visits.requestHeld && ownerless s) = true := by
    simp [hheld, ownerless, withdrawal?_of_top hframes, howner]
  have hgiven : giveOwner s = changeVisit (fun u => { u with used := true })
      (setFrames (.withdrawal { w with owner := some v.number } :: rest) s) := by
    unfold giveOwner
    rw [if_pos hownerless, assignWithdrawal, hvisit]
    dsimp only
    rw [changeWithdrawal_of_top _ hframes hrest]
  rw [hgiven]
  exact ⟨congrArg (Option.map _) hvisit, rest, rfl, hrest⟩

/-- While the request is held, a WITHDRAWAL frame without owner ends the event as the open visit's (R53, R146). -/
theorem WithdrawalOnTop.finish (h : WithdrawalOnTop w u) (howner : w.owner = none) (hheld : u.visits.requestHeld = true)
    (hvisit : u.visits.current = some v) (before : State) :
    (finish before u).withdrawal? = some { w with owner := some v.number }
      ∧ (finish before u).visits.current = some { v with used := true } := by
  obtain ⟨htop, hvisits⟩ := h.committed
  generalize hc : Machine.tryCommit (refresh (supportAbort (refresh (conditionAborts (yieldIfMust (refresh u)))))) = c at htop hvisits
  obtain ⟨hcurrent, rest, hframes, -⟩ := giveOwner_of_ownerless (s := refresh c) htop howner (by simpa [hvisits] using hheld)
    (by simpa [hvisits] using hvisit)
  have hsettle : settle u = retakeConsent (startActivities (handOwedClaim (giveOwner (refresh c)))) := by rw [← hc]; rfl
  have hnone : equalizeReady (handOwedClaim (giveOwner (refresh c))) = false := by
    have hbusy : (handOwedClaim (giveOwner (refresh c))).stackEmpty = false := by simp [State.stackEmpty, hframes]
    simp [equalizeReady, hbusy]
  have hstack : (settle u).stack = (giveOwner (refresh c)).stack := by
    rw [hsettle]
    exact (startActivities_stack hnone).trans (by simp)
  constructor
  · refine withdrawal?_of_top (rest := rest) ?_
    rw [finish_stack, hstack, hframes]
  · have hkept : (Machine.finish before u).visits.current = (giveOwner (refresh c)).visits.current := by
      simp [Machine.finish, hsettle]
    rw [hkept, hcurrent]

/-! ## The claim that a held request makes (R107, R146) -/

/-- At a quiet station that may claim a withdrawal, the held request of the key makes the claim at the end of the event. -/
theorem finish_claimsForKey (hquiet : Quiet s) (hfollow : ConditionsFollow s) (hframes : s.stack.frames = [])
    (hmay : mayClaim s .withdraw = true) (hvisit : s.visits.current = some v) (before : State)
    (hu : u = { s with visits := { u.visits with current := s.visits.current } }) (hheld : u.visits.requestHeld = true) :
    ∃ c, (finish before u).claims.own = some c ∧ c.kind = .withdraw ∧ c.origin = .key ∧ c.owner = some v.number
      ∧ c.holding = false := by
  obtain ⟨hown, -, hlatch, htestLatch, hwaiting, -, -⟩ := hquiet
  have hfollowed : refresh u = u := refresh_of_follows (by rw [hu]; exact hfollow)
  have hempty : u.stack.frames = [] := by rw [hu]; exact hframes
  have hidle : u.claiming = false := claiming_of_noClaim (by rw [hu]; exact hown)
  have hkey : startActivities u = tryKey u :=
    startActivities_of_idle (by rw [hu]; exact hlatch) (by rw [hu]; exact htestLatch) (by rw [hu]; exact hwaiting)
  have hready : keyClaimReady u = true := by
    have hopen : u.visits.current = some v := by rw [hu]; exact hvisit
    have hmay' : mayClaim u .withdraw = true := by rw [hu]; exact hmay
    simp [keyClaimReady, hheld, State.visitOpen, hopen, hmay']
  have hsettle : settle u = retakeConsent (makeClaim .withdraw .key (u.visits.current.map Visit.number) u) := by
    rw [settle_of_still (still_of_unclaimed (by simp [State.hasTest, hempty]) (by simp [State.hasEqualize, hempty]) hidle),
      hfollowed, giveOwner_of_noWithdrawal (by simp [State.hasWithdrawal, hempty]), handOwedClaim_of_notClaiming hidle, hkey, tryKey,
      if_pos hready]
  have howner : u.visits.current.map Visit.number = some v.number := by rw [hu]; simp [hvisit]
  rw [finish_claims, hsettle]
  exact ⟨_, makeClaim_own _ _ _ u, rfl, rfl, howner, rfl⟩

/-! ## To NORMAL (R147, R153) -/

/-- The key visit that closes is the one that was open, its record made and its items returned. -/
theorem endVisit_of_pending (hvisit : s.visits.current = some v) (htest : s.hasTest = false) (before : State) :
    let t := finish before (endVisit .key (changeVisit closePending s))
    Aftermath (visitMoved .key (closePending v) s) t
      ∧ t.visits.current = none ∧ ReturnedBy v.number t := by
  have hpending : (changeVisit closePending s).visits.current = some (closePending v) := by simp [hvisit]
  intro t
  refine ⟨?_, (finish_sameVisit before _).none (congrArg Visits.current (endVisit_visits hpending)), ?_⟩
  · have hmoved : visitMoved .key (closePending v) (changeVisit closePending s) = visitMoved .key (closePending v) s := rfl
    exact Aftermath.trans (hmoved ▸ endVisit_aftermath hpending) (finish_aftermath before _)
  · have hno : (endVisit .key (changeVisit closePending s)).hasTest = false :=
      (State.hasTest_congr (by rw [endVisit_stack]; rfl)).trans htest
    unfold ReturnedBy
    rw [finish_queue_of_noTest before hno]
    exact endVisit_returnedBy (v := closePending v) hpending

/-! ## The overdue visit (R143) -/

/-- The part whose open visit, if there is one, is overdue, with the timer stopped. -/
def visitOverdue (s : State) : State :=
  { s with visits := { s.visits with
      overdueTimer := none, current := s.visits.current.map fun v => { v with overdue := true } } }

theorem exec_overdueTimerExpiry (h : s.visits.overdueTimer.isSome = true) :
    exec .overdueTimerExpiry s = .next (finish s (visitOverdue s)) := by
  change Host.Outcome.next _ = _
  rw [if_neg (by simpa [Option.isSome_iff_ne_none] using h)]
  rfl

theorem finish_visitOverdue_active (before s : State) :
    (finish before (visitOverdue s)).monitor.active.visitOverdue = s.visits.current.isSome := by
  rw [finish_visitOverdue, visitOverdue]
  cases s.visits.current <;> rfl

/-! ## The statement, move by move -/

section
variable {p : KeyPosition}

/-- Out of NORMAL the key visit stands at the end of the event, and no test does (R142, R145). -/
theorem key_opens (hp : KeyStands p s) (hne : p ≠ .normal) (hstable : s.visits.stable = .normal) (hvisit : s.visits.current = none) :
    Aftermath (keyOpened p s) (finish s (keyRead s)) ∧ (finish s (keyRead s)).hasTest = false
      ∧ ∃ used, (finish s (keyRead s)).visits.current = some { newVisit .key 0 s.cfg.keyPlanned s with used := used } := by
  rw [keyRead_of_move hp hstable hne]
  exact ⟨Aftermath.trans (keyEffects_opens_aftermath hvisit hne) (finish_aftermath s _),
    (keyEffects_opens_noTestAhead hvisit hne).finish s,
    (finish_sameVisit s _).some (keyEffects_opens_current hvisit hne)⟩

/-- The part with the key back in SERVICE and the withdraw request dropped. -/
def keyBack (s : State) : State :=
  { keySettled .service s with visits := { (keySettled .service s).visits with requestHeld := false } }

/-- From WITHDRAW to SERVICE the request is dropped and a return asked (R147). -/
theorem keyRead_returns (hp : KeyStands .service s) (hstable : s.visits.stable = .withdraw) (hclaiming : s.claiming = false) :
    keyRead s = askReturn (keyBack s) := by
  rw [keyRead_of_move hp hstable nofun]
  exact congrArg askReturn (dropRequest_of_notClaiming (s := keySettled .service s) hclaiming)

/-- From SERVICE to NORMAL a return is asked, and the key visit closes or waits (R147). -/
theorem keyRead_closes (hp : KeyStands .normal s) (hstable : s.visits.stable = .service) :
    keyRead s = pendClose (askReturn (keySettled .normal s)) := keyRead_of_move hp hstable nofun

variable (hp : KeyStands .normal s) (hstable : s.visits.stable = .service) (hvisit : s.visits.current = some v)
  (horigin : v.origin = .key)
include hp hstable hvisit horigin

theorem keyRead_closes_free (hfree : s.hasWithdrawal = false) :
    keyRead s = endVisit .key (changeVisit closePending (keySettled .normal s)) := by
  rw [keyRead_closes hp hstable, askReturn_of_noWithdrawal (s := keySettled .normal s) hfree]
  exact pendClose_of_free (s := keySettled .normal s) hvisit horigin hfree rfl

theorem keyRead_closes_owner (hframes : s.stack.frames = .withdrawal w :: rest) (hrest : equalizeAtMost rest = true)
    (hphase : w.phase = .withdrawn) (howner : w.owner = some v.number) (hpulse : s.bypass.pulse = none) :
    keyRead s = returningOver w rest { keySettled .normal s with visits := { (keySettled .normal s).visits with
      current := some (closePending v) } } := by
  rw [keyRead_closes hp hstable, askReturn_of_withdrawn (s := keySettled .normal s) hframes hrest hphase hpulse]
  exact pendClose_of_owner (s := returningOver w rest (keySettled .normal s)) hvisit horigin (withdrawal?_of_top rfl) howner

end

end

/-- Settles O51: each move by the state that the read position leaves, and then the end of its event. -/
theorem keyMovesAndOverdueVisit : Obligations.KeyMovesAndOverdueVisit := by
  refine ⟨fun s hsettles => ⟨_, exec_keySettleTimerExpiry hsettles, fun hservice hwithdraw => ?_, fun hstands => ?_,
      fun p hp hne hstable hvisit => key_opens hp hne hstable hvisit, fun v hp hstable hvisit => ?_,
      fun hp hstable hclaiming => ⟨fun hfree => ?_, fun w rest hframes hrest hphase hpulse => ?_⟩,
      fun v hp hstable hvisit horigin => ⟨fun hfree htest => ?_, fun w rest hframes hrest hphase howner hpulse => ?_⟩⟩,
    fun s hoverdue => ⟨_, exec_overdueTimerExpiry hoverdue, finish_after s _, finish_visitOverdue_active s s⟩⟩
  · rw [keyRead_of_none (by simp [keyPosition, hservice, hwithdraw])]
    exact finish_after s _
  · rw [keyRead_of_stable hstands]
    exact finish_after s _
  · have hread : keyRead s = holdRequest (keySettled .withdraw s) := keyRead_of_move hp hstable nofun
    rw [hread]
    refine ⟨finish_aftermath s _, fun w rest hframes hrest howner => ?_, fun hquiet hfollow hframes hmay => ?_⟩
    · have htop : WithdrawalOnTop w (holdRequest (keySettled .withdraw s)) := ⟨rest, hframes, hrest⟩
      exact htop.finish howner rfl hvisit s
    · exact finish_claimsForKey hquiet hfollow hframes hmay hvisit s rfl rfl
  · rw [keyRead_returns hp hstable hclaiming, askReturn_of_noWithdrawal (s := keyBack s) hfree]
    exact finish_after s _
  · rw [keyRead_returns hp hstable hclaiming, askReturn_of_withdrawn (s := keyBack s) hframes hrest hphase hpulse]
    exact finish_after s _
  · rw [keyRead_closes_free hp hstable hvisit horigin hfree]
    exact endVisit_of_pending (s := keySettled .normal s) hvisit htest s
  · rw [keyRead_closes_owner hp hstable hvisit horigin hframes hrest hphase howner hpulse]
    exact finish_after s _

end Sys2Proof.Machine
end
